-- ==== Sys2Proof/Word.lean ====
section
/-! DEFINITION. The words of the Tefnor T48's wires: bytes, tags, character strings. Quantities are integers (R1). -/

namespace Sys2Proof

/-- One byte of a transaction (R200, R214). -/
abbrev Byte := BitVec 8

/-- The tag of a request frame, echoed in its answer (R214). -/
abbrev Tag := BitVec 16

/-- A character string: its character codes in order (R2, R3). -/
abbrev Text := List Byte

end Sys2Proof
end

