-- ==== Sys2Proof/Config.lean ====
section
/-! DEFINITION. What the spec fixes as a number (1.7) and what it leaves free. -/

namespace Sys2Proof.Config

/-- Entries of the specimen queue (1.7, R4). -/
def queueCapacity : Nat := 16

/-- Records of the results list (1.7, R188). -/
def resultsCapacity : Nat := 8

/-- Pages of the capture store (1.7, R173). -/
def pageCount : Nat := 128

/-- Entries of one capture page (1.7, R173). -/
def pageEntries : Nat := 256

/-- Entries of a test's event list (1.7, R129). -/
def eventCapacity : Nat := 24

/-- DESIGN CHOICE (log entry 5), safe: FREE. Whether a request of this kind code that carries no parameters is refused with
BAD_PARAMETER when its frame brings some: the spec does not say. -/
opaque surplusRefused : Byte → Bool

/-- DESIGN CHOICE (log entry 7), safe: FREE. The four bytes sent for a number that four signed bytes cannot hold (R214). -/
opaque oversizeNumber : Int → BitVec 32

/-- DESIGN CHOICE (log entry 29), safe: FREE. The two bytes sent, with a yield used, for a negative ratio or for an absent one (Rm not
above 0): R214 lays out neither (R197). -/
opaque openRatio : Option Int → BitVec 16

/-- DESIGN CHOICE (log entry 4), safe: FREE. The points left in a site table whose programming a reset cut short (R213); the
argument is the number of the draw. -/
opaque interruptedTable : Nat → List (Int × Int)

end Sys2Proof.Config
end

