-- ==== Sys2Proof/Syntax.lean ====
section
/-! DEFINITION. The commands of the T48: one constructor of `Instr` for each row of spec/opcode_table.json, with the operands
the rules give the row. A request's operands are its parameters as R214 lays them out. -/

namespace Sys2Proof

/-- The three serial target ports (1.2). -/
inductive Port | sequencer | cell | record
  deriving DecidableEq, Repr

/-- How a taken request's frame stands (R202, R214): `whole`, its parameters lay out the request's fields; `badLength`, the
parameter length is over 512 or is not the number of bytes received; `badLayout`, the bytes do not lay out the fields (too few
or too many bytes, or a code that names no value of its field). -/
inductive FrameForm | whole | badLength | badLayout
  deriving DecidableEq, Repr

/-- What every request carries besides its parameters (R200, R214). -/
structure Req where
  port : Port
  tag : Tag
  form : FrameForm
  deriving DecidableEq, Repr

/-- Up and down, for JOG (R77) and for the encoder's edges (R67); for the extensometer's edges up adds (R41). -/
inductive Direction | up | down
  deriving DecidableEq, Repr

/-- The two hard-limit switches (R80). -/
inductive LimitSide | upper | lower
  deriving DecidableEq, Repr

/-- The shape of a specimen (R2). -/
inductive Shape | flat | round
  deriving DecidableEq, Repr

/-- The specimen record as ENQUEUE SPECIMEN carries it, before its check (R2). -/
structure SpecimenParams where
  id : Text
  heat : Text
  grade : Int
  shape : Shape
  width : Option Int
  thickness : Option Int
  diameter : Option Int
  le : Option Int
  lc : Int
  plan : Int
  rush : Bool
  retestOf : Text
  deriving DecidableEq, Repr

/-- The fields CONFIGURE FRAME may name (R64, R65). -/
structure FrameUpdate where
  sampleInterval : Option Int
  fcap : Option Int
  lowerSoft : Option Int
  upperSoft : Option Int
  referencePosition : Option Int
  searchRate : Option Int
  searchLimit : Option Int
  vmax : Option Int
  jogLimit : Option Int
  creepRate : Option Int
  approach : Option Int
  band : Option Int
  holdTime : Option Int
  brakeTime : Option Int
  retractPosition : Option Int
  deriving DecidableEq, Repr

/-- Removal mode (R54, R55); `goOn` is the spec's CONTINUE. -/
inductive RemovalMode | hold | goOn
  deriving DecidableEq, Repr

/-- The four rounding modes (R1, 1.6). -/
inductive RoundMode | nearest | down | up | truncate
  deriving DecidableEq, Repr

/-- A stage's control mode (R104). -/
inductive ControlMode | xhRate | strainRate | stressRate | hold
  deriving DecidableEq, Repr

/-- A stage's end condition kind (R104, R116); `never` is the spec's NONE. -/
inductive EndKind | strainGe | forceGe | stressGe | yieldEnd | handover | timeGe | never
  deriving DecidableEq, Repr

/-- A stage's successor (R104). -/
inductive Successor | stage (index : Nat) | next
  deriving DecidableEq, Repr

/-- A stage's timeout action (R104, R118). -/
inductive TimeoutAction | abort | successor
  deriving DecidableEq, Repr

/-- A stage of a plan (R104). -/
structure StageDef where
  mode : ControlMode
  rate : Int
  endKind : EndKind
  endValue : Option Int
  successor : Successor
  timeoutMs : Int
  timeoutAction : TimeoutAction
  deriving DecidableEq, Repr

/-- The general fields DEFINE PLAN may give; an omitted field takes its default (R103). -/
structure PlanUpdate where
  preloadForce : Option Int
  preloadRate : Option Int
  extRequired : Option Bool
  placementTimeout : Option Int
  removalStrain : Option Int
  removalDrop : Option Int
  removalMode : Option RemovalMode
  removalTimeout : Option Int
  slipThreshold : Option Int
  rpOffset : Option Int
  fitLow : Option Int
  fitHigh : Option Int
  eNom : Option Int
  yieldDrop : Option Int
  yieldLimit : Option Int
  fractureFraction : Option Int
  fractureFloor : Option Int
  tailSamples : Option Int
  divisor : Option Int
  initialRange : Option Int
  autoRange : Option Bool
  settleSamples : Option Int
  kc : Option Int
  roundMode : Option RoundMode
  stressRes : Option Int
  strainRes : Option Int
  deriving DecidableEq, Repr

/-- A point of a calibration table (R26, R209). -/
structure CalPoint where
  code : Int
  force : Int
  deriving DecidableEq, Repr

/-- The two sections of the calibration store (R209). -/
inductive CalSection | site | factory
  deriving DecidableEq, Repr

/-- The six bounds of a DEFINED grade entry; `none` is ANY (R194). -/
structure GradeLimits where
  yieldMin : Option Int
  yieldMax : Option Int
  rmMin : Option Int
  rmMax : Option Int
  aMin : Option Int
  ratioMax : Option Int
  deriving DecidableEq, Repr

/-- The 39 request kinds, in the order of the permission table of R202, read row by row. -/
inductive RequestKind
  | readStatus | readLive | readFlags | ackFlags | setNotices | readQueue | nop
  | configureFrame | setRange | tare | clearFaults | definePlan | readPlan | referenceSearch | startTest | holdTest | resumeTest | abortTest | adjustRate
  | claimFrame | releaseFrame | moveTo | stopMotion | collectCompletion
  | jog | retract | specimenMounted | specimenUnmounted | extensometerPlaced | extensometerRemoved
  | enqueueSpecimen | cancelSpecimen | setGradeLimits | readGradeLimits | collectResult | peekResult | readPage | writeSiteCalibration | readCalibration
  deriving DecidableEq, Repr

/-- The commands, in the order of spec/opcode_table.json. -/
inductive Instr
  | readStatus (r : Req)
  | readLive (r : Req)
  | readFlags (r : Req)
  | ackFlags (r : Req) (flags : BitVec 16)
  | setNotices (r : Req) (enables : BitVec 16) (promoted : Byte)
  | readQueue (r : Req)
  | nop (r : Req)
  | configureFrame (r : Req) (u : FrameUpdate)
  | setRange (r : Req) (range : Int)
  | tare (r : Req)
  | clearFaults (r : Req)
  | definePlan (r : Req) (id : Int) (g : PlanUpdate) (stages : List StageDef)
  | readPlan (r : Req) (id : Int)
  | referenceSearch (r : Req)
  | startTest (r : Req)
  | holdTest (r : Req)
  | resumeTest (r : Req)
  | abortTest (r : Req)
  | adjustRate (r : Req) (rate : Int)
  | claimFrame (r : Req)
  | releaseFrame (r : Req)
  | moveTo (r : Req) (target speed : Int)
  | stopMotion (r : Req)
  | collectCompletion (r : Req)
  | jog (r : Req) (dir : Direction) (speed duration : Int)
  | retract (r : Req)
  | specimenMounted (r : Req) (id : Text) (width thickness diameter : Option Int)
  | specimenUnmounted (r : Req)
  | extensometerPlaced (r : Req)
  | extensometerRemoved (r : Req)
  | enqueueSpecimen (r : Req) (p : SpecimenParams)
  | cancelSpecimen (r : Req) (id : Text)
  | setGradeLimits (r : Req) (grade : Int) (limits : Option GradeLimits)
  | readGradeLimits (r : Req) (grade : Int)
  | collectResult (r : Req)
  | peekResult (r : Req)
  | readPage (r : Req)
  | writeSiteCalibration (r : Req) (sect : CalSection) (range : Int) (points : List CalPoint)
  | readCalibration (r : Req)
  | unknownRequest (port : Port) (tag : Tag) (kind : Byte)
  | writeNotTaken (port : Port) (bytes : List Byte)
  | readTransaction (port : Port) (clocked : Nat)
  | powerOnReset
  | warmReset
  | sampleTimerExpiry
  | loadFaultDeclaration
  | conversionEndStrobe
  | sampleArrival (code : Int)
  | stageTimeout (code : Int)
  | endOfTail (code : Int)
  | placementTimeout
  | removalTimeout
  | brakeReleaseExpiry
  | holdTimerExpiry
  | jogDurationExpiry
  | activation
  | encoderEdge (dir : Direction)
  | searchTravelLimit (dir : Direction)
  | extQuadratureEdge (dir : Direction)
  | referenceSwitchEvent
  | referenceSwitchRelease
  | hardLimitSwitchEvent (side : LimitSide)
  | hardLimitSwitchRelease (side : LimitSide)
  | gateOpening
  | gateClosing
  | emergencyStopAssertion
  | emergencyStopRelease
  | calProgrammingCompletion (readBack : List CalPoint)
  deriving DecidableEq, Repr

end Sys2Proof
end

