-- ==== Sys2Proof/Machine/State.lean ====
section
/-! DEFINITION. The state of the T48: every piece of state spec/ gives the block, as plain data, and its value after a power-on
reset. Quantities are integers in the units of 1.6 (R1). -/

namespace Sys2Proof.Machine

/-! ### Specimens (chapter 1) -/

/-- The bands of the specimen queue (R4). -/
inductive Band | returned | rush | normal
  deriving DecidableEq, Repr

/-- Dimensions in µm, by shape (R2). -/
inductive Dims
  | flat (width thickness : Int)
  | round (diameter : Int)
  deriving DecidableEq, Repr

/-- An accepted specimen record (R2); `heat` and `retestOf` are absent when empty. -/
structure SpecimenRecord where
  id : Text
  heat : Text
  grade : Fin 32
  dims : Dims
  le : Option Int
  lc : Int
  plan : Fin 8
  rush : Bool
  retestOf : Text
  deriving DecidableEq, Repr

/-- A queued record with its band (R4). -/
structure QueuedSpecimen where
  specimen : SpecimenRecord
  band : Band
  deriving DecidableEq, Repr

/-- The states of a slot that is not EMPTY (R8). -/
inductive SlotState | mounted | testing | tested
  deriving DecidableEq, Repr

/-- Which dimensions were measured (R11). -/
structure MeasuredMarks where
  width : Bool
  thickness : Bool
  diameter : Bool
  deriving DecidableEq, Repr

/-- The contents of a slot that is not EMPTY (R8, R11). -/
structure MountedSpecimen where
  state : SlotState
  specimen : SpecimenRecord
  used : Dims
  measured : MeasuredMarks
  area : Int
  deriving DecidableEq, Repr

/-- The specimen table (SPT): the queue, head first, and the mounted slot, `none` being EMPTY (R4, R8). -/
structure Specimens where
  queue : List QueuedSpecimen
  slot : Option MountedSpecimen
  deriving DecidableEq, Repr

/-! ### Load channel (chapter 2) -/

/-- The four load ranges (R31). -/
inductive LoadRange | r1 | r2 | r3 | r4
  deriving DecidableEq, Repr

/-- One thing for each load range. -/
structure PerRange (α : Type) where
  r1 : α
  r2 : α
  r3 : α
  r4 : α
  deriving DecidableEq, Repr

/-- Where a sample's combined strain comes from (R45); `away` is the spec's NONE. -/
inductive StrainSource | ext | xh | away
  deriving DecidableEq, Repr

/-- What is latched at a conversion-end strobe (R20): the extensometer count (R41) and the position (R67). -/
structure Latch where
  extCount : BitVec 32
  position : Int
  deriving DecidableEq, Repr

/-- A conversion in flight: the range it started on (R31) and, once its strobe has passed, its latch (R20). -/
structure Conversion where
  range : LoadRange
  latch : Option Latch
  deriving DecidableEq, Repr

/-- A sample set (R24) with the source of its strain (R45). -/
structure SampleSet where
  number : Option Nat
  range : LoadRange
  code : Int
  overRange : Bool
  gross : Int
  force : Int
  stress : Option Int
  invalid : Bool
  saturated : Bool
  extCount : BitVec 32
  position : Int
  strain : Int
  source : StrainSource
  deriving DecidableEq, Repr

/-- The test peak record (R38). -/
structure Peak where
  force : Int
  number : Nat
  stress : Int
  strain : Int
  deriving DecidableEq, Repr

/-- A range's active calibration table and the section it was taken from (R25). -/
structure ActiveTable where
  source : CalSection
  points : List CalPoint
  deriving DecidableEq, Repr

/-- The load channel (LDC; R40 lists its state). -/
structure LoadChannel where
  sampleInterval : Int
  conversion : Option Conversion
  missCount : Nat
  loadFault : Bool
  overload : Bool
  range : LoadRange
  settle : Nat
  tare : Int
  active : PerRange ActiveTable
  latest : Option SampleSet
  lastValidGross : Option Int
  peak : Option Peak
  deriving DecidableEq, Repr

/-! ### Extensometer channel (chapter 3) -/

/-- The extensometer states (R46). -/
inductive ExtState | parked | attached | placeRequested | active | removeRequested | fault
  deriving DecidableEq, Repr

/-- The strain basis (R42). -/
structure StrainBasis where
  le : Option Int
  lc : Int
  p0 : Int
  h : Int
  deriving DecidableEq, Repr

/-- The record of the slip tracker (R59). -/
structure SlipRecord where
  ext : Int
  number : Nat
  force : Int
  xh : Int
  deriving DecidableEq, Repr

/-- The strains of the last valid sample that arrived in ACTIVE (R46); `number` is `none` for the zeros that R48 sets. -/
structure ActiveStrain where
  ext : Int
  xh : Int
  number : Option Nat
  deriving DecidableEq, Repr

/-- The extensometer channel (EXC; R63 lists its state). A timer is `none` while stopped, else its elapsed µs. -/
structure Extensometer where
  state : ExtState
  count : BitVec 32
  basis : Option StrainBasis
  placement : Option Int
  removal : Option Int
  tracker : Option SlipRecord
  lastActive : Option ActiveStrain
  deriving DecidableEq, Repr

/-! ### Crosshead controller (chapter 4) -/

/-- The frame configuration (R64). -/
structure FrameConfig where
  sampleInterval : Int
  fcap : Int
  lowerSoft : Int
  upperSoft : Int
  referencePosition : Int
  searchRate : Int
  searchLimit : Int
  vmax : Int
  jogLimit : Int
  creepRate : Int
  approach : Int
  band : Int
  holdTime : Int
  brakeTime : Int
  retractPosition : Int
  deriving DecidableEq, Repr

/-- The drive states (R68). -/
inductive DriveState | disabled | releasing | moving | holding
  deriving DecidableEq, Repr

/-- The crosshead controller (XHC; R84 lists its state). A timer is `none` while stopped, else the ms it runs for. -/
structure Crosshead where
  config : FrameConfig
  locked : Bool
  position : Int
  referenceValid : Bool
  drive : DriveState
  brakeTimer : Option Int
  holdTimer : Option Int
  jogTimer : Option Int
  searchTravel : Int
  word : Int
  deriving DecidableEq, Repr

/-! ### Outcomes and causes (R98, R127, R202, R214) -/

/-- The outcomes of a request, in the order of R214. -/
inductive RequestOutcome
  | ok | queued | waiting | granted | withdrawn | dropped
  | notPermitted | unknownRequest | badParameter | wrongState | noClaim | alreadyHeld | notHeld | outstanding | uncollected
  | noReference | estopActive | gateOpen | atLimit | loadFault | queueFull | duplicate | unknownSpecimen | badGeometry | mounted
  | testInProgress | resultsFull | planInvalid | planInUse | faultsPending | calBusy | isProtected | badTable | isLocked
  | tareRange | empty
  deriving DecidableEq, Repr

/-- The abort causes, in the order of R127. -/
inductive AbortCause
  | operator | estop | overload | loadFault | hardLimit | softLimit | stageTimeout | equipmentCheck
  deriving DecidableEq, Repr

/-- The motion outcomes, in the order of R98. -/
inductive MotionOutcome
  | done | doneClamped | stopped | stoppedGate | stoppedLimit | preempted | cancelled | estop | equipmentCheck | overload
  | loadFault | notStarted | testComplete | testAborted
  deriving DecidableEq, Repr

/-- The reason of a completion record (R98). -/
inductive Reason
  | refusal (o : RequestOutcome)
  | abort (c : AbortCause)
  deriving DecidableEq, Repr

/-! ### Motion arbiter (chapter 5) -/

/-- A motion request with its parameters (R90). -/
inductive MotionJob
  | referenceSearch
  | moveTo (target speed : Int)
  | startTest
  | jog (dir : Direction) (speed duration : Int)
  | retract
  deriving DecidableEq, Repr

/-- A queued motion request (R90). -/
structure MotionRequest where
  port : Port
  tag : Tag
  job : MotionJob
  deriving DecidableEq, Repr

/-- The phases of a reference search (R71); `waiting` until the drive is MOVING. -/
inductive SearchPhase | waiting | upward | downward
  deriving DecidableEq, Repr

/-- The work of the active motion (R71, R74, R75, R77). -/
inductive ActiveJob
  | search (phase : SearchPhase)
  | move (target speed : Int) (clamped : Bool) (profile : Int)
  | retract (target speed profile : Int)
  | jog (dir : Direction) (speed duration : Int)
  | test
  deriving DecidableEq, Repr

/-- The active motion (R90). -/
structure ActiveMotion where
  port : Port
  tag : Tag
  job : ActiveJob
  deriving DecidableEq, Repr

/-- The motion kinds of a completion record (R98). -/
inductive MotionKind | referenceSearch | moveTo | startTest | jog | retract
  deriving DecidableEq, Repr

/-- A completion record (R98). -/
structure Completion where
  kind : MotionKind
  tag : Tag
  outcome : MotionOutcome
  reason : Option Reason
  position : Option Int
  serial : Option (BitVec 16)
  deriving DecidableEq, Repr

/-- The motion arbiter (MAR; R85, R90). -/
structure Arbiter where
  holder : Option Port
  waiter : Option Port
  queue : List MotionRequest
  active : Option ActiveMotion
  seqSlot : Option Completion
  cellSlot : Option Completion
  deriving DecidableEq, Repr

/-! ### Test plans and the test executive (chapters 6 and 8) -/

/-- A defined plan (R103, R104). -/
structure Plan where
  preloadForce : Int
  preloadRate : Int
  extRequired : Bool
  placementTimeout : Int
  removalStrain : Int
  removalDrop : Int
  removalMode : RemovalMode
  removalTimeout : Int
  slipThreshold : Int
  rpOffset : Int
  fitLow : Int
  fitHigh : Int
  eNom : Int
  yieldDrop : Int
  yieldLimit : Int
  fractureFraction : Int
  fractureFloor : Int
  tailSamples : Int
  divisor : Int
  initialRange : LoadRange
  autoRange : Bool
  settleSamples : Int
  kc : Int
  roundMode : RoundMode
  stressRes : Int
  strainRes : Int
  stages : List StageDef
  deriving DecidableEq, Repr

/-- The held causes (R120), in the order of R214. -/
inductive HoldCause | sequencer | gate | extRemoval | extLate
  deriving DecidableEq, Repr

/-- The return state of a held test (R120). -/
inductive ReturnState | preload | placing | running
  deriving DecidableEq, Repr

/-- The test states outside IDLE (R108), with the held cause and return state, and the tail count. -/
inductive TestPhase
  | preload
  | placing
  | running
  | held (cause : HoldCause) (ret : ReturnState)
  | tail (count : Int)
  deriving DecidableEq, Repr

/-- The current stage (R108, R115). -/
structure StageRun where
  index : Nat
  rate : Int
  elapsed : Int
  endLogged : Bool
  timeoutLogged : Bool
  deriving DecidableEq, Repr

/-- The event kinds, in the order of R129. -/
inductive EventKind
  | preloadEnd | stage | stageEnd | stageTimeout | hold | resume | rateChanged | fracture | rangeUp | handover
  | yieldDrop | yieldEnd | rpFound | captureThin | captureLoss
  deriving DecidableEq, Repr

/-- An entry of the event list (R129). -/
structure Event where
  kind : EventKind
  number : Nat
  value : Int
  deriving DecidableEq, Repr

/-- The result flags that blocks other than the result evaluator set (R190). -/
structure TestFlags where
  captureGap : Bool
  extNotPlaced : Bool
  extSlip : Bool
  extUnannounced : Bool
  extLate : Bool
  extOnAtFracture : Bool
  rangeStepped : Bool
  deriving DecidableEq, Repr

/-- A sample as the result evaluator remembers it (R146, R149), with its force for the FRACTURE event (R124). -/
structure SamplePoint where
  number : Nat
  force : Int
  stress : Int
  strain : Int
  source : StrainSource
  deriving DecidableEq, Repr

/-- The fit states (R150). -/
inductive FitState | notStarted | opened | valid | invalid | notFitted
  deriving DecidableEq, Repr

/-- The modulus fit (R146, R151, R153). -/
structure ModulusFit where
  state : FitState
  n : Int
  sumX : Int
  sumY : Int
  sumXX : Int
  sumXY : Int
  e : Option Int
  eps0 : Option Int
  deriving DecidableEq, Repr

/-- The search states (R155). -/
inductive SearchState | waiting | searching | found | notReached | notRun
  deriving DecidableEq, Repr

/-- An exact rational value, numerator and positive denominator (R156). -/
structure ExactRatio where
  num : Int
  den : Int
  deriving DecidableEq, Repr

/-- The offset-yield search (R146): the previous searched sample as (σ, D), and Rp_exact. -/
structure OffsetSearch where
  state : SearchState
  previous : Option (Int × Int)
  rp : Option ExactRatio
  deriving DecidableEq, Repr

/-- The tracker states (R160). -/
inductive TrackerState | rising | inPhase | ended
  deriving DecidableEq, Repr

/-- The yield tracker (R146, R160). -/
structure YieldTracker where
  state : TrackerState
  sigmaMax : Option Int
  reH : Option Int
  reL : Option Int
  deriving DecidableEq, Repr

/-- The results in progress (R146). -/
structure Evaluation where
  saturated : Bool
  lastValid : Option SamplePoint
  fracture : Option SamplePoint
  fit : ModulusFit
  search : OffsetSearch
  tracker : YieldTracker
  fitInvalid : Bool
  rpNotReached : Bool
  nominalE : Bool
  deriving DecidableEq, Repr

/-- The test context (R108). `arrivals` counts the arrivals since activation (R24): it is the number the arrival in progress, or
between arrivals the next arrival, carries. -/
structure TestContext where
  serial : BitVec 16
  planId : Fin 8
  plan : Plan
  specimenId : Text
  phase : TestPhase
  stage : Option StageRun
  fractureNumber : Option Nat
  events : List Event
  dropped : Nat
  flags : TestFlags
  handoverMark : Bool
  arrivals : Nat
  rev : Evaluation
  deriving DecidableEq, Repr

/-- The test executive (TEX; R103, R108, R109): `test` is `none` in IDLE. -/
structure Executive where
  plans : Vector (Option Plan) 8
  serial : BitVec 16
  test : Option TestContext
  deriving DecidableEq, Repr

/-! ### Rate loop (chapter 7) -/

/-- The loop modes (R131); `off` is the spec's NONE. -/
inductive LoopMode | xhRate | strainRate | stressRate | hold | off
  deriving DecidableEq, Repr

/-- The seed states (R131). -/
inductive SeedState | seeded | pending
  deriving DecidableEq, Repr

/-- The rate loop (RLP; R131). -/
structure RateLoop where
  mode : LoopMode
  rate : Option Int
  target : Option Int
  seed : SeedState
  setPoint : Int
  deriving DecidableEq, Repr

/-! ### Capture store (chapter 9) -/

/-- An entry of a capture page (R177). -/
structure CaptureEntry where
  number : Nat
  force : Int
  stress : Int
  strain : Int
  extCount : BitVec 32
  position : Int
  setPoint : Int
  invalid : Bool
  saturated : Bool
  strainXh : Bool
  held : Bool
  event : Bool
  deriving DecidableEq, Repr

/-- A page that is not FREE (R174); its entry count is the length of `entries`. `own`: it is one of the capturing test's own pages
(R176). -/
structure CapturePage where
  serial : BitVec 16
  index : Nat
  first : Nat
  last : Bool
  entries : List CaptureEntry
  own : Bool
  deriving DecidableEq, Repr

/-- The capture context (R176). -/
structure CaptureContext where
  serial : BitVec 16
  taken : Nat
  stored : Nat
  thinned : Nat
  lost : Nat
  level : Nat
  nextIndex : Nat
  filling : Option CapturePage
  lossRun : Bool
  pendingEvent : Bool
  deriving DecidableEq, Repr

/-- The capture store (CPS): the hand-out order of FULL pages (R175), and the capture context while CAPTURING (R176). -/
structure CaptureStore where
  full : List CapturePage
  capture : Option CaptureContext
  deriving DecidableEq, Repr

/-! ### Results list and grade check (chapter 10) -/

/-- How a test closed (R128). -/
inductive Closure
  | complete
  | aborted (cause : AbortCause)
  deriving DecidableEq, Repr

/-- What the result evaluator hands over at closure (R171). -/
structure FinalResults where
  reH : Option Int
  reL : Option Int
  rp : Option Int
  rm : Option Int
  e : Option Int
  ag : Option Int
  a : Option Int
  source : Option StrainSource
  roundMode : RoundMode
  stressRes : Int
  strainRes : Int
  saturated : Bool
  fitInvalid : Bool
  rpNotReached : Bool
  nominalE : Bool
  deriving DecidableEq, Repr

/-- Yield used (R197). -/
inductive YieldUsed | reH | rp
  deriving DecidableEq, Repr

/-- The verdicts, in the order of R198. -/
inductive Verdict | notChecked | incomplete | low | high | conforms
  deriving DecidableEq, Repr

/-- The checked fields, in the order of R198. -/
inductive CheckedField | yield | rm | a | ratio
  deriving DecidableEq, Repr

/-- The failures, in the order of R198. -/
inductive FieldFailure | absent | low | high
  deriving DecidableEq, Repr

/-- A result record (R190). -/
structure ResultRecord where
  serial : BitVec 16
  specimen : SpecimenRecord
  used : Dims
  measured : MeasuredMarks
  area : Int
  closure : Closure
  results : FinalResults
  flags : TestFlags
  taken : Nat
  stored : Nat
  thinned : Nat
  lost : Nat
  events : List Event
  dropped : Nat
  yieldUsed : Option YieldUsed
  ratio : Option Int
  verdict : Verdict
  failing : List (CheckedField × FieldFailure)
  deriving DecidableEq, Repr

/-- The results list, the reservation and the grade limit table (RSL; R188, R194). -/
structure ResultsStore where
  results : List ResultRecord
  reserved : Bool
  limits : Vector (Option GradeLimits) 32
  deriving DecidableEq, Repr

/-! ### Calibration store (chapter 11) -/

/-- The validities of a site table (R209). -/
inductive SiteValidity | valid | invalid | programming
  deriving DecidableEq, Repr

/-- A range's site table (R209). -/
structure SiteTable where
  validity : SiteValidity
  points : List CalPoint
  deriving DecidableEq, Repr

/-- A write in flight: its range and the points written (R210). -/
structure CalWrite where
  range : LoadRange
  points : List CalPoint
  deriving DecidableEq, Repr

/-- The calibration store (CAL; R209, R210). -/
structure Calibration where
  factory : PerRange (List CalPoint)
  fullScale1 : Int
  fullScale2 : Int
  fullScale3 : Int
  site : PerRange SiteTable
  inFlight : Option CalWrite
  deriving DecidableEq, Repr

/-! ### Port interface (chapter 11) -/

/-- The notice flags' names (R203). -/
inductive Notice
  | estop | fault | reset | motionDone | testEnded | claimGranted | gate | extLate | extPlaceReq | extRemoveReq | unloadReq
  | resultReady | pageReady | capturePressure | queueEmpty | calDone
  deriving DecidableEq, Repr

/-- The states of a notice flag (R204). -/
inductive FlagState | clear | raised | seen
  deriving DecidableEq, Repr

/-- The fault kinds, in the order of R207. -/
inductive FaultKind | equipmentCheck | hardLimit | overload | loadFault | calVerify | extSlip
  deriving DecidableEq, Repr

/-- The fault word: for each kind whether it is in the word (R207). -/
structure FaultWord where
  equipmentCheck : Bool
  hardLimit : Bool
  overload : Bool
  loadFault : Bool
  calVerify : Bool
  extSlip : Bool
  deriving DecidableEq, Repr

/-- The condition of a port's motion request (R90). -/
inductive RequestCondition
  | absent
  | queued (position : Nat)
  | active
  | filed
  deriving DecidableEq, Repr

/-- The names of the test states, IDLE included (R108). -/
inductive TestStateName | idle | preload | placing | running | held | tail
  deriving DecidableEq, Repr

/-- READ STATUS: a port's own motion request (R90). -/
structure RequestReport where
  condition : RequestCondition
  kind : Option MotionKind
  tag : Option Tag
  deriving DecidableEq, Repr

/-- READ STATUS: the test (R108). -/
structure TestReport where
  state : TestStateName
  serial : Option (BitVec 16)
  plan : Option (Fin 8)
  stage : Option Nat
  elapsedMs : Option Int
  cause : Option HoldCause
  deriving DecidableEq, Repr

/-- READ STATUS: the rate loop (R131). -/
structure LoopReport where
  mode : LoopMode
  rate : Option Int
  seed : SeedState
  target : Option Int
  setPoint : Int
  deriving DecidableEq, Repr

/-- READ STATUS: the result evaluator, for the test in progress (R146). -/
structure EvaluationReport where
  fit : FitState
  n : Int
  e : Option Int
  eps0 : Option Int
  search : SearchState
  rp : Option Int
  tracker : TrackerState
  sigmaMax : Option Int
  reH : Option Int
  reL : Option Int
  fitInvalid : Bool
  rpNotReached : Bool
  nominalE : Bool
  saturated : Bool
  deriving DecidableEq, Repr

/-- READ STATUS: the capture context (R186). -/
structure CapturingReport where
  factor : Int
  taken : Nat
  stored : Nat
  thinned : Nat
  lost : Nat
  lossRun : Bool
  fillingCount : Option Nat
  deriving DecidableEq, Repr

/-- READ STATUS: the capture store (R186); `head` is reported on the record port only, `level` is 0 outside CAPTURING (R178). -/
structure CaptureReport where
  free : Nat
  fullCount : Nat
  head : Option (BitVec 16 × Nat)
  level : Nat
  capturing : Option CapturingReport
  deriving DecidableEq, Repr

/-- READ STATUS: the results list (R188). -/
structure ResultsReport where
  count : Nat
  reserved : Bool
  head : Option (BitVec 16 × Closure)
  deriving DecidableEq, Repr

/-- The READ STATUS payload (R202 and the chapters); an item a port does not get is `none`. -/
structure StatusReport where
  slot : Option SlotState
  locked : Bool
  referenceValid : Bool
  drive : DriveState
  holder : Option Port
  waiter : Option Port
  request : Option RequestReport
  test : TestReport
  events : Option (Option (Nat × Nat))
  loop : Option LoopReport
  evaluation : Option (Option EvaluationReport)
  capture : Option CaptureReport
  results : Option ResultsReport
  firstPending : Option Notice
  enables : List Notice
  promoted : Option Notice
  faults : Option (FaultWord × FaultWord)
  calInFlight : Option LoadRange
  deriving DecidableEq, Repr

/-- The READ LIVE payload (R24, R39, R45, R70). -/
structure LiveReport where
  latest : Option SampleSet
  tare : Int
  missCount : Nat
  loadFault : Bool
  overload : Bool
  peak : Option Peak
  extState : ExtState
  h : Option Int
  p0 : Option Int
  word : Int
  deriving DecidableEq, Repr

/-- The READ CALIBRATION payload of one range (R212). -/
structure RangeCalibration where
  factory : List CalPoint
  fullScale : Option Int
  validity : SiteValidity
  points : Option (List CalPoint)
  active : CalSection
  deriving DecidableEq, Repr

/-- A claim role (R89, R92). -/
inductive ClaimRole | holder | waiter
  deriving DecidableEq, Repr

/-- The payload of an answer, by its named fields. -/
inductive Payload
  | nothing
  | status (port : Port) (r : StatusReport)
  | live (r : LiveReport)
  | flags (port : Port) (states : List (Notice × FlagState))
  | specimens (queue : List QueuedSpecimen) (slot : Option MountedSpecimen)
  | config (c : FrameConfig)
  | tare (t : Int)
  | faults (w : FaultWord)
  | plan (p : Plan)
  | motion (c : RequestCondition) (role : Option ClaimRole)
  | completion (c : Completion)
  | limits (l : GradeLimits)
  | result (r : ResultRecord)
  | page (p : CapturePage)
  | calibration (ranges : PerRange RangeCalibration)
  deriving DecidableEq, Repr

/-- An answer held in a response buffer (R201); `kind` is the kind code echoed. -/
structure Answer where
  tag : Tag
  kind : Byte
  outcome : RequestOutcome
  overwritten : Bool
  payload : Payload
  deriving DecidableEq, Repr

/-- What a port's data out line has carried in its last read or write transaction: zero bytes throughout a write (R200), the bytes
of a read (R201). -/
inductive DataOut
  | zeros
  | shifted (bytes : List Byte)
  deriving DecidableEq, Repr

/-- A port's part of the port interface: its flags in the port's order (R203), enables and promoted kind (R205), response buffer
(R201), and its data out line (R200, R201). -/
structure PortState where
  flags : List (Notice × FlagState)
  enables : List Notice
  promoted : Option Notice
  buffer : Option Answer
  dataOut : DataOut
  deriving DecidableEq, Repr

/-- The port interface (PIF; R213 lists its state). -/
structure PortInterface where
  sequencer : PortState
  cell : PortState
  record : PortState
  faults : FaultWord
  deriving DecidableEq, Repr

/-! ### Direct inputs -/

/-- The levels of the direct inputs (R71, R80, R82, R83). -/
structure Inputs where
  gateOpen : Bool
  estop : Bool
  upperLimit : Bool
  lowerLimit : Bool
  referenceSwitch : Bool
  deriving DecidableEq, Repr

/-! ### The whole -/

/-- The state of the T48. `freeDraws` and `pending` are the model's own: the number of free values drawn so far (log entry 4) and
the commands that wait, first in first out. -/
structure State where
  spt : Specimens
  ldc : LoadChannel
  exc : Extensometer
  xhc : Crosshead
  mar : Arbiter
  tex : Executive
  rlp : RateLoop
  cps : CaptureStore
  rsl : ResultsStore
  pif : PortInterface
  cal : Calibration
  inputs : Inputs
  freeDraws : Nat
  pending : List Instr
  deriving DecidableEq, Repr

/-- The faults a step can end in: none. Every command of the block completes (a machine fault of the T48 is an entry of its fault
word, R207, and a next state), so no constructor is needed. -/
inductive Fault
  deriving DecidableEq, Repr

/-- The refusals a step can end in. -/
inductive Refusal
  /-- `exec` has no meaning for the command; raised by exec's own arms only, and safe. No arm raises it now. -/
  | notModelled (mnemonic : String)
  deriving DecidableEq, Repr

/-! ### Reset values -/

/-- The frame configuration at power-on (R64). -/
def powerOnConfig : FrameConfig :=
  { sampleInterval := 1000, fcap := 600000, lowerSoft := 20000, upperSoft := 1100000, referencePosition := 0,
    searchRate := 2000, searchLimit := 1300000, vmax := 10000, jogLimit := 1000, creepRate := 200, approach := 2000,
    band := 5, holdTime := 5000, brakeTime := 200, retractPosition := 1000000 }

/-- DESIGN CHOICE (log entry 2), unsafe: the factory section of the part at `State.reset`; the spec says only that it is written at
manufacture (R209). Ranges 1 and 2 carry the tables of R26's worked cases. -/
def manufacturedCalibration : Calibration :=
  { factory :=
      { r1 := [⟨-6000000, -75000⟩, ⟨0, 0⟩, ⟨6000000, 75000⟩], r2 := [⟨2000000, 100000⟩, ⟨4000000, 200100⟩],
        r3 := [⟨-6000000, -500000⟩, ⟨6000000, 500000⟩], r4 := [⟨-6000000, -600000⟩, ⟨6000000, 600000⟩] },
    fullScale1 := 100000, fullScale2 := 250000, fullScale3 := 500000,
    site := { r1 := ⟨.invalid, []⟩, r2 := ⟨.invalid, []⟩, r3 := ⟨.invalid, []⟩, r4 := ⟨.invalid, []⟩ },
    inFlight := none }

/-- The flags of each port in the port's order (R203). -/
def noticesOf : Port → List Notice
  | .sequencer => [.estop, .fault, .reset, .motionDone, .testEnded, .claimGranted, .gate, .extLate]
  | .cell => [.estop, .fault, .reset, .motionDone, .claimGranted, .extPlaceReq, .extRemoveReq, .unloadReq, .gate]
  | .record => [.estop, .fault, .reset, .resultReady, .pageReady, .capturePressure, .queueEmpty, .calDone, .testEnded]

/-- A port after either reset: flags CLEAR then RESET raised, every flag enabled, nothing promoted, the buffer EMPTY (R213). Nothing
has been shifted out since: DESIGN CHOICE (log entry 6), unsafe. -/
def resetPort (p : Port) : PortState :=
  { flags := (noticesOf p).map fun n => (n, if n = .reset then FlagState.raised else FlagState.clear),
    enables := noticesOf p, promoted := none, buffer := none, dataOut := .shifted [] }

/-- The port interface after either reset (R213). -/
def resetPorts : PortInterface :=
  { sequencer := resetPort .sequencer, cell := resetPort .cell, record := resetPort .record,
    faults := ⟨false, false, false, false, false, false⟩ }

/-- The factory table of every range is active (R25). -/
def factoryActive (c : Calibration) : PerRange ActiveTable :=
  { r1 := ⟨.factory, c.factory.r1⟩, r2 := ⟨.factory, c.factory.r2⟩, r3 := ⟨.factory, c.factory.r3⟩, r4 := ⟨.factory, c.factory.r4⟩ }

/-- The load channel after a reset, for the configured interval and the active tables (R40). -/
def resetLoad (interval : Int) (active : PerRange ActiveTable) : LoadChannel :=
  { sampleInterval := interval, conversion := none, missCount := 0, loadFault := false, overload := false, range := .r4,
    settle := 4, tare := 0, active := active, latest := none, lastValidGross := none, peak := none }

/-- The extensometer channel after either reset (R63). -/
def resetExtensometer : Extensometer :=
  { state := .parked, count := 0, basis := none, placement := none, removal := none, tracker := none, lastActive := none }

/-- The crosshead controller after a power-on reset (R84). -/
def resetCrosshead : Crosshead :=
  { config := powerOnConfig, locked := false, position := 0, referenceValid := false, drive := .disabled, brakeTimer := none,
    holdTimer := none, jogTimer := none, searchTravel := 0, word := 0 }

/-- The motion arbiter after either reset (R102). -/
def resetArbiter : Arbiter :=
  { holder := none, waiter := none, queue := [], active := none, seqSlot := none, cellSlot := none }

/-- The rate loop outside a test (R131). -/
def idleLoop : RateLoop :=
  { mode := .off, rate := none, target := none, seed := .seeded, setPoint := 0 }

/-- The machine right after a power-on reset of a part as manufactured: chapter by chapter R18, R40, R63, R84, R102, R130, R145,
R187, R199, R213. The input levels are log entry 3, the factory section log entry 2, `freeDraws` log entry 4. -/
def State.reset : State :=
  { spt := { queue := [], slot := none },
    ldc := resetLoad powerOnConfig.sampleInterval (factoryActive manufacturedCalibration),
    exc := resetExtensometer,
    xhc := resetCrosshead,
    mar := resetArbiter,
    tex := { plans := Vector.replicate 8 none, serial := 0, test := none },
    rlp := idleLoop,
    cps := { full := [], capture := none },
    rsl := { results := [], reserved := false, limits := Vector.replicate 32 none },
    pif := resetPorts,
    cal := manufacturedCalibration,
    inputs := { gateOpen := false, estop := false, upperLimit := false, lowerLimit := false, referenceSwitch := false },
    freeDraws := 0,
    pending := [] }

end Sys2Proof.Machine
end

