-- ==== Sys2Proof/Machine/Arith.lean ====
section
/-! DEFINITION. The arithmetic of 1.6 (R1): exact quotients rounded once, and clamps. Every divisor used is positive. -/

namespace Sys2Proof.Machine

/-- The quotient `num / den` rounded to the nearest integer, halves away from zero (R1, NEAREST), for `den > 0`. -/
def roundNearest (num den : Int) : Int :=
  if 0 ≤ num then (2 * num + den) / (2 * den) else -((2 * (-num) + den) / (2 * den))

/-- The quotient `num / den` rounded with a mode of R1, for `den > 0`. -/
def roundWith (mode : RoundMode) (num den : Int) : Int :=
  match mode with
  | .nearest => roundNearest num den
  | .down => num / den
  | .up => -((-num) / den)
  | .truncate => if 0 ≤ num then num / den else -((-num) / den)

/-- The exact value `num / den` rounded to resolution `r` (R169). -/
def roundToResolution (mode : RoundMode) (r num den : Int) : Int :=
  roundWith mode num (den * r) * r

/-- `x` brought inside `low..high` by clamping to the nearer bound (R1, saturation). -/
def clampTo (low high x : Int) : Int :=
  if x < low then low else if high < x then high else x

/-- `x` lies outside `low..high`, so that clamping it sets SATURATED (R1). -/
def outside (low high x : Int) : Bool :=
  x < low || high < x

/-- The bound of force, ±2,000,000 N (1.6, R27). -/
def forceBound : Int := 2000000

/-- The bound of stress, ±40,000 (0.1 MPa) (1.6, R28). -/
def stressBound : Int := 40000

/-- The bound of strain, ±1,000,000 µε (1.6, R45). -/
def strainBound : Int := 1000000

/-- The bound of the position counter, ±2,000,000 µm (1.6, R67). -/
def positionBound : Int := 2000000

/-- The value of a range's entry. -/
def PerRange.get {α : Type} (p : PerRange α) : LoadRange → α
  | .r1 => p.r1
  | .r2 => p.r2
  | .r3 => p.r3
  | .r4 => p.r4

/-- A range's entry replaced. -/
def PerRange.put {α : Type} (p : PerRange α) (r : LoadRange) (v : α) : PerRange α :=
  match r with
  | .r1 => { p with r1 := v }
  | .r2 => { p with r2 := v }
  | .r3 => { p with r3 := v }
  | .r4 => { p with r4 := v }

/-- The number 1..4 of a range (R31). -/
def rangeNumber : LoadRange → Int
  | .r1 => 1
  | .r2 => 2
  | .r3 => 3
  | .r4 => 4

/-- The range of a number, if it is 1..4 (R33). -/
def rangeOfNumber (n : Int) : Option LoadRange :=
  if n = 1 then some .r1 else if n = 2 then some .r2 else if n = 3 then some .r3 else if n = 4 then some .r4 else none

/-- The next range up; range 4 stays (R35). -/
def nextRange : LoadRange → LoadRange
  | .r1 => .r2
  | .r2 => .r3
  | .r3 => .r4
  | .r4 => .r4

/-- A sample number as a set carries it: it goes on from 0 after 4,294,967,295 (R177). -/
def sampleNumber (arrivals : Nat) : Nat :=
  arrivals % 4294967296

end Sys2Proof.Machine
end

