-- ==== Sys2Proof/Machine/Flags.lean ====
section
/-! DEFINITION. Notice flags, the attention lines and the fault word (R203 to R208). -/

namespace Sys2Proof.Machine

/-- A port's part of the port interface. -/
def State.portOf (s : State) : Port → PortState
  | .sequencer => s.pif.sequencer
  | .cell => s.pif.cell
  | .record => s.pif.record

/-- A port's part of the port interface replaced. -/
def State.setPort (s : State) (p : Port) (v : PortState) : State :=
  match p with
  | .sequencer => { s with pif := { s.pif with sequencer := v } }
  | .cell => { s with pif := { s.pif with cell := v } }
  | .record => { s with pif := { s.pif with record := v } }

/-- The state of a flag in a port's flag list; a flag the port does not have reads CLEAR. -/
def flagIn (flags : List (Notice × FlagState)) (n : Notice) : FlagState :=
  match flags with
  | [] => .clear
  | (m, f) :: rest => if m = n then f else flagIn rest n

/-- The state of a port's flag (R204). -/
def State.flag (s : State) (p : Port) (n : Notice) : FlagState :=
  flagIn (s.portOf p).flags n

/-- A flag list with the named flag set; a port that does not have the flag is unchanged (R203). -/
def setFlagIn (flags : List (Notice × FlagState)) (n : Notice) (f : FlagState) : List (Notice × FlagState) :=
  flags.map fun e => if e.1 = n then (e.1, f) else e

/-- Raise a notice on one port: the flag becomes RAISED from any state (R204). -/
def raise (p : Port) (n : Notice) (s : State) : State :=
  s.setPort p { s.portOf p with flags := setFlagIn (s.portOf p).flags n .raised }

/-- Raise a notice on every port (R207, R83). -/
def raiseAll (n : Notice) (s : State) : State :=
  raise .record n (raise .cell n (raise .sequencer n s))

/-- The states READ FLAGS leaves: RAISED becomes SEEN (R204). -/
def seenFlags (flags : List (Notice × FlagState)) : List (Notice × FlagState) :=
  flags.map fun e => if e.2 = .raised then (e.1, FlagState.seen) else e

/-- The states ACK FLAGS leaves: a named SEEN flag becomes CLEAR (R204). -/
def ackedFlags (named : List Notice) (flags : List (Notice × FlagState)) : List (Notice × FlagState) :=
  flags.map fun e => if e.2 = .seen && named.contains e.1 then (e.1, FlagState.clear) else e

/-- The pending flags with their states (R204). -/
def pendingFlags (flags : List (Notice × FlagState)) : List (Notice × FlagState) :=
  flags.filter fun e => e.2 != .clear

/-- The notices a flag word names on a port: bit n stands for the flag at position n + 1 (R214). -/
def noticesOfWord (p : Port) (w : BitVec 16) : List Notice :=
  ((noticesOf p).zipIdx.filter fun e => w.getLsbD e.2).map fun e => e.1

/-- A flag word names only flags the port has (R204, R205). -/
def wordFits (p : Port) (w : BitVec 16) : Bool :=
  w.toNat < 2 ^ (noticesOf p).length

/-- The promoted kind a byte names: 0 for NONE, else a flag's position (R214). Outer `none`: no flag of the port. -/
def promotedOfByte (p : Port) (b : Byte) : Option (Option Notice) :=
  if b = 0 then some none
  else match (noticesOf p)[b.toNat - 1]? with
    | some n => some (some n)
    | none => none

/-- The enabled pending flags of a port, in its order (R205). -/
def enabledPending (v : PortState) : List Notice :=
  ((pendingFlags v.flags).map fun e => e.1).filter fun n => v.enables.contains n

/-- The first pending kind of a port (R205). -/
def firstPending (v : PortState) : Option Notice :=
  match v.promoted with
  | some n => if (enabledPending v).contains n then some n else (enabledPending v).head?
  | none => (enabledPending v).head?

/-- A port's attention output: asserted while an enabled flag is pending (R206). -/
def State.attention (s : State) (p : Port) : Bool :=
  !(enabledPending (s.portOf p)).isEmpty

/-! ### The fault word -/

/-- A kind's place in the fault word (R207). -/
def FaultWord.has (w : FaultWord) : FaultKind → Bool
  | .equipmentCheck => w.equipmentCheck
  | .hardLimit => w.hardLimit
  | .overload => w.overload
  | .loadFault => w.loadFault
  | .calVerify => w.calVerify
  | .extSlip => w.extSlip

/-- The fault word with a kind entered (R207). -/
def FaultWord.enter (w : FaultWord) : FaultKind → FaultWord
  | .equipmentCheck => { w with equipmentCheck := true }
  | .hardLimit => { w with hardLimit := true }
  | .overload => { w with overload := true }
  | .loadFault => { w with loadFault := true }
  | .calVerify => { w with calVerify := true }
  | .extSlip => { w with extSlip := true }

/-- The fault word holds no kind (R110, FAULTS_PENDING). -/
def FaultWord.isEmpty (w : FaultWord) : Bool :=
  !(w.equipmentCheck || w.hardLimit || w.overload || w.loadFault || w.calVerify || w.extSlip)

/-- Enter a fault kind and raise FAULT on every port (R207). -/
def enterFault (k : FaultKind) (s : State) : State :=
  raiseAll .fault { s with pif := { s.pif with faults := s.pif.faults.enter k } }

/-- Whether a kind is active (R207). -/
def faultActive (s : State) : FaultKind → Bool
  | .equipmentCheck => false
  | .hardLimit => s.inputs.upperLimit || s.inputs.lowerLimit
  | .overload => s.ldc.overload
  | .loadFault => s.ldc.loadFault
  | .calVerify => false
  | .extSlip => false

/-- The kinds that stay in the word: those in it that are active (R208). -/
def activeFaults (s : State) : FaultWord :=
  { equipmentCheck := s.pif.faults.equipmentCheck && faultActive s .equipmentCheck,
    hardLimit := s.pif.faults.hardLimit && faultActive s .hardLimit,
    overload := s.pif.faults.overload && faultActive s .overload,
    loadFault := s.pif.faults.loadFault && faultActive s .loadFault,
    calVerify := s.pif.faults.calVerify && faultActive s .calVerify,
    extSlip := s.pif.faults.extSlip && faultActive s .extSlip }

end Sys2Proof.Machine
end

