-- ==== Sys2Proof/Machine/Ops.lean ====
section
/-! DEFINITION. The shared operations of the requests (answering, permission), of the test context (event list) and of the motion
arbiter's completion slots. -/

namespace Sys2Proof.Machine

/-- What a step answers. -/
abbrev Result := Host.Outcome State Fault Refusal

/-! ### Requests and answers (R200 to R202) -/

/-- What a block answers to a request: the state it leaves, the outcome and the payload. -/
structure Reply where
  state : State
  outcome : RequestOutcome
  payload : Payload
  deriving DecidableEq, Repr

/-- A refusal, or an acceptance without effect on the blocks and without payload (R202). -/
def Reply.plain (s : State) (o : RequestOutcome) : Reply :=
  { state := s, outcome := o, payload := .nothing }

/-- The kind codes 1..39, in the order of the permission table of R202 (R214). -/
def kindCode : RequestKind → Byte
  | .readStatus => 1 | .readLive => 2 | .readFlags => 3 | .ackFlags => 4 | .setNotices => 5 | .readQueue => 6 | .nop => 7
  | .configureFrame => 8 | .setRange => 9 | .tare => 10 | .clearFaults => 11 | .definePlan => 12 | .readPlan => 13
  | .referenceSearch => 14 | .startTest => 15 | .holdTest => 16 | .resumeTest => 17 | .abortTest => 18 | .adjustRate => 19
  | .claimFrame => 20 | .releaseFrame => 21 | .moveTo => 22 | .stopMotion => 23 | .collectCompletion => 24
  | .jog => 25 | .retract => 26 | .specimenMounted => 27 | .specimenUnmounted => 28 | .extensometerPlaced => 29
  | .extensometerRemoved => 30
  | .enqueueSpecimen => 31 | .cancelSpecimen => 32 | .setGradeLimits => 33 | .readGradeLimits => 34 | .collectResult => 35
  | .peekResult => 36 | .readPage => 37 | .writeSiteCalibration => 38 | .readCalibration => 39

/-- The permission table of R202. -/
def permitted (k : RequestKind) (p : Port) : Bool :=
  match k with
  | .readStatus | .readLive | .readFlags | .ackFlags | .setNotices | .readQueue | .nop => true
  | .configureFrame | .setRange | .tare | .clearFaults | .definePlan | .readPlan | .referenceSearch | .startTest | .holdTest
  | .resumeTest | .abortTest | .adjustRate => p == .sequencer
  | .claimFrame | .releaseFrame | .moveTo | .stopMotion | .collectCompletion => p == .sequencer || p == .cell
  | .jog | .retract | .specimenMounted | .specimenUnmounted | .extensometerPlaced | .extensometerRemoved => p == .cell
  | .enqueueSpecimen | .cancelSpecimen | .setGradeLimits | .readGradeLimits | .collectResult | .peekResult | .readPage
  | .writeSiteCalibration | .readCalibration => p == .record

/-- The kinds that carry parameters. -/
def hasParameters : RequestKind → Bool
  | .ackFlags | .setNotices | .configureFrame | .setRange | .definePlan | .readPlan | .adjustRate | .moveTo | .jog
  | .specimenMounted | .enqueueSpecimen | .cancelSpecimen | .setGradeLimits | .readGradeLimits | .writeSiteCalibration => true
  | .readStatus | .readLive | .readFlags | .readQueue | .nop | .tare | .clearFaults | .referenceSearch | .startTest | .holdTest
  | .resumeTest | .abortTest | .claimFrame | .releaseFrame | .stopMotion | .collectCompletion | .retract | .specimenUnmounted
  | .extensometerPlaced | .extensometerRemoved | .collectResult | .peekResult | .readPage | .readCalibration => false

/-- A request whose parameter bytes do not lay out its fields is refused before its block's own checks. Every parametered kind
but ADJUST RATE checks its parameters' form first; ADJUST RATE checks its state first (R119). DESIGN CHOICE (log entry 37), unsafe:
parameters with bytes left over after the last field are refused so too. READ QUEUE is never refused so (R7). For the other kinds
without parameters the spec does not say, and the answer is free (log entry 5). -/
def layoutRefused (k : RequestKind) (r : Req) : Bool :=
  r.form == .badLayout &&
    (if hasParameters k then k != .adjustRate else k != .readQueue && Config.surplusRefused (kindCode k))

/-- Place an answer in a port's response buffer; it carries OVERWRITTEN when the buffer held one (R201). The transaction that brought
the request was a write, with zero bytes on data out (R200). -/
def placeAnswer (p : Port) (tag : Tag) (kind : Byte) (reply : Reply) : State :=
  reply.state.setPort p
    { reply.state.portOf p with
      buffer := some
        { tag := tag, kind := kind, outcome := reply.outcome, overwritten := (reply.state.portOf p).buffer.isSome,
          payload := reply.payload },
      dataOut := .zeros }

/-- The port interface's checks, in order, and then the block (R202). -/
def checkedReply (k : RequestKind) (r : Req) (s : State) (body : State → Reply) : Reply :=
  if !permitted k r.port then .plain s .notPermitted
  else if r.form == .badLength then .plain s .badParameter
  else if layoutRefused k r then .plain s .badParameter
  else body s

/-- A request taken at the release of its select: checked, passed to its block, and answered (R200 to R202). -/
def request (k : RequestKind) (r : Req) (s : State) (body : State → Reply) : Result :=
  .next (placeAnswer r.port r.tag (kindCode k) (checkedReply k r s body))

/-! ### The test context and its event list (R108, R129) -/

/-- Change the test context, if there is one. -/
def updateTest (f : TestContext → TestContext) (s : State) : State :=
  { s with tex := { s.tex with test := s.tex.test.map f } }

/-- The name of the test state (R108). -/
def phaseName : TestPhase → TestStateName
  | .preload => .preload
  | .placing => .placing
  | .running => .running
  | .held _ _ => .held
  | .tail _ => .tail

/-- The test state (R108). -/
def State.testState (s : State) : TestStateName :=
  match s.tex.test with
  | none => .idle
  | some t => phaseName t.phase

/-- The test state is IDLE. -/
def State.testIdle (s : State) : Bool :=
  s.tex.test.isNone

/-- The phase of the test in progress. -/
def State.phase (s : State) : Option TestPhase :=
  s.tex.test.map fun t => t.phase

/-- The event list with one more entry, or the dropped count one higher (R129). -/
def TestContext.logEvent (t : TestContext) (e : Event) : TestContext :=
  if t.events.length < Config.eventCapacity then { t with events := t.events ++ [e] }
  else { t with dropped := min 65535 (t.dropped + 1) }

/-- Set the capture store's pending EVENT mark (R177): the arrival in progress, or between arrivals the next, is marked. -/
def markEvent (s : State) : State :=
  { s with cps := { s.cps with capture := s.cps.capture.map fun c => { c with pendingEvent := true } } }

/-- Enter an event with the sample number its rule names, and mark the sample EVENT, kept or dropped (R129, R177). -/
def addEventAt (k : EventKind) (number : Nat) (value : Int) (s : State) : State :=
  match s.tex.test with
  | none => s
  | some _ => markEvent (updateTest (fun t => t.logEvent ⟨k, number, value⟩) s)

/-- Enter an event whose rule names no sample: the number is that of the arrival in progress, or of the next (R129). -/
def addEvent (k : EventKind) (value : Int) (s : State) : State :=
  match s.tex.test with
  | none => s
  | some t => addEventAt k (sampleNumber t.arrivals) value s

/-- Change the result flags of the test in progress. -/
def setTestFlags (f : TestFlags → TestFlags) (s : State) : State :=
  updateTest (fun t => { t with flags := f t.flags }) s

/-- The number of a held cause in an event's value (R214). -/
def causeNumber : HoldCause → Int
  | .sequencer => 1
  | .gate => 2
  | .extRemoval => 3
  | .extLate => 4

/-! ### Completion slots (R90, R98) -/

/-- A port's completion slot; the record port has none. -/
def Arbiter.slot (m : Arbiter) : Port → Option Completion
  | .sequencer => m.seqSlot
  | .cell => m.cellSlot
  | .record => none

/-- A port's completion slot set. -/
def Arbiter.setSlot (m : Arbiter) (p : Port) (c : Option Completion) : Arbiter :=
  match p with
  | .sequencer => { m with seqSlot := c }
  | .cell => { m with cellSlot := c }
  | .record => m

/-- The final position handed with an outcome: the position counter when the reference is VALID (R69, R98). -/
def finalPosition (s : State) : Option Int :=
  if s.xhc.referenceValid then some s.xhc.position else none

/-- File a completion record and raise MOTION_DONE to its port (R98). -/
def fileCompletion (p : Port) (c : Completion) (s : State) : State :=
  raise p .motionDone { s with mar := s.mar.setSlot p (some c) }

/-- The kind of a queued request (R98). -/
def jobKind : MotionJob → MotionKind
  | .referenceSearch => .referenceSearch
  | .moveTo _ _ => .moveTo
  | .startTest => .startTest
  | .jog _ _ _ => .jog
  | .retract => .retract

/-- The kind of an active motion (R98). -/
def activeKind : ActiveJob → MotionKind
  | .search _ => .referenceSearch
  | .move _ _ _ _ => .moveTo
  | .retract _ _ _ => .retract
  | .jog _ _ _ => .jog
  | .test => .startTest

/-- File the end of a request that was never active, or ended as it was taken (R88, R95, R96, R97). -/
def fileRequestEnd (rq : MotionRequest) (o : MotionOutcome) (reason : Option Reason) (s : State) : State :=
  fileCompletion rq.port
    { kind := jobKind rq.job, tag := rq.tag, outcome := o, reason := reason, position := finalPosition s, serial := none } s

/-- File the end of an active motion other than a test (R98). -/
def fileActiveEnd (a : ActiveMotion) (o : MotionOutcome) (s : State) : State :=
  fileCompletion a.port
    { kind := activeKind a.job, tag := a.tag, outcome := o, reason := none, position := finalPosition s, serial := none } s

/-- The active motion gone from the arbiter, its end having been filed (R98). -/
def clearActive (s : State) : State :=
  { s with mar := { s.mar with active := none } }

/-! ### The hard-limit switches (R81) -/

/-- Some hard-limit switch is active. -/
def State.atHardLimit (s : State) : Bool :=
  s.inputs.upperLimit || s.inputs.lowerLimit

/-- A direction points away from every active switch: DOWN with only the upper active, UP with only the lower (R81). -/
def pointsAway (s : State) : Direction → Bool
  | .up => !s.inputs.upperLimit
  | .down => !s.inputs.lowerLimit

/-- The request is turned away by an active hard-limit switch: it is no JOG pointing away from every active one (R81). -/
def limitForbids (s : State) (j : MotionJob) : Bool :=
  s.atHardLimit &&
    match j with
    | .jog d _ _ => !pointsAway s d
    | _ => true

/-! ### The load ranges' full scales (R31) -/

/-- The full scale of a range: ranges 1 to 3 from the factory section, range 4 the frame capacity (R31). -/
def fullScale (s : State) : LoadRange → Int
  | .r1 => s.cal.fullScale1
  | .r2 => s.cal.fullScale2
  | .r3 => s.cal.fullScale3
  | .r4 => s.xhc.config.fcap

/-- Make a range current: a change to another range sets the settle count afresh, a selection of the current range leaves it
(R32). -/
def selectRange (r : LoadRange) (settle : Nat) (s : State) : State :=
  if s.ldc.range = r then s else { s with ldc := { s.ldc with range := r, settle := settle } }

/-- The slot's specimen is the one in test or mounted, so that stress is computed with its area (R28). -/
def stressArea (s : State) : Option Int :=
  match s.spt.slot with
  | some m => if m.state = .mounted || m.state = .testing then some m.area else none
  | none => none

end Sys2Proof.Machine
end

