-- ==== Sys2Proof/Machine/Operands.lean ====
section
/-! DEFINITION. The forms of the requests' parameters: specimen records (R2), frame configuration (R64, R65), plans and stages
(R103 to R105), calibration tables (R209), grade limits (R194, R195), motion parameters (R74, R77). -/

namespace Sys2Proof.Machine

/-- `x` lies in `low..high`. -/
def within (low high x : Int) : Bool :=
  low ≤ x && x ≤ high

/-- An optional value is absent or satisfies a check. -/
def optAll {α : Type} (o : Option α) (check : α → Bool) : Bool :=
  match o with
  | none => true
  | some x => check x

/-- A printable character: codes 33 to 126 (R2). -/
def printable (b : Byte) : Bool :=
  33 ≤ b.toNat && b.toNat ≤ 126

/-- A text of `low..high` printable characters (R2). -/
def textForm (low high : Nat) (t : Text) : Bool :=
  low ≤ t.length && t.length ≤ high && t.all printable

/-- The form of a specimen identifier (R2). -/
def identifierForm (t : Text) : Bool :=
  textForm 1 12 t

/-- A dimension's range (R2). -/
def dimensionForm (x : Int) : Bool :=
  within 200 100000 x

/-- The dimensions of a record: those of its shape present and in range, the others absent (R2). -/
def dimsOf (p : SpecimenParams) : Option Dims :=
  match p.shape, p.width, p.thickness, p.diameter with
  | .flat, some w, some t, none => if dimensionForm w && dimensionForm t then some (.flat w t) else none
  | .round, none, none, some d => if dimensionForm d then some (.round d) else none
  | _, _, _, _ => none

/-- A grade code 0..31 (R2, R195). -/
def gradeOf (g : Int) : Option (Fin 32) :=
  if h : 0 ≤ g ∧ g < 32 then some ⟨g.toNat, by omega⟩ else none

/-- A plan id 0..7 (R2, R105). -/
def planIdOf (i : Int) : Option (Fin 8) :=
  if h : 0 ≤ i ∧ i < 8 then some ⟨i.toNat, by omega⟩ else none

/-- The gauge length's form: 10,000..200,000 and not above Lc (R2). -/
def gaugeForm (le : Option Int) (lc : Int) : Bool :=
  optAll le fun x => within 10000 200000 x && x ≤ lc

/-- The record of an ENQUEUE SPECIMEN, when every field meets the form of R2. -/
def specimenOf (p : SpecimenParams) : Option SpecimenRecord :=
  match dimsOf p, gradeOf p.grade, planIdOf p.plan with
  | some dims, some grade, some plan =>
    if identifierForm p.id && textForm 0 8 p.heat && textForm 0 12 p.retestOf && within 10000 400000 p.lc && gaugeForm p.le p.lc
    then some { id := p.id, heat := p.heat, grade := grade, dims := dims, le := p.le, lc := p.lc, plan := plan, rush := p.rush,
                retestOf := p.retestOf }
    else none
  | _, _, _ => none

/-! ### Measured dimensions and area (R9 to R11) -/

/-- The measured dimensions given belong to the record's shape (R10). -/
def measuredFit (d : Dims) (w t dia : Option Int) : Bool :=
  match d with
  | .flat _ _ => dia.isNone
  | .round _ => w.isNone && t.isNone

/-- The dimensions used: each measured one in place of the nominal (R11). -/
def dimsUsed (d : Dims) (w t dia : Option Int) : Dims :=
  match d with
  | .flat w0 t0 => .flat (w.getD w0) (t.getD t0)
  | .round d0 => .round (dia.getD d0)

/-- The area of the dimensions used, in 0.01 mm² (R9). -/
def areaOf : Dims → Int
  | .flat w t => roundNearest (w * t) 10000
  | .round d => roundNearest (d * d * 355) 4520000

/-! ### Frame configuration (R64, R65) -/

/-- No field is named (R65). -/
def FrameUpdate.namesNone (u : FrameUpdate) : Bool :=
  u.sampleInterval.isNone && u.fcap.isNone && u.lowerSoft.isNone && u.upperSoft.isNone && u.referencePosition.isNone &&
  u.searchRate.isNone && u.searchLimit.isNone && u.vmax.isNone && u.jogLimit.isNone && u.creepRate.isNone &&
  u.approach.isNone && u.band.isNone && u.holdTime.isNone && u.brakeTime.isNone && u.retractPosition.isNone

/-- Each named value lies in its range of R64. -/
def FrameUpdate.inRange (u : FrameUpdate) : Bool :=
  optAll u.sampleInterval (fun x => x = 250 || x = 500 || x = 1000 || x = 2000 || x = 4000) &&
  optAll u.fcap (within 10000 1200000) && optAll u.lowerSoft (within 0 1200000) && optAll u.upperSoft (within 0 1200000) &&
  optAll u.referencePosition (within 0 1200000) && optAll u.searchRate (within 100 20000) &&
  optAll u.searchLimit (within 1000 2000000) && optAll u.vmax (within 1 20000) && optAll u.jogLimit (within 1 5000) &&
  optAll u.creepRate (within 1 2000) && optAll u.approach (within 0 50000) && optAll u.band (within 1 500) &&
  optAll u.holdTime (within 0 60000) && optAll u.brakeTime (within 10 2000)

/-- The configuration a CONFIGURE FRAME would result in (R65). -/
def FrameUpdate.applyTo (u : FrameUpdate) (c : FrameConfig) : FrameConfig :=
  { sampleInterval := u.sampleInterval.getD c.sampleInterval, fcap := u.fcap.getD c.fcap,
    lowerSoft := u.lowerSoft.getD c.lowerSoft, upperSoft := u.upperSoft.getD c.upperSoft,
    referencePosition := u.referencePosition.getD c.referencePosition, searchRate := u.searchRate.getD c.searchRate,
    searchLimit := u.searchLimit.getD c.searchLimit, vmax := u.vmax.getD c.vmax, jogLimit := u.jogLimit.getD c.jogLimit,
    creepRate := u.creepRate.getD c.creepRate, approach := u.approach.getD c.approach, band := u.band.getD c.band,
    holdTime := u.holdTime.getD c.holdTime, brakeTime := u.brakeTime.getD c.brakeTime,
    retractPosition := u.retractPosition.getD c.retractPosition }

/-- The cross-field conditions of R64, as R65 lists them. -/
def crossFieldsHold (fullScale3 : Int) (c : FrameConfig) : Bool :=
  c.lowerSoft < c.upperSoft && c.jogLimit ≤ c.vmax && c.lowerSoft ≤ c.retractPosition && c.retractPosition ≤ c.upperSoft &&
  fullScale3 < c.fcap

/-! ### Plans and stages (R103 to R107) -/

/-- The rate's range for a control mode (R104). -/
def rateInRange (m : ControlMode) (rate : Int) : Bool :=
  match m with
  | .xhRate => within 1 20000 rate
  | .strainRate => within 1 200000 rate
  | .stressRate => within 1 100000 rate
  | .hold => rate = 0

/-- The end value's form for an end condition kind (R104). -/
def endValueForm (k : EndKind) (v : Option Int) : Bool :=
  match k, v with
  | .strainGe, some x => within (-1000000) 1000000 x
  | .forceGe, some x => within (-2000000) 2000000 x
  | .stressGe, some x => within (-40000) 40000 x
  | .timeGe, some x => within 1 3600000 x
  | .yieldEnd, none | .handover, none | .never, none => true
  | _, _ => false

/-- The successor is a stage index 1..8 or NEXT (R104). -/
def successorForm : Successor → Bool
  | .stage i => 1 ≤ i && i ≤ 8
  | .next => true

/-- A stage's fields lie in their ranges (R104). -/
def stageForm (d : StageDef) : Bool :=
  rateInRange d.mode d.rate && endValueForm d.endKind d.endValue && successorForm d.successor && within 0 3600000 d.timeoutMs

/-- The plan a DEFINE PLAN gives, with the defaults of R103 for omitted fields; `none` when the initial range is no range. -/
def planOf (g : PlanUpdate) (stages : List StageDef) : Option Plan :=
  match rangeOfNumber (g.initialRange.getD 4) with
  | none => none
  | some range => some
    { preloadForce := g.preloadForce.getD 500, preloadRate := g.preloadRate.getD 100, extRequired := g.extRequired.getD true,
      placementTimeout := g.placementTimeout.getD 60, removalStrain := g.removalStrain.getD 0,
      removalDrop := g.removalDrop.getD 0, removalMode := g.removalMode.getD .hold,
      removalTimeout := g.removalTimeout.getD 30, slipThreshold := g.slipThreshold.getD 200, rpOffset := g.rpOffset.getD 2000,
      fitLow := g.fitLow.getD 1000, fitHigh := g.fitHigh.getD 4000, eNom := g.eNom.getD 210000,
      yieldDrop := g.yieldDrop.getD 5, yieldLimit := g.yieldLimit.getD 30000,
      fractureFraction := g.fractureFraction.getD 20, fractureFloor := g.fractureFloor.getD 2000,
      tailSamples := g.tailSamples.getD 64, divisor := g.divisor.getD 1, initialRange := range,
      autoRange := g.autoRange.getD false, settleSamples := g.settleSamples.getD 4, kc := g.kc.getD 8,
      roundMode := g.roundMode.getD .nearest, stressRes := g.stressRes.getD 10, strainRes := g.strainRes.getD 100,
      stages := stages }

/-- Step 1 of R105: every field in its range, leaving out the bounds that depend on Fcap and vmax. -/
def planForm (p : Plan) : Bool :=
  0 ≤ p.preloadForce && 1 ≤ p.preloadRate && within 1 600 p.placementTimeout &&
  (p.removalStrain = 0 || within 1000 500000 p.removalStrain) && within 0 500 p.removalDrop && within 1 600 p.removalTimeout &&
  within 10 5000 p.slipThreshold && within 100 20000 p.rpOffset && within 0 40000 p.fitLow && within 0 40000 p.fitHigh &&
  p.fitLow < p.fitHigh && within 20000 400000 p.eNom && within 1 100 p.yieldDrop && within 1000 200000 p.yieldLimit &&
  within 5 95 p.fractureFraction && 0 ≤ p.fractureFloor && within 0 1024 p.tailSamples &&
  (p.divisor = 1 || p.divisor = 2 || p.divisor = 4 || p.divisor = 8 || p.divisor = 16 || p.divisor = 32 || p.divisor = 64) &&
  within 2 16 p.settleSamples && within 0 255 p.kc && (p.stressRes = 1 || p.stressRes = 5 || p.stressRes = 10) &&
  (p.strainRes = 1 || p.strainRes = 10 || p.strainRes = 100) &&
  1 ≤ p.stages.length && p.stages.length ≤ 8 && p.stages.all stageForm

/-- The bounds of a plan that depend on the frame configuration (R105 step 3, R107). -/
def planFitsFrame (c : FrameConfig) (p : Plan) : Bool :=
  p.preloadForce * 10 ≤ c.fcap && p.preloadRate ≤ c.vmax && p.fractureFloor ≤ c.fcap

/-- A plan is valid for a specimen (R107). -/
def planValidFor (c : FrameConfig) (plan : Option Plan) (m : MountedSpecimen) : Bool :=
  match plan with
  | none => false
  | some p => (!p.extRequired || m.specimen.le.isSome) && planFitsFrame c p

/-! ### Calibration tables (R209) -/

/-- A point's code and force lie in their ranges (R209). -/
def pointForm (q : CalPoint) : Bool :=
  within (-8388608) 8388607 q.code && within (-2000000) 2000000 q.force

/-- Codes and forces both strictly increase along the list (R209). -/
def strictlyRising : List CalPoint → Bool
  | a :: b :: rest => a.code < b.code && a.force < b.force && strictlyRising (b :: rest)
  | _ => true

/-- The points form a calibration table (R209). -/
def tableForm (points : List CalPoint) : Bool :=
  2 ≤ points.length && points.length ≤ 11 && points.all pointForm && strictlyRising points

/-! ### Grade limits (R194, R195) -/

/-- Each bound is ANY or in its range (R195, first check). -/
def limitsInRange (l : GradeLimits) : Bool :=
  optAll l.yieldMin (within 0 40000) && optAll l.yieldMax (within 0 40000) && optAll l.rmMin (within 0 40000) &&
  optAll l.rmMax (within 0 40000) && optAll l.aMin (within 0 1000000) && optAll l.ratioMax (within 1 1000)

/-- A min and a max that both hold values stand in order (R195, second check). -/
def boundsOrdered (lo hi : Option Int) : Bool :=
  match lo, hi with
  | some a, some b => a ≤ b
  | _, _ => true

/-- The form of six bounds (R195). -/
def limitsForm (l : GradeLimits) : Bool :=
  limitsInRange l && boundsOrdered l.yieldMin l.yieldMax && boundsOrdered l.rmMin l.rmMax

/-! ### Motion parameters (R74, R77) -/

/-- The form of a motion request's parameters (R91 step 1). -/
def motionForm (c : FrameConfig) : MotionJob → Bool
  | .moveTo target speed => within (-2000000) 2000000 target && within 1 c.vmax speed
  | .jog _ speed duration => within 1 20000 speed && within 1 2000 duration
  | .referenceSearch | .startTest | .retract => true

end Sys2Proof.Machine
end

