-- ==== Sys2Proof/Machine/RateControl.lean ====
section
/-! DEFINITION. The rate loop (chapter 7): seeding, advance, feedforward and correction, and the moments at which the test's
set-point changes. -/

namespace Sys2Proof.Machine

/-- The loop mode of a stage's control mode (R135). -/
def loopModeOf : ControlMode → LoopMode
  | .xhRate => .xhRate
  | .strainRate => .strainRate
  | .stressRate => .stressRate
  | .hold => .hold

/-- The target a seeding gives: the measured value in fine units (R135). -/
def seedTarget (m : LoopMode) (strain stress : Int) : Option Int :=
  match m with
  | .strainRate => some (strain * 1000000)
  | .stressRate => some (stress * 1000000)
  | .xhRate | .hold | .off => none

/-- The bound of the target in fine units (R131, R137). -/
def targetBound : Int := 1000000000000000

/-- One advance of the target, by loop rate × T_s, staying at the bound (R137). -/
def advanceTarget (rate ts : Int) (target : Option Int) : Option Int :=
  target.map fun t => clampTo (-targetBound) targetBound (t + rate * ts)

/-- The exact sum of feedforward and correction as numerator and denominator (R139); `e` is the error in fine units. -/
def loopSum (m : LoopMode) (rate ts lc kc eNom e : Int) : Int × Int :=
  match m with
  | .xhRate => (rate * 1000, 1)
  | .strainRate => (rate * lc * (256 * ts) + e * lc * kc, 256 * ts * 1000)
  | .stressRate => (rate * lc * 100 * (256 * ts * 1000) + e * 100000 * lc * kc, eNom * (256 * ts * 1000))
  | .hold | .off => (0, 1)

/-- The error: the target less the measured value, in fine units; 0 where there is no target (R139). -/
def loopError (m : LoopMode) (target : Option Int) (strain stress : Int) : Int :=
  match target, seedTarget m strain stress with
  | some t, some x => t - x
  | _, _ => 0

/-- What the loop reads of the other blocks (R132). -/
structure LoopInputs where
  ts : Int
  vmax : Int
  lc : Int
  kc : Int
  eNom : Int
  strain : Int
  stress : Int
  deriving DecidableEq, Repr

/-- The loop on a computing sample: it seeds when `fresh` or PENDING and advances otherwise, then forms the set-point, truncated
once and clamped to 0..vmax × 1000 (R134, R137, R140). -/
def loopCompute (x : LoopInputs) (fresh : Bool) (r : RateLoop) : RateLoop :=
  let rate := r.rate.getD 0
  let target :=
    if fresh || r.seed = .pending then seedTarget r.mode x.strain x.stress else advanceTarget rate x.ts r.target
  let sum := loopSum r.mode rate x.ts x.lc x.kc x.eNom (loopError r.mode target x.strain x.stress)
  { r with target := target, seed := .seeded, setPoint := clampTo 0 (x.vmax * 1000) (roundWith .truncate sum.1 sum.2) }

/-- The last set-point set by a change of the test state (R133). -/
def setSetPoint (v : Int) (s : State) : State :=
  { s with rlp := { s.rlp with setPoint := v } }

/-- Entry to TAIL: loop mode NONE and set-point 0 (R131, R133). -/
def loopTail (s : State) : State :=
  { s with rlp := { s.rlp with mode := .off, rate := none, target := none, setPoint := 0 } }

/-- A stage entry between arrivals: mode and rate loaded, the seed pending, set-point 0 (R133, R136). -/
def loopEnterPending (d : StageDef) (s : State) : State :=
  { s with rlp := { mode := loopModeOf d.mode, rate := some d.rate, target := none, seed := .pending, setPoint := 0 } }

/-- The mode has a measured quantity, and so a target (R131). -/
def hasTarget : LoopMode → Bool
  | .strainRate | .stressRate => true
  | .xhRate | .hold | .off => false

/-- A stage entry at a sample: mode and rate loaded (R135). The seeding is the computing sample's work (R134, `loopCompute`): a
sample that also holds the test leaves the target and the seed state (R136, R142; log entry 12), but for a mode without target. -/
def loopLoad (d : StageDef) (s : State) : State :=
  { s with rlp :=
      { s.rlp with
        mode := loopModeOf d.mode, rate := some d.rate,
        target := if hasTarget (loopModeOf d.mode) then s.rlp.target else none } }

/-- A release from HELD to RUNNING: mode and rate kept, target absent, the seed pending, set-point 0 (R133, R136). -/
def loopRelease (s : State) : State :=
  { s with rlp := { s.rlp with target := none, seed := .pending, setPoint := 0 } }

/-- ADJUST RATE on the loop's side: the rate replaced, nothing else (R143). -/
def loopSetRate (rate : Int) (s : State) : State :=
  { s with rlp := { s.rlp with rate := some rate } }

/-! ### The test state's moves that the rate loop follows (R108, R112) -/

/-- Set the phase of the test in progress. -/
def setPhase (p : TestPhase) (s : State) : State :=
  updateTest (fun t => { t with phase := p }) s

/-- The state a held test returns to (R120). -/
def returnPhase : ReturnState → TestPhase
  | .preload => .preload
  | .placing => .placing
  | .running => .running

/-- The return state of a phase that can be held (R120). -/
def holdableAs : TestPhase → Option ReturnState
  | .preload => some .preload
  | .placing => some .placing
  | .running => some .running
  | .held _ _ => none
  | .tail _ => none

/-- Hold the test with a cause, from PRELOAD, PLACING or RUNNING: HELD with that return state, event HOLD, set-point 0 (R120,
R133). In any other state nothing. -/
def holdTest (c : HoldCause) (s : State) : State :=
  match s.phase.bind holdableAs with
  | none => s
  | some r => addEvent .hold (causeNumber c) (setSetPoint 0 (setPhase (.held c r) s))

/-- Release a held test: its return state, event RESUME with the released cause, and the set-point the new state gives (R122,
R133). In any other state nothing. -/
def releaseTest (s : State) : State :=
  match s.tex.test with
  | none => s
  | some t =>
    match t.phase with
    | .held c r =>
      let s1 := addEvent .resume (causeNumber c) (setPhase (returnPhase r) s)
      match r with
      | .preload => setSetPoint (t.plan.preloadRate * 1000) s1
      | .placing => setSetPoint 0 s1
      | .running => loopRelease s1
    | _ => s

/-- The stage of an index in a plan, stages being numbered from 1 (R104). -/
def stageAt (p : Plan) (i : Nat) : Option StageDef :=
  if i = 0 then none else p.stages[i - 1]?

/-- The stage entered: index, the plan's rate, elapsed time 0, marks clear; event STAGE (R115). -/
def beginStage (i : Nat) (d : StageDef) (s : State) : State :=
  addEvent .stage i
    (updateTest
      (fun t => { t with stage := some { index := i, rate := d.rate, elapsed := 0, endLogged := false, timeoutLogged := false } })
      s)

/-- Stage 1 entered between arrivals, on leaving PLACING: RUNNING, or the return state RUNNING when HELD from PLACING (R114). -/
def leavePlacing (s : State) : State :=
  match s.tex.test with
  | none => s
  | some t =>
    match stageAt t.plan 1 with
    | none => s
    | some d =>
      match t.phase with
      | .placing => loopEnterPending d (beginStage 1 d (setPhase .running s))
      | .held c .placing => loopEnterPending d (beginStage 1 d (setPhase (.held c .running) s))
      | _ => s

end Sys2Proof.Machine
end

