-- ==== Sys2Proof/Machine/Evaluate.lean ====
section
/-! DEFINITION. The result evaluator (chapter 8): the modulus fit, the offset-yield search, the yield tracker and the final
results. -/

namespace Sys2Proof.Machine

/-- The results in progress at activation (R146). -/
def startEvaluation : Evaluation :=
  { saturated := false, lastValid := none, fracture := none,
    fit := { state := .notStarted, n := 0, sumX := 0, sumY := 0, sumXX := 0, sumXY := 0, e := none, eps0 := none },
    search := { state := .waiting, previous := none, rp := none },
    tracker := { state := .rising, sigmaMax := none, reH := none, reL := none },
    fitInvalid := false, rpNotReached := false, nominalE := false }

/-! ### The modulus fit (R150 to R154) -/

/-- A sample added to the sums when its σ lies in the window, both bounds included, and its source is EXT (R151). -/
def takeIntoFit (p : Plan) (x : SamplePoint) (f : ModulusFit) : ModulusFit :=
  if x.source = .ext && p.fitLow ≤ x.stress && x.stress ≤ p.fitHigh then
    { f with
      n := f.n + 1, sumX := f.sumX + x.strain, sumY := f.sumY + x.stress, sumXX := f.sumXX + x.strain * x.strain,
      sumXY := f.sumXY + x.strain * x.stress }
  else f

/-- The numerator of the slope (R153). -/
def fitNum (f : ModulusFit) : Int := f.n * f.sumXY - f.sumX * f.sumY

/-- The denominator of the slope (R153). -/
def fitDen (f : ModulusFit) : Int := f.n * f.sumXX - f.sumX * f.sumX

/-- E of the sums (R153), for a positive denominator. -/
def fitE (f : ModulusFit) : Int := roundNearest (fitNum f * 100000) (fitDen f)

/-- ε0 of the sums and E (R153). -/
def fitEps0 (f : ModulusFit) (e : Int) : Int := roundNearest (f.sumX * e - f.sumY * 100000) (f.n * e)

/-- The sums close VALID (R154). -/
def fitIsValid (f : ModulusFit) : Bool :=
  8 ≤ f.n && 0 < fitDen f && within 20000 400000 (fitE f)

/-- What closes a fit: a stress above the window, or the extensometer leaving ACTIVE or the test's closure (R152, R155). -/
inductive FitClosing | stress | leaving
  deriving DecidableEq, Repr

/-- The OPEN fit closes and the search leaves WAITING (R152 to R155). -/
def closeFit (why : FitClosing) (v : Evaluation) : Evaluation :=
  if fitIsValid v.fit then
    let fit := { v.fit with state := .valid, e := some (fitE v.fit), eps0 := some (fitEps0 v.fit (fitE v.fit)) }
    match why with
    | .stress => { v with fit := fit, search := { v.search with state := .searching, previous := none } }
    | .leaving => { v with fit := fit, search := { v.search with state := .notReached }, rpNotReached := true }
  else
    { v with fit := { v.fit with state := .invalid, e := none, eps0 := none }, fitInvalid := true,
             search := { v.search with state := .notRun } }

/-- The fit ends without having opened, and the search is not run (R150, R155). -/
def closeUnfitted (v : Evaluation) : Evaluation :=
  { v with fit := { v.fit with state := .notFitted }, search := { v.search with state := .notRun } }

/-- The fit's work on an evaluated sample (R150 to R152). -/
def fitSample (p : Plan) (x : SamplePoint) (v : Evaluation) : Evaluation :=
  match v.fit.state with
  | .notStarted =>
    if p.fitHigh < x.stress then closeUnfitted v
    else if x.source = .ext then { v with fit := takeIntoFit p x { v.fit with state := .opened } }
    else v
  | .opened => if p.fitHigh < x.stress then closeFit .stress v else { v with fit := takeIntoFit p x v.fit }
  | .valid | .invalid | .notFitted => v

/-- The extensometer leaves ACTIVE, or the test closes: an unfinished fit closes and an unfinished search is not reached (R150,
R152, R155, R158). -/
def evaluationLeaves (v : Evaluation) : Evaluation :=
  match v.fit.state with
  | .notStarted => closeUnfitted v
  | .opened => closeFit .leaving v
  | .valid | .invalid | .notFitted =>
    if v.search.state = .searching then { v with search := { v.search with state := .notReached }, rpNotReached := true } else v

/-! ### The offset-yield search (R155 to R159) -/

/-- The distance D of a sample from the offset line (R156). -/
def offsetDistance (p : Plan) (f : ModulusFit) (x : SamplePoint) : Int :=
  x.stress * 100000 - f.e.getD 0 * (x.strain - f.eps0.getD 0 - p.rpOffset)

/-- Rp_exact at the crossing, from the previous searched sample and this one (R156, R157). -/
def rpExact (previous : Option (Int × Int)) (stress d : Int) : ExactRatio :=
  match previous with
  | none => { num := stress, den := 1 }
  | some (stress0, d0) => { num := stress0 * (d0 - d) + (stress - stress0) * d0, den := d0 - d }

/-- The search's work on an evaluated sample; a sample is searched with source EXT while the search is SEARCHING (R155 to R157). -/
def searchSample (p : Plan) (x : SamplePoint) (v : Evaluation) : Evaluation :=
  if v.search.state = .searching && x.source = .ext then
    if 0 < offsetDistance p v.fit x then
      { v with search := { v.search with previous := some (x.stress, offsetDistance p v.fit x) } }
    else
      { v with search := { v.search with state := .found, rp := some (rpExact v.search.previous x.stress (offsetDistance p v.fit x)) } }
  else v

/-- Rp as it is reported (R159, R170). -/
def reportedRp (p : Plan) (r : ExactRatio) : Int :=
  roundToResolution p.roundMode p.stressRes r.num r.den

/-! ### The yield tracker (R160 to R164) -/

/-- A yield drop is declared at a sample (R161). -/
def yieldDrops (p : Plan) (x : SamplePoint) (t : YieldTracker) : Bool :=
  match t.sigmaMax with
  | none => false
  | some m => 0 < m && x.strain < p.yieldLimit && x.stress * 1000 < m * (1000 - p.yieldDrop)

/-- An entry the evaluator makes at the sample at hand, kind and value (R159, R161 to R163). -/
abbrev SampleEvent := EventKind × Int

/-- The tracker's work on an evaluated sample; `found`: the search became FOUND at it (R160 to R163). -/
def trackSample (p : Plan) (found : Bool) (x : SamplePoint) (t : YieldTracker) : YieldTracker × List SampleEvent :=
  match t.state with
  | .rising =>
    if p.yieldLimit ≤ x.strain then ({ t with state := .ended }, [(.yieldEnd, 0)])
    else if yieldDrops p x t then
      ({ t with state := .inPhase, reH := t.sigmaMax, reL := some x.stress }, [(.yieldDrop, t.sigmaMax.getD 0)])
    else if found then ({ t with state := .ended }, [(.yieldEnd, 0)])
    else
      match t.sigmaMax with
      | none => ({ t with sigmaMax := some x.stress }, [])
      | some m => (if m < x.stress then { t with sigmaMax := some x.stress } else t, [])
  | .inPhase =>
    if t.reH.getD 0 < x.stress || p.yieldLimit ≤ x.strain then ({ t with state := .ended }, [(.yieldEnd, t.reL.getD 0)])
    else (if x.stress < t.reL.getD 0 then { t with reL := some x.stress } else t, [])
  | .ended => (t, [])

/-! ### A sample (R147 to R149) -/

/-- The search became FOUND between two states of the evaluation. -/
def becameFound (before after : Evaluation) : Bool :=
  before.search.state != .found && after.search.state == .found

/-- The evaluator's work on an evaluated sample: fit, search (not on the sample that closed the fit), tracker, and the entries it
makes (R147, R155, R159, R160). -/
def evaluateSample (p : Plan) (x : SamplePoint) (v : Evaluation) : Evaluation × List SampleEvent :=
  let v1 := fitSample p x v
  let v2 := if v.search.state = .searching then searchSample p x v1 else v1
  let found := becameFound v v2
  let tracked := trackSample p found x v2.tracker
  let rpEntry : List SampleEvent :=
    match found, v2.search.rp with
    | true, some r => [(.rpFound, reportedRp p r)]
    | _, _ => []
  ({ v2 with tracker := tracked.1 }, rpEntry ++ tracked.2)

/-! ### Final results (R165 to R172) -/

/-- E_used (R166). -/
def eUsed (p : Plan) (v : Evaluation) : Int :=
  v.fit.e.getD p.eNom

/-- A plastic elongation before reporting: the strain less the elastic part (R167, R168). -/
def plasticStrain (eu stress strain : Int) : Int :=
  strain - roundNearest (stress * 100000) eu

/-- ReH at closure (R164). -/
def finalReH (t : YieldTracker) : Option Int :=
  match t.state with
  | .rising => none
  | .inPhase | .ended => t.reH

/-- ReL at closure (R164). -/
def finalReL (t : YieldTracker) : Option Int :=
  match t.state with
  | .rising => none
  | .inPhase | .ended => t.reL

/-- The results handed over at closure, in the order of R171; the fit and the search have been closed by `evaluationLeaves`. -/
def finalResults (p : Plan) (complete : Bool) (peak : Option Peak) (v0 : Evaluation) : FinalResults :=
  let v := evaluationLeaves v0
  let stress := fun x : Int => roundToResolution p.roundMode p.stressRes x 1
  let strain := fun x : Int => roundToResolution p.roundMode p.strainRes x 1
  let ag := peak.map fun k => strain (plasticStrain (eUsed p v) k.stress k.strain)
  let a := if complete then v.fracture.map fun x => strain (plasticStrain (eUsed p v) x.stress x.strain) else none
  { reH := (finalReH v.tracker).map stress, reL := (finalReL v.tracker).map stress,
    rp := if v.search.state = .found then v.search.rp.map (reportedRp p) else none,
    rm := peak.map fun k => stress k.stress,
    e := if v.fit.state = .valid then v.fit.e else none,
    ag := ag, a := a, source := v.fracture.map fun x => x.source,
    roundMode := p.roundMode, stressRes := p.stressRes, strainRes := p.strainRes,
    saturated := v.saturated, fitInvalid := v.fitInvalid, rpNotReached := v.rpNotReached,
    nominalE := v.fit.e.isNone && (ag.isSome || a.isSome) }

/-- Change the results in progress of the test. -/
def updateEvaluation (f : Evaluation → Evaluation) (s : State) : State :=
  updateTest (fun t => { t with rev := f t.rev }) s

end Sys2Proof.Machine
end

