-- ==== Sys2Proof/Machine/Capture.lean ====
section
/-! DEFINITION. The capture store (chapter 9): pages, thinning, filling, loss, closure and reading. -/

namespace Sys2Proof.Machine

/-- The number of FILLING pages, 0 or 1 (R173). -/
def fillingCount (c : CaptureStore) : Nat :=
  match c.capture with
  | none => 0
  | some x => if x.filling.isSome then 1 else 0

/-- The free count (R173): the pages that are neither FULL nor FILLING. -/
def freeCount (c : CaptureStore) : Nat :=
  Config.pageCount - c.full.length - fillingCount c

/-- The thinning level of a free count (R178). -/
def levelOf (free : Nat) : Nat :=
  if 33 ≤ free then 0 else if 17 ≤ free then 1 else if 9 ≤ free then 2 else 3

/-- Change the capture context, if there is one. -/
def updateCapture (f : CaptureContext → CaptureContext) (s : State) : State :=
  { s with cps := { s.cps with capture := s.cps.capture.map f } }

/-- Set the level again from the free count; a rise enters CAPTURE_THIN and raises CAPTURE_PRESSURE (R178). -/
def setLevel (s : State) : State :=
  match s.cps.capture with
  | none => s
  | some c =>
    let level := levelOf (freeCount s.cps)
    let s1 := updateCapture (fun c => { c with level := level }) s
    if c.level < level then raise .record .capturePressure (addEvent .captureThin level s1) else s1

/-- The capture context at a test's activation, before its level is set (R176). -/
def newCapture (serial : BitVec 16) : CaptureContext :=
  { serial := serial, taken := 0, stored := 0, thinned := 0, lost := 0, level := 0, nextIndex := 0, filling := none,
    lossRun := false, pendingEvent := false }

/-- Capturing begins at a test's activation (R176, R178). -/
def startCapture (serial : BitVec 16) (s : State) : State :=
  setLevel { s with cps := { s.cps with capture := some (newCapture serial) } }

/-- A page that is FULL joins the end of the hand-out order and PAGE_READY is raised (R175, R181, R184). -/
def handOver (p : CapturePage) (s : State) : State :=
  raise .record .pageReady { s with cps := { s.cps with full := s.cps.full ++ [p] } }

/-- An entry written into the FILLING page; the 256th makes it FULL (R180, R181). -/
def writeEntry (e : CaptureEntry) (p : CapturePage) (s : State) : State :=
  let page := { p with entries := p.entries ++ [e] }
  let count := updateCapture (fun c => { c with stored := c.stored + 1, lossRun := false })
  if page.entries.length < Config.pageEntries then updateCapture (fun c => { c with filling := some page }) (count s)
  else handOver page (updateCapture (fun c => { c with filling := none }) (count s))

/-- A FREE page opened for the capturing test (R180): it takes the next page index, and the level is set again. -/
def openPage (c : CaptureContext) (first : Nat) (s : State) : State :=
  setLevel
    (updateCapture
      (fun c => { c with
        filling := some { serial := c.serial, index := c.nextIndex, first := first, last := false, entries := [], own := true },
        nextIndex := c.nextIndex + 1 })
      { s with cps := { s.cps with capture := some c } })

/-- A kept sample that finds no page is lost (R182). -/
def loseSample (c : CaptureContext) (s : State) : State :=
  let s1 :=
    setTestFlags (fun f => { f with captureGap := true })
      (updateCapture (fun c => { c with lost := c.lost + 1, lossRun := true }) s)
  if c.lossRun then s1 else addEvent .captureLoss (c.lost + 1 : Nat) s1

/-- The pending EVENT mark as it stands (R177). -/
def State.eventPending (s : State) : Bool :=
  match s.cps.capture with
  | none => false
  | some c => c.pendingEvent

/-- A kept sample is stored, or lost (R180, R182). The entry carries EVENT when the mark is pending by then: an opening that
raises the level marks the sample it is made for (R178). -/
def keepSample (e : CaptureEntry) (s : State) : State :=
  match s.cps.capture with
  | none => s
  | some c =>
    match c.filling with
    | some p => writeEntry e p s
    | none =>
      if 0 < freeCount s.cps then
        let s1 := openPage c e.number s
        match s1.cps.capture.bind fun x => x.filling with
        | none => s1
        | some p => writeEntry { e with event := e.event || s1.eventPending } p s1
      else loseSample c s

/-- The thinning factor f = k × 2^level (R179). -/
def thinningFactor (divisor : Int) (level : Nat) : Int :=
  divisor * 2 ^ level

/-- A sample is kept when its number is a multiple of the factor, or it carries EVENT (R179). -/
def keeps (factor : Int) (e : CaptureEntry) : Bool :=
  e.event || (e.number : Int) % factor = 0

/-- An arrival taken by the capture store while CAPTURING (R176, R177, R179). `e` comes without its EVENT mark from the event
list; `peakRaised` is the mark for a new test peak. -/
def captureSample (divisor : Int) (peakRaised : Bool) (e : CaptureEntry) (s : State) : State :=
  match s.cps.capture with
  | none => s
  | some c =>
    let entry := { e with event := peakRaised || c.pendingEvent }
    let s1 := updateCapture (fun c => { c with taken := c.taken + 1 }) s
    let s2 :=
      if keeps (thinningFactor divisor c.level) entry then keepSample entry s1
      else updateCapture (fun c => { c with thinned := c.thinned + 1 }) s1
    updateCapture (fun c => { c with pendingEvent := false }) s2

/-- The closing page of a test's capture (R184): the FILLING page with the last-page mark, else an empty last page, else none and
CAPTURE_GAP. -/
def closeLastPage (c : CaptureContext) (s : State) : State :=
  match c.filling with
  | some p => handOver { p with last := true } (updateCapture (fun c => { c with filling := none }) s)
  | none =>
    if 0 < freeCount s.cps then
      handOver { serial := c.serial, index := c.nextIndex, first := c.taken, last := true, entries := [], own := true } s
    else setTestFlags (fun f => { f with captureGap := true }) s

/-- The capture store returns to IDLE; no FULL page is any longer a capturing test's own (R176, R184). -/
def endCapture (s : State) : State :=
  { s with cps := { full := s.cps.full.map fun p => { p with own := false }, capture := none } }

/-- The pages of a discarded test freed, the others kept in order (R187). -/
def discardCapture (c : CaptureStore) : CaptureStore :=
  { full := c.full.filter fun p => !p.own, capture := none }

end Sys2Proof.Machine
end

