-- ==== Sys2Proof/Machine/Strain.lean ====
section
/-! DEFINITION. The extensometer channel (chapter 3): strains, zeroing, placement, handovers, the placement and removal timers,
fracture and closure. -/

namespace Sys2Proof.Machine

/-! ### Strains (R43 to R45) -/

/-- The extensometer strain of a latched count; absent without Le (R43). -/
def extStrain (b : StrainBasis) (count : BitVec 32) : Option Int :=
  b.le.map fun le => roundNearest (count.toInt * 100000) le

/-- The crosshead strain of a latched position (R44). -/
def xhStrain (b : StrainBasis) (position : Int) : Int :=
  roundNearest ((position - b.p0) * 1000000) b.lc

/-- Change the strain basis, if it is present. -/
def updateBasis (f : StrainBasis → StrainBasis) (s : State) : State :=
  { s with exc := { s.exc with basis := s.exc.basis.map f } }

/-- The crosshead zero reference set (R42). -/
def setP0 (p : Int) (s : State) : State :=
  updateBasis (fun b => { b with p0 := p }) s

/-- The extensometer state set (R46). -/
def setExtState (e : ExtState) (s : State) : State :=
  { s with exc := { s.exc with state := e } }

/-! ### Entering ACTIVE (R48) -/

/-- ACTIVE is entered: the tracker emptied and the last-valid values 0 (R48). -/
def beginActive (s : State) : State :=
  { s with exc := { s.exc with state := .active, tracker := none, lastActive := some { ext := 0, xh := 0, number := none } } }

/-- Zeroing at a sample: the count reduced by the sample's latched count, p0 at its latched position (R41, R48). -/
def zeroAtSample (l : Latch) (s : State) : State :=
  setP0 l.position { s with exc := { s.exc with count := s.exc.count - l.extCount } }

/-- The latched count of a conversion in flight replaced by 0 (R48). -/
def zeroLatch (c : Conversion) : Conversion :=
  { c with latch := c.latch.map fun l => { l with extCount := 0 } }

/-- The position from which a zeroing at a request counts: the latched one of a conversion in flight whose strobe has passed, else
the counter (R48). -/
def zeroPosition (s : State) : Int :=
  match s.ldc.conversion.bind fun c => c.latch with
  | some l => l.position
  | none => s.xhc.position

/-- Zeroing at a request: the count 0, the latched count of a conversion in flight 0, p0 as R48 gives. -/
def zeroAtRequest (s : State) : State :=
  setP0 (zeroPosition s)
    { s with exc := { s.exc with count := 0 }, ldc := { s.ldc with conversion := s.ldc.conversion.map zeroLatch } }

/-! ### Handovers (R52 to R54, R58, R60) -/

/-- The handover mark set (R53). -/
def markHandover (s : State) : State :=
  updateTest (fun t => { t with handoverMark := true }) s

/-- The handover offset set, HANDOVER entered for a sample, and the mark set (R52, R58, R60). -/
def handoverEntry (number : Nat) (h : Int) (s : State) : State :=
  markHandover (addEventAt .handover number h (updateBasis (fun b => { b with h := h }) s))

/-- Handover at a removal criterion at sample `number`, on the extensometer's side (R52). -/
def removalHandover (number : Nat) (h : Int) (s : State) : State :=
  handoverEntry number h
    (raise .cell .extRemoveReq { s with exc := { s.exc with state := .removeRequested, removal := some 0 } })

/-- Slip, with the tracker's record, on the extensometer's side (R60). -/
def slipHandover (m : SlipRecord) (s : State) : State :=
  handoverEntry m.number (m.ext - m.xh)
    (setTestFlags (fun f => { f with extSlip := true })
      (enterFault .extSlip
        (raise .cell .extRemoveReq { s with exc := { s.exc with state := .fault, removal := some 0 } })))

/-- The offset at the last valid sample that arrived in ACTIVE (R58, R62). -/
def lastActiveOffset (s : State) : Int :=
  match s.exc.lastActive with
  | some a => a.ext - a.xh
  | none => 0

/-- The sample number of an unannounced removal's HANDOVER: that of the last valid sample in ACTIVE, else the number the next
arrival will carry (R58). -/
def lastActiveNumber (s : State) : Nat :=
  match s.exc.lastActive.bind fun a => a.number with
  | some n => n
  | none => match s.tex.test with
    | some t => sampleNumber t.arrivals
    | none => 0

/-- An unannounced removal in ACTIVE (R58); the evaluator takes it as a handover (R152, R158). DEDUCED (log entry 39), unsafe: in TAIL
too it closes an OPEN fit and a SEARCHING search at the removal, as R58 and the tables of R152 and R158 have it. -/
def unannouncedRemoval (s : State) : State :=
  updateEvaluation evaluationLeaves
    (handoverEntry (lastActiveNumber s) (lastActiveOffset s)
      (setTestFlags (fun f => { f with extUnannounced := true }) (setExtState .parked s)))

/-- A handover in HOLD removal mode holds a RUNNING test; a held test keeps its cause (R54, R120). -/
def removalHold (p : Plan) (s : State) : State :=
  match p.removalMode, s.phase with
  | .hold, some .running => holdTest .extRemoval s
  | _, _ => s

/-! ### The end of preload (R47) -/

/-- What the extensometer channel does at the sample that ends preload (R47). -/
def extPreloadEnd (required : Bool) (l : Latch) (s : State) : State :=
  if required then
    match s.exc.state with
    | .attached => beginActive (zeroAtSample l s)
    | .parked =>
      raise .cell .extPlaceReq
        (setP0 l.position { s with exc := { s.exc with state := .placeRequested, placement := some 0 } })
    | .removeRequested | .fault =>
      markHandover
        (setP0 l.position
          (setTestFlags (fun f => { f with extNotPlaced := true }) (raise .cell .extRemoveReq s)))
    | .placeRequested | .active => s
  else markHandover (setP0 l.position s)

/-! ### Timers (R50, R56) -/

/-- The placement and removal timers stand still: HELD with cause SEQUENCER or GATE (R50, R56). -/
def timersPaused (s : State) : Bool :=
  match s.phase with
  | some (.held .sequencer _) | some (.held .gate _) => true
  | _ => false

/-- A timer of the extensometer channel after one sample interval (R50). -/
def advanceTimer (ts : Int) (paused : Bool) (t : Option Int) : Option Int :=
  if paused then t else t.map fun e => e + ts

/-- A timer has reached its timeout, given in seconds (R50, R56). -/
def timerReached (t : Option Int) (seconds : Int) : Bool :=
  match t with
  | some e => seconds * 1000000 ≤ e
  | none => false

/-- The placement timer expires (R50): PARKED, EXT_NOT_PLACED, the handover mark (R53), and stage 1 (R114). -/
def placementExpires (s : State) : State :=
  leavePlacing
    (markHandover
      (setTestFlags (fun f => { f with extNotPlaced := true })
        { s with exc := { s.exc with state := .parked, placement := none } }))

/-- A hold for removal changes its cause to EXT_LATE, with a HOLD entry (R56, R120). -/
def lateHold (r : ReturnState) (s : State) : State :=
  addEvent .hold (causeNumber .extLate) (setPhase (.held .extLate r) s)

/-- The removal timer expires (R56). -/
def removalExpires (p : Plan) (s : State) : State :=
  let s1 := setTestFlags (fun f => { f with extLate := true }) { s with exc := { s.exc with removal := none } }
  match p.removalMode with
  | .goOn => s1
  | .hold =>
    match s1.phase with
    | some (.held .extRemoval r) => raise .sequencer .extLate (lateHold r s1)
    | some .running => raise .sequencer .extLate s1
    | _ => s1

/-! ### Fracture and closure (R61, R62) -/

/-- The arms are on the specimen (R61). -/
def armsOn : ExtState → Bool
  | .active | .removeRequested | .fault => true
  | .parked | .attached | .placeRequested => false

/-- Both timers stopped. -/
def stopTimers (s : State) : State :=
  { s with exc := { s.exc with placement := none, removal := none } }

/-- The extensometer channel at the sample on which fracture is detected (R61). DEDUCED (log entry 40), unsafe: EXT_ON_AT_FRACTURE goes
by the state at this sample alone, also where the fracture record's source is EXT and the arms have been confirmed off (R168). -/
def extFracture (s : State) : State :=
  if armsOn s.exc.state then setTestFlags (fun f => { f with extOnAtFracture := true }) (stopTimers s) else stopTimers s

/-- The extensometer channel at closure (R62). -/
def extClosure (s : State) : State :=
  let s1 := stopTimers { s with exc := { s.exc with tracker := none } }
  match s.exc.state with
  | .active =>
    raise .cell .extRemoveReq
      (setExtState .removeRequested (updateBasis (fun b => { b with h := lastActiveOffset s }) s1))
  | .removeRequested | .fault => raise .cell .extRemoveReq s1
  | .placeRequested => setExtState .parked s1
  | .parked | .attached => s1

end Sys2Proof.Machine
end

