-- ==== Sys2Proof/Machine/Closing.lean ====
section
/-! DEFINITION. The verdict (R197, R198), the result record (R190, R191), the drive at the end of a motion (R69) and the closure of
a test (R128). -/

namespace Sys2Proof.Machine

/-! ### The verdict (R197, R198) -/

/-- Y, the yield value, and the yield used (R197). -/
def yieldValue (r : FinalResults) : Option (YieldUsed × Int) :=
  match r.reH, r.rp with
  | some y, _ => some (.reH, y)
  | none, some y => some (.rp, y)
  | none, none => none

/-- The yield ratio in ‰ (R197). -/
def ratioOf (r : FinalResults) : Option Int :=
  match yieldValue r, r.rm with
  | some (_, y), some rm => if 0 < rm then some (roundNearest (y * 1000) rm) else none
  | _, _ => none

/-- How a checked field with these bounds and this value fails, if it does (R198). -/
def fieldFailure (lo hi value : Option Int) : Option FieldFailure :=
  match value with
  | none => if lo.isSome || hi.isSome then some .absent else none
  | some v =>
    if lo.any fun b => v < b then some .low
    else if hi.any fun b => b < v then some .high
    else none

/-- The failing-field list, in the order YIELD, RM, A, RATIO (R198). -/
def failingFields (l : GradeLimits) (r : FinalResults) : List (CheckedField × FieldFailure) :=
  [(CheckedField.yield, fieldFailure l.yieldMin l.yieldMax ((yieldValue r).map fun y => y.2)),
   (CheckedField.rm, fieldFailure l.rmMin l.rmMax r.rm),
   (CheckedField.a, fieldFailure l.aMin none r.a),
   (CheckedField.ratio, fieldFailure none l.ratioMax (ratioOf r))].filterMap fun e => e.2.map fun f => (e.1, f)

/-- The verdict and the failing-field list (R198). -/
def verdictOf (limits : Option GradeLimits) (closure : Closure) (r : FinalResults) :
    Verdict × List (CheckedField × FieldFailure) :=
  match limits, closure with
  | some l, .complete =>
    let failing := failingFields l r
    if failing.any fun e => e.2 = .absent then (.incomplete, failing)
    else if failing.any fun e => e.2 = .low then (.low, failing)
    else if failing.any fun e => e.2 = .high then (.high, failing)
    else (.conforms, [])
  | _, _ => (.notChecked, [])

/-! ### The result record (R190, R191) -/

/-- The capture counters at closure (R183): taken, stored, thinned, lost. -/
def captureCounters (c : Option CaptureContext) : Nat × Nat × Nat × Nat :=
  match c with
  | some x => (x.taken, x.stored, x.thinned, x.lost)
  | none => (0, 0, 0, 0)

/-- The result record of a closing test (R190). `counters` are the capture counters as they stand (R183). -/
def resultRecord (t : TestContext) (m : MountedSpecimen) (closure : Closure) (final : FinalResults)
    (counters : Nat × Nat × Nat × Nat) (limits : Option GradeLimits) : ResultRecord :=
  { serial := t.serial, specimen := m.specimen, used := m.used, measured := m.measured, area := m.area, closure := closure,
    results := final, flags := t.flags,
    taken := counters.1, stored := counters.2.1, thinned := counters.2.2.1, lost := counters.2.2.2,
    events := t.events, dropped := t.dropped,
    yieldUsed := (yieldValue final).map fun y => y.1, ratio := ratioOf final,
    verdict := (verdictOf limits closure final).1, failing := (verdictOf limits closure final).2 }

/-- The record joins the end of the results list and the reservation becomes NONE (R189, R191). -/
def appendResult (r : ResultRecord) (s : State) : State :=
  { s with rsl := { s.rsl with results := s.rsl.results ++ [r], reserved := false } }

/-! ### The drive (R68, R69) -/

/-- The drive enable line (R68). -/
def driveEnable : DriveState → Bool
  | .disabled => false
  | .releasing | .moving | .holding => true

/-- The brake release line (R68). -/
def brakeRelease : DriveState → Bool
  | .disabled => false
  | .releasing | .moving | .holding => true

/-- Every drive timer stopped (R81, R83). -/
def stopDriveTimers (x : Crosshead) : Crosshead :=
  { x with brakeTimer := none, holdTimer := none, jogTimer := none }

/-- The end of a motion on the drive's side: the immediate zero word, HOLDING with the hold timer started from 0; a hold time of 0
leads straight to DISABLED (R69). -/
def driveHold (s : State) : State :=
  let x := stopDriveTimers s.xhc
  if s.xhc.config.holdTime = 0 then { s with xhc := { x with word := 0, drive := .disabled } }
  else { s with xhc := { x with word := 0, drive := .holding, holdTimer := some s.xhc.config.holdTime } }

/-- The drive disabled at once, with the immediate zero word (R81, R83). -/
def driveDisable (s : State) : State :=
  { s with xhc := { stopDriveTimers s.xhc with word := 0, drive := .disabled } }

/-- The active motion is a test. -/
def testIsActive (s : State) : Bool :=
  match s.mar.active with
  | some a => a.job == .test
  | none => false

/-- The active motion, unless it is a test. -/
def activeMotion (s : State) : Option ActiveMotion :=
  s.mar.active.filter fun a => a.job != .test

/-- An active motion other than a test ends with an outcome: filed (R98), and the drive holds (R69). With no such motion nothing. -/
def endMotion (o : MotionOutcome) (s : State) : State :=
  match activeMotion s with
  | none => s
  | some a => driveHold (clearActive (fileActiveEnd a o s))

/-! ### Closure (R128) -/

/-- The outcome filed for a closed test (R98, R128). -/
def closureOutcome : Closure → MotionOutcome × Option Reason
  | .complete => (.testComplete, none)
  | .aborted .estop => (.estop, some (.abort .estop))
  | .aborted c => (.testAborted, some (.abort c))

/-- The drive is left DISABLED through the closure: an abort by ESTOP or HARD_LIMIT (R69). -/
def leavesDisabled : Closure → Bool
  | .aborted .estop | .aborted .hardLimit => true
  | _ => false

/-- The closed test's completion filed in its port's slot, and the motion no longer active (R98, R128). -/
def fileTestEnd (serial : BitVec 16) (closure : Closure) (s : State) : State :=
  match s.mar.active with
  | none => s
  | some a =>
    clearActive
      (fileCompletion a.port
        { kind := .startTest, tag := a.tag, outcome := (closureOutcome closure).1, reason := (closureOutcome closure).2,
          position := finalPosition s, serial := some serial } s)

/-- The closed test's notices (R128). -/
def closureNotices (s : State) : State :=
  raise .cell .unloadReq (raise .record .resultReady (raise .record .testEnded (raise .sequencer .testEnded s)))

/-- The slot's specimen becomes TESTED (R16). -/
def slotTested (s : State) : State :=
  { s with spt := { s.spt with slot := s.spt.slot.map fun m => { m with state := .tested } } }

/-- The record appended for the test in progress, from the slot and the counters as they stand (R16, R191). -/
def recordTest (t0 : TestContext) (closure : Closure) (counters : Nat × Nat × Nat × Nat) (s : State) : State :=
  match s.tex.test, s.spt.slot with
  | some t, some m =>
    appendResult
      (resultRecord t m closure (finalResults t0.plan (closure == .complete) s.ldc.peak t0.rev) counters
        s.rsl.limits[m.specimen.grade])
      s
  | _, _ => { s with rsl := { s.rsl with reserved := false } }

/-- The test in progress closes (R128): results finalised, extensometer channel, last page, record, completion, notices, slot,
range, drive, rate loop, and the context discarded, all at one event. -/
def closeTest (closure : Closure) (s : State) : State :=
  match s.tex.test with
  | none => s
  | some t =>
    let s1 := extClosure s
    let s2 := match s1.cps.capture with
      | some c => closeLastPage c s1
      | none => s1
    let s3 := endCapture (recordTest t closure (captureCounters s1.cps.capture) s2)
    let s4 := closureNotices (fileTestEnd t.serial closure s3)
    let s5 := selectRange t.plan.initialRange 4 (slotTested s4)
    let s6 := if leavesDisabled closure then s5 else driveHold s5
    { s6 with tex := { s6.tex with test := none }, rlp := idleLoop }

/-- The test in progress, if there is one, is aborted with a cause (R127). -/
def abortTest (c : AbortCause) (s : State) : State :=
  closeTest (.aborted c) s

end Sys2Proof.Machine
end

