-- ==== Sys2Proof/Machine/Motion.lean ====
section
/-! DEFINITION. The crosshead controller's words and soft limits (R70, R79), the start of motions (R69, R71, R74, R77), the start
conditions and activation of a test (R110, R111), and the motion arbiter's activation (R94, R95). -/

namespace Sys2Proof.Machine

/-! ### The set-point word (R70) -/

/-- Plus or minus a speed in µm/s, as nm/s. -/
def signedSpeed (d : Direction) (speed : Int) : Int :=
  match d with
  | .up => speed * 1000
  | .down => -(speed * 1000)

/-- The value an active motion gives for the word: its profile value, or for a test the rate loop's last set-point (R70, R71, R75,
R77, R112). -/
def profileValue (c : FrameConfig) (setPoint : Int) : ActiveJob → Int
  | .search .waiting => 0
  | .search .upward => c.searchRate * 1000
  | .search .downward => -(c.searchRate * 1000)
  | .move _ _ _ profile => profile
  | .retract _ _ profile => profile
  | .jog d speed _ => signedSpeed d speed
  | .test => setPoint

/-- The base value of a word (R70). -/
def baseValue (s : State) : Int :=
  match s.xhc.drive, s.mar.active with
  | .moving, some a => profileValue s.xhc.config s.rlp.setPoint a.job
  | _, _ => 0

/-- A value points at a soft limit at which, or beyond which, the position stands, the reference being VALID (R70, R79). -/
def towardSoftLimit (x : Crosshead) (v : Int) : Bool :=
  x.referenceValid && ((0 < v && x.config.upperSoft ≤ x.position) || (v < 0 && x.position ≤ x.config.lowerSoft))

/-- A value points at an active hard-limit switch (R70). -/
def towardHardLimit (i : Inputs) (v : Int) : Bool :=
  (0 < v && i.upperLimit) || (v < 0 && i.lowerLimit)

/-- The active motion belongs to the cell port (R70). -/
def cellMotion (s : State) : Bool :=
  match s.mar.active with
  | some a => a.port == .cell
  | none => false

/-- A word of this base value is forced to 0 (R70). -/
def forcedZero (s : State) (base : Int) : Bool :=
  s.inputs.estop || towardHardLimit s.inputs base || towardSoftLimit s.xhc base || (s.inputs.gateOpen && !cellMotion s)

/-- The word of a base value: forced to 0, clamped to the jog limit with the gate open, or the base value (R70). -/
def formWord (s : State) (base : Int) : Int :=
  if forcedZero s base then 0
  else if s.inputs.gateOpen then clampTo (-(s.xhc.config.jogLimit * 1000)) (s.xhc.config.jogLimit * 1000) base
  else base

/-- A word sent to the drive. -/
def sendWordValue (w : Int) (s : State) : State :=
  { s with xhc := { s.xhc with word := w } }

/-- The soft-limit event on the motion that is active (R79): the zero word, and JOG, MOVE TO or RETRACT end STOPPED_LIMIT. A test
at the upper limit is aborted; `up` says which limit. -/
def softLimitEvent (up : Bool) (s : State) : State :=
  match s.mar.active with
  | some { job := .test, .. } => if up then abortTest .softLimit (sendWordValue 0 s) else sendWordValue 0 s
  | some { job := .search _, .. } => sendWordValue 0 s
  | some _ => endMotion .stoppedLimit (sendWordValue 0 s)
  | none => sendWordValue 0 s

/-- A word formed and sent outside the arrivals, with its soft-limit event (R70, R79). -/
def sendWord (s : State) : State :=
  if towardSoftLimit s.xhc (baseValue s) then softLimitEvent (0 < baseValue s) s
  else sendWordValue (formWord s (baseValue s)) s

/-! ### Starting a motion (R69, R71, R74, R77) -/

/-- The active motion's work replaced. -/
def setJob (j : ActiveJob) (s : State) : State :=
  { s with mar := { s.mar with active := s.mar.active.map fun a => { a with job := j } } }

/-- The position stands at or beyond the soft limit in a direction, the reference being VALID (R77, R78). -/
def atSoftLimit (x : Crosshead) (d : Direction) : Bool :=
  x.referenceValid &&
    match d with
    | .up => x.config.upperSoft ≤ x.position
    | .down => x.position ≤ x.config.lowerSoft

/-- The active motion's own work begins, the drive having become MOVING (R69): a search chooses its phase by the switch (R71); a
jog starts its duration timer, or ends at once at a soft limit (R77). -/
def beginMotion (s : State) : State :=
  match s.mar.active with
  | some { job := .search _, .. } => setJob (.search (if s.inputs.referenceSwitch then .upward else .downward)) s
  | some { job := .jog d _ duration, .. } =>
    if atSoftLimit s.xhc d then endMotion .stoppedLimit s
    else { s with xhc := { s.xhc with jogTimer := some duration } }
  | _ => s

/-- The active motion starts according to the drive state (R69). -/
def startDrive (s : State) : State :=
  match s.xhc.drive with
  | .disabled => { s with xhc := { s.xhc with drive := .releasing, brakeTimer := some s.xhc.config.brakeTime } }
  | .holding => beginMotion { s with xhc := { s.xhc with drive := .moving, holdTimer := none } }
  | .releasing | .moving => s

/-- The working target of a move and whether it was clamped (R74). -/
def workingTarget (c : FrameConfig) (target : Int) : Int × Bool :=
  (clampTo c.lowerSoft c.upperSoft target, outside c.lowerSoft c.upperSoft target)

/-- The position lies within the in-position band of a target (R74, R75). -/
def inBand (c : FrameConfig) (target position : Int) : Bool :=
  (target - position).natAbs ≤ c.band

/-! ### Starting a test (R107, R110, R111) -/

/-- The records of the results list, counting one more while a test is in progress (R110, R189). -/
def resultsClaimed (s : State) : Nat :=
  s.rsl.results.length + if s.rsl.reserved then 1 else 0

/-- The first failing start condition of R110, in order. -/
def startRefusal (s : State) : Option RequestOutcome :=
  if !s.testIdle then some .testInProgress
  else match s.spt.slot with
    | none => some .wrongState
    | some m =>
      if m.state != .mounted then some .wrongState
      else if !planValidFor s.xhc.config s.tex.plans[m.specimen.plan] m then some .planInvalid
      else if !s.xhc.referenceValid then some .noReference
      else if s.inputs.gateOpen then some .gateOpen
      else if !s.pif.faults.isEmpty then some .faultsPending
      else if s.cal.inFlight.isSome then some .calBusy
      else if Config.resultsCapacity ≤ resultsClaimed s then some .resultsFull
      else none

/-- The test context at activation (R111). -/
def newTest (serial : BitVec 16) (m : MountedSpecimen) (p : Plan) : TestContext :=
  { serial := serial, planId := m.specimen.plan, plan := p, specimenId := m.specimen.id, phase := .preload, stage := none,
    fractureNumber := none, events := [], dropped := 0, flags := ⟨false, false, false, false, false, false, false⟩,
    handoverMark := false, arrivals := 0, rev := startEvaluation }

/-- The strain basis at activation (R42). -/
def newBasis (m : MountedSpecimen) (position : Int) : StrainBasis :=
  { le := m.specimen.le, lc := m.specimen.lc, p0 := position, h := 0 }

/-- The test's activation (R111), its motion being active already: serial and context, the slot TESTING, the plan's range and an
empty peak, the strain basis, the reservation (R189), the preload set-point (R133), capturing. -/
def activateTest (m : MountedSpecimen) (p : Plan) (s : State) : State :=
  let serial := s.tex.serial + 1
  let s1 : State :=
    { s with
      tex := { s.tex with serial := serial, test := some (newTest serial m p) },
      spt := { s.spt with slot := some { m with state := .testing } },
      exc := { s.exc with basis := some (newBasis m s.xhc.position) },
      rsl := { s.rsl with reserved := true },
      rlp := { idleLoop with setPoint := p.preloadRate * 1000 } }
  let s2 := selectRange p.initialRange p.settleSamples.toNat s1
  startCapture serial { s2 with ldc := { s2.ldc with peak := none } }

/-! ### Activation (R94, R95) -/

/-- A queued request is eligible (R94). -/
def eligible (s : State) (rq : MotionRequest) : Bool :=
  match rq.job with
  | .jog _ _ _ => s.mar.holder == some rq.port
  | .retract => !s.ldc.loadFault
  | _ => !s.ldc.loadFault && s.mar.holder == some rq.port

/-- A request taken for activation that ends at once (R95). When it is a RETRACT that preempted a motion, the drive holds with the
immediate zero word (R76); else drive and word are unchanged. -/
def endAtOnce (preempting : Bool) (rq : MotionRequest) (o : MotionOutcome) (reason : Option Reason) (s : State) : State :=
  let s1 := fileRequestEnd rq o reason s
  if preempting then driveHold s1 else s1

/-- A request becomes the active motion and starts by R69. -/
def makeActive (rq : MotionRequest) (j : ActiveJob) (s : State) : State :=
  startDrive { s with mar := { s.mar with active := some { port := rq.port, tag := rq.tag, job := j } } }

/-- A REFERENCE SEARCH at its activation: the reference becomes INVALID and the travel count 0 (R71). -/
def startSearch (s : State) : State :=
  { s with xhc := { s.xhc with referenceValid := false, searchTravel := 0 } }

/-- A move to a working target taken for activation (R74, R76, R95). DEDUCED (log entry 32), unsafe: its profile value is 0 until its
first arrival. -/
def takeMove (preempting : Bool) (rq : MotionRequest) (target speed : Int) (s : State) : State :=
  let wt := workingTarget s.xhc.config target
  if !s.xhc.referenceValid then endAtOnce preempting rq .notStarted (some (.refusal .noReference)) s
  else if rq.job != .retract && rq.port == .sequencer && s.inputs.gateOpen then endAtOnce preempting rq .stoppedGate none s
  else if inBand s.xhc.config wt.1 s.xhc.position then
    endAtOnce preempting rq (if wt.2 && rq.job != .retract then .doneClamped else .done) none s
  else makeActive rq (if rq.job = .retract then .retract wt.1 speed 0 else .move wt.1 speed wt.2 0) s

/-- A START TEST taken for activation: rechecked by R110, then activated (R95, R111). -/
def takeStartTest (rq : MotionRequest) (s : State) : State :=
  match startRefusal s with
  | some o => endAtOnce false rq .notStarted (some (.refusal o)) s
  | none =>
    match s.spt.slot with
    | none => s
    | some m =>
      match s.tex.plans[m.specimen.plan] with
      | none => s
      | some p => activateTest m p (makeActive rq .test s)

/-- A request taken for activation: rechecked by R95, in its order, and made the active motion. -/
def takeRequest (preempting : Bool) (rq : MotionRequest) (s : State) : State :=
  if limitForbids s rq.job then endAtOnce preempting rq .notStarted (some (.refusal .atLimit)) s
  else match rq.job with
    | .moveTo target speed => takeMove preempting rq target speed s
    | .retract => takeMove preempting rq s.xhc.config.retractPosition s.xhc.config.vmax s
    | .referenceSearch =>
      if rq.port == .sequencer && s.inputs.gateOpen then endAtOnce preempting rq .stoppedGate none s
      else makeActive rq (.search .waiting) (startSearch s)
    | .startTest => takeStartTest rq s
    | .jog d speed duration => makeActive rq (.jog d (min speed s.xhc.config.jogLimit) duration) s

/-- A queued request leaves the queue (R88, R94, R96). -/
def unqueue (rq : MotionRequest) (s : State) : State :=
  { s with mar := { s.mar with queue := s.mar.queue.erase rq } }

/-- Attempts at activation: the first eligible request of the queue is taken, and again while none is active (R94). `fuel` bounds
the requests taken. -/
def activationLoop : Nat → State → State
  | 0, s => s
  | fuel + 1, s =>
    if s.mar.active.isSome then s
    else match s.mar.queue.find? (eligible s) with
      | none => s
      | some rq => activationLoop fuel (takeRequest false rq (unqueue rq s))

/-- The motion arbiter tries activation (R94). -/
def tryActivate (s : State) : State :=
  activationLoop s.mar.queue.length s

/-- Activation is tried when the active motion has ended (R94). -/
def activateAfterEnd (before after : State) : State :=
  if before.mar.active.isSome && after.mar.active.isNone then tryActivate after else after

end Sys2Proof.Machine
end

