-- ==== Sys2Proof/Machine/Arrival.lean ====
section
/-! DEFINITION. One sample arrival, from the converter's code to the captured sample (R24), as a chain of the blocks' works in the
order: load channel, extensometer channel, result evaluator, test executive, rate loop, crosshead controller, capture store, and
then a closure and the activation it allows. Where the rules leave an order open, log entries 10 to 19 say what is chosen. -/

namespace Sys2Proof.Machine

/-- An arrival being worked on: the state so far, the sample set as formed so far, and what has come about at it. -/
structure Arrival where
  s : State
  latch : Latch
  set : SampleSet
  settled : Bool
  overloaded : Bool
  fracture : Bool
  slip : Option SlipRecord
  handover : Bool
  peakRaised : Bool
  entered : Bool
  timedOut : Bool
  tailEnded : Bool
  closing : Option Closure
  deriving DecidableEq, Repr

/-! ### Force and stress (R25 to R28, R31, R32) -/

/-- The segment of a table on which a code lies, or the end segment it is extended from (R26). -/
def segmentOf : List CalPoint → Int → Option (CalPoint × CalPoint)
  | a :: b :: rest, code => if code ≤ b.code || rest.isEmpty then some (a, b) else segmentOf (b :: rest) code
  | _, _ => none

/-- Gross force of a code by a table, rounded once on the whole sum (R26). -/
def grossForce (points : List CalPoint) (code : Int) : Int :=
  match segmentOf points code with
  | some (a, b) => roundNearest (a.force * (b.code - a.code) + (code - a.code) * (b.force - a.force)) (b.code - a.code)
  | none => 0

/-- A code at or beyond ±8,000,000 (R31). -/
def overRangeCode (code : Int) : Bool :=
  8000000 ≤ code || code ≤ -8000000

/-- Stress of a force on an area, unclamped (R28). -/
def stressOf (force area : Int) : Int :=
  roundNearest (force * 1000) area

/-- The load channel's fields of the sample set of a code (R24, R26 to R28, R31, R32); the strain comes later. -/
def loadSample (code : Int) (range : LoadRange) (l : Latch) (s : State) : SampleSet :=
  let gross := grossForce (s.ldc.active.get range).points code
  let net := gross - s.ldc.tare
  let force := clampTo (-forceBound) forceBound net
  let stress := (stressArea s).map (stressOf force)
  { number := s.tex.test.map fun t => sampleNumber t.arrivals,
    range := range, code := code, overRange := overRangeCode code, gross := gross, force := force,
    stress := stress.map (clampTo (-stressBound) stressBound),
    invalid := 0 < s.ldc.settle || (overRangeCode code && range != .r4),
    saturated := outside (-forceBound) forceBound net || stress.any (outside (-stressBound) stressBound),
    extCount := l.extCount, position := l.position, strain := 0, source := .away }

/-- The load channel as the arrival leaves it: the conversion has arrived, the miss count is 0, the load-fault state ended (R21,
R23), the settle count one lower (R32). -/
def loadTaken (s : State) : State :=
  { s with ldc := { s.ldc with conversion := none, missCount := 0, loadFault := false, settle := s.ldc.settle - 1 } }

/-- The arrival as the load channel begins it. -/
def beginArrival (code : Int) (range : LoadRange) (l : Latch) (s : State) : Arrival :=
  { s := loadTaken s, latch := l, set := loadSample code range l s, settled := s.ldc.settle == 0, overloaded := false,
    fracture := false, slip := none, handover := false, peakRaised := false, entered := false, timedOut := false,
    tailEnded := false, closing := none }

/-- The state of an arrival changed. -/
def Arrival.mapState (f : State → State) (a : Arrival) : Arrival :=
  { a with s := f a.s }

/-! ### Overload and step-up (R35, R36) -/

/-- A sample is overloaded (R36). -/
def sampleOverloaded (fcap : Int) (x : SampleSet) : Bool :=
  fcap * 105 < (x.force.natAbs : Int) * 100 || (x.overRange && x.range == .r4)

/-- The overload state and, at the onset, the fault entry (R36, R37). -/
def overloadCheck (a : Arrival) : Arrival :=
  let now := sampleOverloaded a.s.xhc.config.fcap a.set
  let s1 : State := { a.s with ldc := { a.s.ldc with overload := now } }
  { a with overloaded := now, s := if now && !a.s.ldc.overload then enterFault .overload s1 else s1 }

/-- A sample triggers a step-up (R35). -/
def triggersStep (s : State) (x : SampleSet) : Bool :=
  fullScale s x.range * 9 < (x.gross.natAbs : Int) * 10 || x.overRange

/-- Auto step-up (R35). -/
def stepUp (a : Arrival) : Arrival :=
  match a.s.tex.test with
  | none => a
  | some t =>
    if t.plan.autoRange && a.settled && a.s.ldc.range != .r4 && triggersStep a.s a.set then
      a.mapState fun s =>
        setTestFlags (fun f => { f with rangeStepped := true })
          (addEvent .rangeUp (rangeNumber (nextRange s.ldc.range))
            (selectRange (nextRange s.ldc.range) t.plan.settleSamples.toNat s))
    else a

/-! ### The test peak and the fracture criterion (R38, R124) -/

/-- The sample raises the test peak (R38). -/
def raisesPeak (s : State) (x : SampleSet) : Bool :=
  !x.invalid && !s.testIdle && (match s.ldc.peak with | none => true | some k => k.force < x.force)

/-- Fm with the sample included (R38). -/
def peakForce (s : State) (x : SampleSet) : Option Int :=
  if raisesPeak s x then some x.force else s.ldc.peak.map fun k => k.force

/-- The phases in which fracture is examined (R124). -/
def fracturePhase : TestPhase → Bool
  | .preload | .placing | .running | .held _ _ => true
  | .tail _ => false

/-- The fracture criterion holds on the sample (R124). -/
def fractures (s : State) (x : SampleSet) : Bool :=
  match s.tex.test, peakForce s x with
  | some t, some fm =>
    fracturePhase t.phase && !x.invalid && t.plan.fractureFloor ≤ fm && x.force * 100 < fm * t.plan.fractureFraction
  | _, _ => false

/-! ### Strain, slip and removal (R43 to R45, R51, R52, R59, R60) -/

/-- The test is RUNNING or HELD (R51, R59). -/
def runningOrHeld (s : State) : Bool :=
  match s.phase with
  | some .running | some (.held _ _) => true
  | _ => false

/-- The plan of the test in progress. -/
def State.plan (s : State) : Option Plan :=
  s.tex.test.map fun t => t.plan

/-- Slip is declared at a valid sample with these unclamped strains: the tracker's record (R59, R60). -/
def slipAt (s : State) (fracture : Bool) (x : SampleSet) (ext : Int) : Option SlipRecord :=
  match s.exc.tracker, s.plan with
  | some m, some p =>
    if runningOrHeld s && !x.invalid && !fracture && ext < m.ext - p.slipThreshold && m.force ≤ x.force then some m else none
  | _, _ => none

/-- The slip tracker after a sample (R59). -/
def trackSlip (s : State) (x : SampleSet) (ext xh : Int) : Option SlipRecord :=
  let record : SlipRecord := { ext := ext, number := x.number.getD 0, force := x.force, xh := xh }
  if runningOrHeld s && !x.invalid then
    match s.exc.tracker with
    | none => some record
    | some m => if m.ext < ext then some record else some m
  else s.exc.tracker

/-- The combined strain, unclamped, and its source (R45, R60). -/
def combinedStrain (b : StrainBasis) (active : Bool) (slip : Option SlipRecord) (ext xh : Int) : Int × StrainSource :=
  match slip with
  | some m => (xh + (m.ext - m.xh), .xh)
  | none => if active then (ext, .ext) else (xh + b.h, .xh)

/-- The sample set with a combined strain, clamped last (R45). -/
def withStrain (v : Int × StrainSource) (x : SampleSet) : SampleSet :=
  { x with strain := clampTo (-strainBound) strainBound v.1, source := v.2,
           saturated := x.saturated || outside (-strainBound) strainBound v.1 }

/-- The extensometer channel's memory of a valid sample in ACTIVE: the tracker and the last-valid values (R46, R59). -/
def rememberActive (x : SampleSet) (ext xh : Int) (s : State) : State :=
  { s with exc :=
    { s.exc with
      tracker := trackSlip s x ext xh,
      lastActive := if x.invalid then s.exc.lastActive else some { ext := ext, xh := xh, number := x.number } } }

/-- The extensometer channel forms the combined strain (R45), examines slip (R60) and keeps its memory (R46, R59). -/
def formStrain (a : Arrival) : Arrival :=
  let fracture := fractures a.s a.set
  match a.s.exc.basis with
  | none => { a with fracture := fracture, set := withStrain (0, .away) a.set }
  | some b =>
    let ext := (extStrain b a.latch.extCount).getD 0
    let xh := xhStrain b a.latch.position
    if a.s.exc.state = .active then
      let slip := slipAt a.s fracture a.set ext
      { a with
        fracture := fracture, slip := slip, set := withStrain (combinedStrain b true slip ext xh) a.set,
        s := rememberActive a.set ext xh a.s }
    else { a with fracture := fracture, set := withStrain (combinedStrain b false none ext xh) a.set }

/-- The peak record a sample leaves (R38). -/
def peakOf (x : SampleSet) : Peak :=
  { force := x.force, number := x.number.getD 0, stress := x.stress.getD 0, strain := x.strain }

/-- The test peak takes the sample (R38). -/
def updatePeak (a : Arrival) : Arrival :=
  if raisesPeak a.s a.set then
    { a with peakRaised := true, s := { a.s with ldc := { a.s.ldc with peak := some (peakOf a.set) } } }
  else a

/-- A removal criterion is met, Fm being the peak with the sample included (R51). -/
def removalMet (p : Plan) (peak : Option Peak) (x : SampleSet) : Bool :=
  (p.removalStrain != 0 && p.removalStrain ≤ x.strain) ||
  (p.removalDrop != 0 &&
    match peak with
    | some k => p.fractureFloor ≤ k.force && x.force * 1000 < k.force * (1000 - p.removalDrop)
    | none => false)

/-- The sample is examined for removal (R51). -/
def removalExamined (a : Arrival) : Bool :=
  a.s.exc.state == .active && runningOrHeld a.s && !a.set.invalid && a.slip.isNone && !a.fracture

/-- The handovers made while the sample is formed: slip (R60), or a removal criterion (R52). -/
def formHandover (a : Arrival) : Arrival :=
  match a.slip, a.s.plan with
  | some m, _ => { a with handover := true, s := slipHandover m a.s }
  | none, some p =>
    if removalExamined a && removalMet p a.s.ldc.peak a.set then
      { a with handover := true, s := removalHandover (a.set.number.getD 0) (lastActiveOffset a.s) a.s }
    else a
  | none, none => a

/-! ### The result evaluator (R147 to R149) -/

/-- The sample as the evaluator takes it (R147). -/
def samplePoint (x : SampleSet) : SamplePoint :=
  { number := x.number.getD 0, force := x.force, stress := x.stress.getD 0, strain := x.strain, source := x.source }

/-- The saturation flag, the fracture record and the last-valid-sample record (R148, R149). -/
def rememberSample (fracture : Bool) (x : SampleSet) (v : Evaluation) : Evaluation :=
  { v with
    saturated := v.saturated || x.saturated,
    fracture := if fracture then v.lastValid else v.fracture,
    lastValid := if x.invalid then v.lastValid else some (samplePoint x) }

/-- The sample is an evaluated sample (R147). -/
def evaluated (a : Arrival) : Bool :=
  !a.set.invalid && a.s.phase == some .running && !a.fracture && !a.s.inputs.gateOpen

/-- Entries made at the sample, in order. -/
def addSampleEvents (es : List SampleEvent) (s : State) : State :=
  es.foldl (fun s e => addEvent e.1 e.2 s) s

/-- The result evaluator's work on the sample (R147 to R149), and then on a handover made at it (R152, R158). -/
def evaluateArrival (a : Arrival) : Arrival :=
  match a.s.tex.test with
  | none => a
  | some t =>
    let v := rememberSample a.fracture a.set t.rev
    let r := if evaluated a then evaluateSample t.plan (samplePoint a.set) v else (v, [])
    let left := if a.handover then evaluationLeaves r.1 else r.1
    a.mapState fun s => addSampleEvents r.2 (updateEvaluation (fun _ => left) s)

/-! ### The test executive (R113, R116 to R118, R123 to R125, R127) -/

/-- Fracture is detected at the sample (R124). -/
def detectFracture (a : Arrival) : Arrival :=
  match a.fracture, a.s.tex.test with
  | true, some t =>
    let n := (t.rev.fracture.map fun x => x.number).getD 0
    let f := (t.rev.fracture.map fun x => x.force).getD 0
    a.mapState fun s =>
      loopTail (extFracture (addEventAt .fracture n f
        (updateTest (fun t => { t with phase := .tail 0, fractureNumber := some n }) s)))
  | _, _ => a

/-- A stage is entered at the sample (R115, R135). -/
def enterStage (i : Nat) (d : StageDef) (a : Arrival) : Arrival :=
  { a with entered := true, s := loopLoad d (beginStage i d a.s) }

/-- Preload ends at the sample (R113, R47). -/
def endPreload (p : Plan) (a : Arrival) : Arrival :=
  let s1 := extPreloadEnd p.extRequired a.latch (addEvent .preloadEnd a.set.force a.s)
  if s1.exc.state = .placeRequested then { a with s := setSetPoint 0 (setPhase .placing s1) }
  else match stageAt p 1 with
    | some d => enterStage 1 d { a with s := setPhase .running s1 }
    | none => { a with s := setPhase .running s1 }

/-- The end condition of a stage is met (R116). -/
def endMet (t : TestContext) (r : StageRun) (d : StageDef) (x : SampleSet) : Bool :=
  match d.endKind with
  | .strainGe => d.endValue.getD 0 ≤ x.strain
  | .forceGe => d.endValue.getD 0 ≤ x.force
  | .stressGe => d.endValue.getD 0 ≤ x.stress.getD 0
  | .yieldEnd => t.rev.tracker.state == .ended
  | .handover => t.handoverMark
  | .timeGe => d.endValue.getD 0 * 1000 ≤ r.elapsed
  | .never => false

/-- The index a stage's successor names (R104). -/
def successorIndex (i : Nat) : Successor → Nat
  | .stage j => j
  | .next => i + 1

/-- Change the current stage's marks. -/
def markStage (f : StageRun → StageRun) (s : State) : State :=
  updateTest (fun t => { t with stage := t.stage.map f }) s

/-- The end condition is met: the successor is entered, or lies beyond the last stage (R117). -/
def takeEnd (p : Plan) (r : StageRun) (d : StageDef) (a : Arrival) : Arrival :=
  match stageAt p (successorIndex r.index d.successor) with
  | some d' => enterStage (successorIndex r.index d.successor) d' a
  | none => a.mapState fun s => addEvent .stageEnd r.index (markStage (fun r => { r with endLogged := true }) s)

/-- The timeout holds and is acted on (R118). -/
def takeTimeout (p : Plan) (r : StageRun) (d : StageDef) (a : Arrival) : Arrival :=
  let a1 := { a with timedOut := true }
  match d.timeoutAction with
  | .abort => { a1 with closing := some (.aborted .stageTimeout) }
  | .successor =>
    let a2 := a1.mapState fun s => addEvent .stageTimeout r.index s
    match stageAt p (successorIndex r.index d.successor) with
    | some d' => enterStage (successorIndex r.index d.successor) d' a2
    | none => a2.mapState fun s => markStage (fun r => { r with timeoutLogged := true }) s

/-- The stage timeout holds (R118). -/
def timeoutHolds (r : StageRun) (d : StageDef) : Bool :=
  d.timeoutMs != 0 && !r.timeoutLogged && d.timeoutMs * 1000 ≤ r.elapsed

/-- The current stage judged at a valid sample in RUNNING: its end condition, and where that is not met its timeout (R116 to
R118). -/
def judgeStage (t : TestContext) (a : Arrival) : Arrival :=
  match t.stage with
  | none => a
  | some r =>
    match stageAt t.plan r.index with
    | none => a
    | some d =>
      if !r.endLogged && endMet t r d a.set then takeEnd t.plan r d a
      else if timeoutHolds r d then takeTimeout t.plan r d a
      else a

/-- An arrival in TAIL: the tail count, and the closure it brings (R125). -/
def countTail (p : Plan) (n : Int) (a : Arrival) : Arrival :=
  let a1 := a.mapState fun s => setPhase (.tail (n + 1)) s
  if p.tailSamples ≤ n + 1 then { a1 with tailEnded := true, closing := some .complete } else a1

/-- A valid sample of this force ends preload; with a preload force of 0 any does (R113). -/
def preloadReached (p : Plan) (force : Int) : Bool :=
  p.preloadForce = 0 || p.preloadForce ≤ force

/-- The test executive on a sample that neither fractured, nor overloaded, nor met an open gate (R113, R116, R125). -/
def judgePhase (t : TestContext) (a : Arrival) : Arrival :=
  match t.phase with
  | .preload => if !a.set.invalid && preloadReached t.plan a.set.force then endPreload t.plan a else a
  | .running => if a.set.invalid then a else judgeStage t a
  | .tail n => countTail t.plan n a
  | .placing | .held _ _ => a

/-- A HOLD-mode handover made at the sample holds the test, after the stage transition of that sample (R54, R117). DESIGN CHOICE (log
entry 31), unsafe: a sample at which a stage timeout with action ABORT closes the test is closed without the hold and its entry. -/
def handoverHold (p : Plan) (a : Arrival) : Arrival :=
  if a.handover && a.closing.isNone then a.mapState (removalHold p) else a

/-- The test executive takes the sample: fracture first, then an overload's abort (R127), then an open gate (R123), then the
judgement of its state, and last the hold of a handover. DESIGN CHOICE (log entry 42), unsafe: a HOLD-mode handover at an overloaded
arrival makes its HANDOVER entry, and the abort closes the test without the hold and its HOLD entry. -/
def executiveTakes (a0 : Arrival) : Arrival :=
  match a0.s.tex.test with
  | none => a0
  | some t =>
    let a := detectFracture a0
    if a.overloaded then { a with closing := some (.aborted .overload) }
    else if a.fracture then
      if t.plan.tailSamples = 0 then { a with tailEnded := true, closing := some .complete } else a
    else if a.s.inputs.gateOpen && (holdableAs t.phase).isSome then a.mapState (holdTest .gate)
    else handoverHold t.plan (judgePhase t a)

/-! ### The rate loop (R134) -/

/-- The values the loop reads at the sample (R132). -/
def loopInputs (p : Plan) (s : State) (x : SampleSet) : LoopInputs :=
  { ts := s.xhc.config.sampleInterval, vmax := s.xhc.config.vmax,
    lc := (s.spt.slot.map fun m => m.specimen.lc).getD 0, kc := p.kc, eNom := p.eNom, strain := x.strain,
    stress := x.stress.getD 0 }

/-- The loop computes on the sample: it is valid, and the test RUNNING once the executive has taken it (R134). -/
def loopComputes (a : Arrival) : Bool :=
  !a.set.invalid && a.closing.isNone && a.s.phase == some .running

/-- The rate loop's work (R134, R144): it seeds at a stage's sample of entry, when PENDING, and at a slip sample of a STRAIN_RATE
stage. -/
def loopTakes (a : Arrival) : Arrival :=
  match a.s.plan with
  | none => a
  | some p =>
    if loopComputes a then
      a.mapState fun s =>
        { s with rlp :=
          loopCompute (loopInputs p s a.set) (a.entered || (a.slip.isSome && s.rlp.mode == .strainRate)) s.rlp }
    else a

/-! ### The crosshead controller (R36, R70, R75, R79) -/

/-- The profile value of a move at distance `d` from its working target, outside the band (R75). -/
def moveProfile (c : FrameConfig) (speed d : Int) : Int :=
  let v := if (d.natAbs : Int) ≤ c.approach then min c.creepRate speed else speed
  if 0 < d then v * 1000 else -(v * 1000)

/-- The active MOVE TO or RETRACT evaluated at the arrival, against the latched position (R75). -/
def evaluateMove (position : Int) (s : State) : State :=
  if s.xhc.drive = .moving then
    match s.mar.active with
    | some { job := .move target speed clamped _, .. } =>
      if inBand s.xhc.config target position then endMotion (if clamped then .doneClamped else .done) s
      else setJob (.move target speed clamped (moveProfile s.xhc.config speed (target - position))) s
    | some { job := .retract target speed _, .. } =>
      if inBand s.xhc.config target position then endMotion .done s
      else setJob (.retract target speed (moveProfile s.xhc.config speed (target - position))) s
    | _ => s
  else s

/-- A motion other than a JOG is ended by an overloaded arrival; a test is closed by the executive (R36). -/
def overloadEnds (s : State) : State :=
  match s.mar.active with
  | some { job := .jog _ _ _, .. } => s
  | _ => endMotion .overload s

/-- The active motion at the arrival (R36, R75). DESIGN CHOICE (log entry 30), unsafe: an overloaded arrival within the band of a MOVE
TO or RETRACT ends it OVERLOAD, not DONE. -/
def motionTakes (a : Arrival) : Arrival :=
  if a.overloaded then a.mapState overloadEnds else a.mapState (evaluateMove a.latch.position)

/-- The set-point word of the arrival (R70): zero for an arrival that closes the test (R145); at a soft limit the zero word, the
motion ended or the test to be closed (R79). -/
def wordTakes (a : Arrival) : Arrival :=
  if a.closing.isSome then a.mapState (sendWordValue 0)
  else if towardSoftLimit a.s.xhc (baseValue a.s) then
    if testIsActive a.s then
      if 0 < baseValue a.s then { a with closing := some (.aborted .softLimit), s := sendWordValue 0 a.s }
      else a.mapState (sendWordValue 0)
    else a.mapState (softLimitEvent (0 < baseValue a.s))
  else a.mapState fun s => sendWordValue (formWord s (baseValue s)) s

/-! ### Publication, capture and closure (R24, R176, R177, R128) -/

/-- The sample set published as the latest (R24), its gross force kept when it is valid (R29). -/
def publish (a : Arrival) : Arrival :=
  a.mapState fun s =>
    { s with ldc := { s.ldc with
      latest := some a.set, lastValidGross := if a.set.invalid then s.ldc.lastValidGross else some a.set.gross } }

/-- The test is HELD (R177). -/
def State.isHeld (s : State) : Bool :=
  match s.phase with
  | some (.held _ _) => true
  | _ => false

/-- The capture entry of the sample, before its EVENT mark (R177). DESIGN CHOICE (log entry 33), unsafe: the entry of an arrival that
aborts a HELD test carries HELD, the test being closed after the capture. -/
def captureEntry (a : Arrival) : CaptureEntry :=
  { number := a.set.number.getD 0, force := a.set.force, stress := a.set.stress.getD 0, strain := a.set.strain,
    extCount := a.set.extCount, position := a.set.position, setPoint := a.s.xhc.word, invalid := a.set.invalid,
    saturated := a.set.saturated, strainXh := a.set.source == .xh, held := a.s.isHeld, event := false }

/-- The capture store takes the sample (R176 to R182). -/
def captureTakes (a : Arrival) : Arrival :=
  match a.s.plan with
  | none => a
  | some p => a.mapState (captureSample p.divisor a.peakRaised (captureEntry a))

/-- The closure the arrival brings, or the arrival counted (R24, R128). -/
def closeOrCount (a : Arrival) : Arrival :=
  match a.closing with
  | some c => a.mapState (closeTest c)
  | none => a.mapState (updateTest fun t => { t with arrivals := t.arrivals + 1 })

/-- The whole work on an arrival but the activation that may follow it. -/
def workArrival (code : Int) (range : LoadRange) (l : Latch) (s : State) : Arrival :=
  closeOrCount (captureTakes (publish (wordTakes (motionTakes (loopTakes (executiveTakes (evaluateArrival (formHandover
    (updatePeak (formStrain (stepUp (overloadCheck (beginArrival code range l s)))))))))))))

/-- The conversion whose code can arrive: in flight, its strobe passed (R20). -/
def arriving (s : State) : Option (LoadRange × Latch) :=
  match s.ldc.conversion with
  | some c => c.latch.map fun l => (c.range, l)
  | none => none

/-- Activation after an arrival: when the active motion ended, or the load-fault state did (R94). -/
def activateAfterArrival (before after : State) : State :=
  if before.ldc.loadFault then tryActivate after else activateAfterEnd before after

/-- An arrival and what came about at it. With no conversion whose strobe has passed, no code reaches the part (R20). -/
def arrive (code : Int) (s : State) : Option Arrival :=
  (arriving s).map fun c => (workArrival code c.1 c.2 s).mapState (activateAfterArrival s)

end Sys2Proof.Machine
end

