-- ==== Sys2Proof/Machine/Status.lean ====
section
/-! DEFINITION. What READ STATUS (R202 and the chapters), READ LIVE (R24) and READ CALIBRATION (R212) report. -/

namespace Sys2Proof.Machine

/-- A position in a queue, counted from 1, of a port's request (R90). -/
def queuePosition (p : Port) : List MotionRequest → Option Nat
  | [] => none
  | rq :: rest => if rq.port = p then some 1 else (queuePosition p rest).map (· + 1)

/-- A port's queued request (R90). -/
def queuedOf (m : Arbiter) (p : Port) : Option MotionRequest :=
  m.queue.find? fun rq => rq.port == p

/-- A port's active motion (R90). -/
def activeOf (m : Arbiter) (p : Port) : Option ActiveMotion :=
  m.active.filter fun a => a.port == p

/-- The condition of a port's motion request (R90). -/
def requestCondition (m : Arbiter) (p : Port) : RequestCondition :=
  if (activeOf m p).isSome then .active
  else match queuePosition p m.queue with
    | some n => .queued n
    | none => if (m.slot p).isSome then .filed else .absent

/-- The kind and tag of a port's motion request, active, queued or filed (R90). -/
def requestIdentity (m : Arbiter) (p : Port) : Option (MotionKind × Tag) :=
  match activeOf m p, queuedOf m p, m.slot p with
  | some a, _, _ => some (activeKind a.job, a.tag)
  | none, some rq, _ => some (jobKind rq.job, rq.tag)
  | none, none, some c => some (c.kind, c.tag)
  | none, none, none => none

/-- The item of R90 for a motion-capable port. -/
def requestReport (m : Arbiter) (p : Port) : RequestReport :=
  { condition := requestCondition m p, kind := (requestIdentity m p).map fun i => i.1,
    tag := (requestIdentity m p).map fun i => i.2 }

/-- The held cause (R108). -/
def heldCause : TestPhase → Option HoldCause
  | .held c _ => some c
  | _ => none

/-- The items of R108; the stage's elapsed time in whole ms, NEAREST (R1). -/
def testReport (s : State) : TestReport :=
  { state := s.testState,
    serial := s.tex.test.map fun t => t.serial, plan := s.tex.test.map fun t => t.planId,
    stage := s.tex.test.bind fun t => t.stage.map fun r => r.index,
    elapsedMs := s.tex.test.bind fun t => t.stage.map fun r => roundNearest r.elapsed 1000,
    cause := s.tex.test.bind fun t => heldCause t.phase }

/-- The items of R131; the target in the measured quantity's own unit, NEAREST. -/
def loopReport (r : RateLoop) : LoopReport :=
  { mode := r.mode, rate := r.rate, seed := r.seed, target := r.target.map fun t => roundNearest t 1000000,
    setPoint := r.setPoint }

/-- The items of R146 for the test in progress. -/
def evaluationReport (t : TestContext) : EvaluationReport :=
  { fit := t.rev.fit.state, n := t.rev.fit.n, e := t.rev.fit.e, eps0 := t.rev.fit.eps0, search := t.rev.search.state,
    rp := t.rev.search.rp.map (reportedRp t.plan), tracker := t.rev.tracker.state, sigmaMax := t.rev.tracker.sigmaMax,
    reH := t.rev.tracker.reH, reL := t.rev.tracker.reL, fitInvalid := t.rev.fitInvalid, rpNotReached := t.rev.rpNotReached,
    nominalE := t.rev.nominalE, saturated := t.rev.saturated }

/-- The items of R186 that stand while CAPTURING only. -/
def capturingReport (divisor : Int) (c : CaptureContext) : CapturingReport :=
  { factor := thinningFactor divisor c.level, taken := c.taken, stored := c.stored, thinned := c.thinned, lost := c.lost,
    lossRun := c.lossRun, fillingCount := c.filling.map fun p => p.entries.length }

/-- The level as reported: that of the capture, and 0 outside CAPTURING (R178). -/
def reportedLevel (c : CaptureStore) : Nat :=
  match c.capture with
  | none => 0
  | some x => x.level

/-- The items of R186; the head of the list on the record port only. -/
def captureReport (s : State) (withHead : Bool) : CaptureReport :=
  { free := freeCount s.cps, fullCount := s.cps.full.length,
    head := if withHead then s.cps.full.head?.map fun p => (p.serial, p.index) else none,
    level := reportedLevel s.cps,
    capturing := s.cps.capture.map (capturingReport ((s.plan.map fun p => p.divisor).getD 1)) }

/-- The items of R188. -/
def resultsReport (r : ResultsStore) : ResultsReport :=
  { count := r.results.length, reserved := r.reserved, head := r.results.head?.map fun x => (x.serial, x.closure) }

/-- The READ STATUS items for a port, as they stand (R202). DESIGN CHOICE (log entry 34): outside a test the sequencer port gets the
capture items of an IDLE store, where R186 speaks "for the test in progress" only. -/
def statusReport (p : Port) (s : State) : StatusReport :=
  { slot := s.spt.slot.map fun m => m.state, locked := s.xhc.locked, referenceValid := s.xhc.referenceValid,
    drive := s.xhc.drive, holder := s.mar.holder, waiter := s.mar.waiter,
    request := if p = .record then none else some (requestReport s.mar p),
    test := testReport s,
    events := if p = .sequencer then some (s.tex.test.map fun t => (t.events.length, t.dropped)) else none,
    loop := if p = .sequencer then some (loopReport s.rlp) else none,
    evaluation := if p = .sequencer then some (s.tex.test.map evaluationReport) else none,
    capture := if p = .cell then none else some (captureReport s (p == .record)),
    results := if p = .record then some (resultsReport s.rsl) else none,
    firstPending := firstPending (s.portOf p), enables := (s.portOf p).enables, promoted := (s.portOf p).promoted,
    faults := if p = .sequencer then some (s.pif.faults, activeFaults s) else none,
    calInFlight := s.cal.inFlight.map fun w => w.range }

/-- The READ LIVE items, as they stand (R24, R39, R45, R70). -/
def liveReport (s : State) : LiveReport :=
  { latest := s.ldc.latest, tare := s.ldc.tare, missCount := s.ldc.missCount, loadFault := s.ldc.loadFault,
    overload := s.ldc.overload, peak := s.ldc.peak, extState := s.exc.state, h := s.exc.basis.map fun b => b.h,
    p0 := s.exc.basis.map fun b => b.p0, word := s.xhc.word }

/-- A factory full scale, for ranges 1 to 3 (R209). -/
def factoryFullScale (c : Calibration) : LoadRange → Option Int
  | .r1 => some c.fullScale1
  | .r2 => some c.fullScale2
  | .r3 => some c.fullScale3
  | .r4 => none

/-- The READ CALIBRATION items of one range; a table in PROGRAMMING is reported without points (R212). -/
def rangeCalibration (s : State) (r : LoadRange) : RangeCalibration :=
  { factory := s.cal.factory.get r, fullScale := factoryFullScale s.cal r, validity := (s.cal.site.get r).validity,
    points := if (s.cal.site.get r).validity = .programming then none else some (s.cal.site.get r).points,
    active := (s.ldc.active.get r).source }

/-- The READ CALIBRATION payload (R212). -/
def calibrationReport (s : State) : PerRange RangeCalibration :=
  { r1 := rangeCalibration s .r1, r2 := rangeCalibration s .r2, r3 := rangeCalibration s .r3, r4 := rangeCalibration s .r4 }

end Sys2Proof.Machine
end

