-- ==== Sys2Proof/Machine/Wire.lean ====
section
/-! DEFINITION. The bytes of answers (R201, R214): the codes of enumerated fields, the encodings of fields, and the payloads. -/

namespace Sys2Proof.Machine

/-! ### Field encodings (R214) -/

/-- The low `k` bytes of a number, most significant first (R214). -/
def natBytes : Nat → Nat → List Byte
  | 0, _ => []
  | k + 1, n => BitVec.ofNat 8 (n / 256 ^ k) :: natBytes k n

/-- Four signed bytes hold the number. -/
def fitsNumber (x : Int) : Bool :=
  -2147483648 ≤ x && x ≤ 2147483647

/-- A number: 4 bytes, signed; the bytes of one that does not fit are free (log entry 7). -/
def numberBytes (x : Int) : List Byte :=
  natBytes 4 (if fitsNumber x then BitVec.ofInt 32 x else Config.oversizeNumber x).toNat

/-- A yes-or-no field or a mark: 1 byte. -/
def markByte (b : Bool) : Byte :=
  if b then 1 else 0

/-- An optional number, or a bound that may be ANY: a presence byte, and the number when present. DESIGN CHOICE (log entry 43),
unsafe: nothing follows a presence byte 0. -/
def optionalBytes (x : Option Int) : List Byte :=
  match x with
  | none => [0]
  | some v => 1 :: numberBytes v

/-- A string: a length byte and the characters. -/
def textBytes (t : Text) : List Byte :=
  BitVec.ofNat 8 t.length :: t

/-- A list: a count byte and the entries. -/
def listBytes {α : Type} (entry : α → List Byte) (l : List α) : List Byte :=
  BitVec.ofNat 8 l.length :: (l.map entry).flatten

/-- An enumerated field that may be absent or NONE: 0, or the value's code. -/
def optionalCode {α : Type} (code : α → Byte) (x : Option α) : Byte :=
  match x with
  | none => 0
  | some v => code v

/-- A byte of bits, bit 0 first. -/
def bitsByte : List Bool → Byte
  | [] => 0
  | b :: rest => markByte b + bitsByte rest + bitsByte rest

/-! ### Codes of enumerated fields, numbered from 1 in the order their rules list them (R214) -/

/-- Shapes (R2). -/
def shapeCode : Shape → Byte
  | .flat => 1 | .round => 2

/-- Bands (section 1.2). -/
def bandCode : Band → Byte
  | .returned => 1 | .rush => 2 | .normal => 3

/-- Slot states, EMPTY included (R8). -/
def slotCode : Option SlotState → Byte
  | none => 1 | some .mounted => 2 | some .testing => 3 | some .tested => 4

/-- Reference validity (R67). -/
def referenceCode (valid : Bool) : Byte :=
  if valid then 1 else 2

/-- Drive states (R68). -/
def driveCode : DriveState → Byte
  | .disabled => 1 | .releasing => 2 | .moving => 3 | .holding => 4

/-- Claim entries (R85). -/
def portCode : Port → Byte
  | .sequencer => 1 | .cell => 2 | .record => 3

/-- Request conditions (R90). -/
def conditionCode : RequestCondition → Byte
  | .absent => 0 | .queued _ => 1 | .active => 2 | .filed => 3

/-- Claim roles (R92). -/
def roleCode : ClaimRole → Byte
  | .holder => 1 | .waiter => 2

/-- The request kind of a motion kind (R98). -/
def motionRequestKind : MotionKind → RequestKind
  | .referenceSearch => .referenceSearch
  | .moveTo => .moveTo
  | .startTest => .startTest
  | .jog => .jog
  | .retract => .retract

/-- Test states (R108). -/
def testStateCode : TestStateName → Byte
  | .idle => 1 | .preload => 2 | .placing => 3 | .running => 4 | .held => 5 | .tail => 6

/-- Held causes (R214). -/
def causeCode : HoldCause → Byte
  | .sequencer => 1 | .gate => 2 | .extRemoval => 3 | .extLate => 4

/-- Loop modes (R131). -/
def loopModeCode : LoopMode → Byte
  | .xhRate => 1 | .strainRate => 2 | .stressRate => 3 | .hold => 4 | .off => 0

/-- Seed states (R131). -/
def seedCode : SeedState → Byte
  | .seeded => 1 | .pending => 2

/-- Fit states (R150). -/
def fitCode : FitState → Byte
  | .notStarted => 1 | .opened => 2 | .valid => 3 | .invalid => 4 | .notFitted => 5

/-- Search states (R155). -/
def searchCode : SearchState → Byte
  | .waiting => 1 | .searching => 2 | .found => 3 | .notReached => 4 | .notRun => 5

/-- Tracker states (R160). -/
def trackerCode : TrackerState → Byte
  | .rising => 1 | .inPhase => 2 | .ended => 3

/-- Closure kinds (R190). -/
def closureCode : Closure → Byte
  | .complete => 1 | .aborted _ => 2

/-- Abort causes, in the order of R127. -/
def abortCode : AbortCause → Byte
  | .operator => 1 | .estop => 2 | .overload => 3 | .loadFault => 4 | .hardLimit => 5 | .softLimit => 6 | .stageTimeout => 7
  | .equipmentCheck => 8

/-- Strain sources (R214, R45). -/
def sourceCode : StrainSource → Byte
  | .ext => 1 | .xh => 2 | .away => 0

/-- Extensometer states (R46). -/
def extStateCode : ExtState → Byte
  | .parked => 1 | .attached => 2 | .placeRequested => 3 | .active => 4 | .removeRequested => 5 | .fault => 6

/-- Removal modes (R103). -/
def removalModeCode : RemovalMode → Byte
  | .hold => 1 | .goOn => 2

/-- Rounding modes (R214). -/
def roundModeCode : RoundMode → Byte
  | .nearest => 1 | .down => 2 | .up => 3 | .truncate => 4

/-- Control modes (R104). -/
def controlModeCode : ControlMode → Byte
  | .xhRate => 1 | .strainRate => 2 | .stressRate => 3 | .hold => 4

/-- End condition kinds (R104). -/
def endKindCode : EndKind → Byte
  | .strainGe => 1 | .forceGe => 2 | .stressGe => 3 | .yieldEnd => 4 | .handover => 5 | .timeGe => 6 | .never => 0

/-- Successors: a stage index, or 9 for NEXT (R104; log entry 20). -/
def successorCode : Successor → Byte
  | .stage i => BitVec.ofNat 8 i
  | .next => 9

/-- Timeout actions (R104). -/
def timeoutActionCode : TimeoutAction → Byte
  | .abort => 1 | .successor => 2

/-- Site validities (R209). -/
def validityCode : SiteValidity → Byte
  | .valid => 1 | .invalid => 2 | .programming => 3

/-- Which table is active, in the order R212 lists them. -/
def activeSectionCode : CalSection → Byte
  | .factory => 1 | .site => 2

/-- Motion outcomes, in the order of R98. -/
def motionOutcomeCode : MotionOutcome → Byte
  | .done => 1 | .doneClamped => 2 | .stopped => 3 | .stoppedGate => 4 | .stoppedLimit => 5 | .preempted => 6
  | .cancelled => 7 | .estop => 8 | .equipmentCheck => 9 | .overload => 10 | .loadFault => 11 | .notStarted => 12
  | .testComplete => 13 | .testAborted => 14

/-- Outcome codes: 0..5 for the accepting outcomes, 16..45 for the refusals (R214). -/
def outcomeCode : RequestOutcome → Byte
  | .ok => 0 | .queued => 1 | .waiting => 2 | .granted => 3 | .withdrawn => 4 | .dropped => 5
  | .notPermitted => 16 | .unknownRequest => 17 | .badParameter => 18 | .wrongState => 19 | .noClaim => 20
  | .alreadyHeld => 21 | .notHeld => 22 | .outstanding => 23 | .uncollected => 24 | .noReference => 25 | .estopActive => 26
  | .gateOpen => 27 | .atLimit => 28 | .loadFault => 29 | .queueFull => 30 | .duplicate => 31 | .unknownSpecimen => 32
  | .badGeometry => 33 | .mounted => 34 | .testInProgress => 35 | .resultsFull => 36 | .planInvalid => 37 | .planInUse => 38
  | .faultsPending => 39 | .calBusy => 40 | .isProtected => 41 | .badTable => 42 | .isLocked => 43 | .tareRange => 44
  | .empty => 45

/-- The accepting outcomes (R202). -/
def RequestOutcome.accepting : RequestOutcome → Bool
  | .ok | .queued | .waiting | .granted | .withdrawn | .dropped => true
  | _ => false

/-- Event kinds, in the order of R129. -/
def eventCode : EventKind → Byte
  | .preloadEnd => 1 | .stage => 2 | .stageEnd => 3 | .stageTimeout => 4 | .hold => 5 | .resume => 6 | .rateChanged => 7
  | .fracture => 8 | .rangeUp => 9 | .handover => 10 | .yieldDrop => 11 | .yieldEnd => 12 | .rpFound => 13
  | .captureThin => 14 | .captureLoss => 15

/-- Yield used (R214). -/
def yieldUsedCode : YieldUsed → Byte
  | .reH => 1 | .rp => 2

/-- Verdicts, in the order of R198's table (R190 names the same order). -/
def verdictCode : Verdict → Byte
  | .notChecked => 1 | .incomplete => 2 | .low => 3 | .high => 4 | .conforms => 5

/-- Checked fields (R214). -/
def fieldCode : CheckedField → Byte
  | .yield => 1 | .rm => 2 | .a => 3 | .ratio => 4

/-- Failures (R214). -/
def failureCode : FieldFailure → Byte
  | .absent => 1 | .low => 2 | .high => 3

/-! ### Flag word, promoted kind, fault word (R214) -/

/-- A set of a port's flags as a flag word: bit n for the flag at position n + 1. -/
def wordOfNotices (p : Port) (has : Notice → Bool) : BitVec 16 :=
  (noticesOf p).reverse.foldl (fun w n => w + w + (if has n then 1 else 0)) 0

/-- A flag word's two bytes. -/
def flagWordBytes (p : Port) (has : Notice → Bool) : List Byte :=
  natBytes 2 (wordOfNotices p has).toNat

/-- A flag's position in its port's order, from 1. -/
def noticeByte (p : Port) (n : Notice) : Byte :=
  BitVec.ofNat 8 ((noticesOf p).idxOf n + 1)

/-- The fault word's byte, bits 0..5 in the order of R207. -/
def faultByte (w : FaultWord) : Byte :=
  bitsByte [w.equipmentCheck, w.hardLimit, w.overload, w.loadFault, w.calVerify, w.extSlip]

/-- Two flag words, RAISED then SEEN (R214). -/
def flagStatesBytes (p : Port) (states : List (Notice × FlagState)) : List Byte :=
  flagWordBytes p (fun n => flagIn states n == .raised) ++ flagWordBytes p (fun n => flagIn states n == .seen)

/-! ### READ STATUS, chapter by chapter -/

/-- The item of R90. -/
def requestItem (r : RequestReport) : List Byte :=
  [conditionCode r.condition, optionalCode (fun k => kindCode (motionRequestKind k)) r.kind] ++
  optionalBytes (r.tag.map fun t => (t.toNat : Int)) ++
  optionalBytes (match r.condition with | .queued n => some (n : Int) | _ => none)

/-- The items of R108. -/
def testItems (t : TestReport) : List Byte :=
  [testStateCode t.state] ++ optionalBytes (t.serial.map fun x => (x.toNat : Int)) ++
  optionalBytes (t.plan.map fun x => (x.val : Int)) ++ optionalBytes (t.stage.map fun x => (x : Int)) ++
  optionalBytes t.elapsedMs ++ [optionalCode causeCode t.cause]

/-- The items of R129: the number of entries and the dropped count. -/
def eventItems (e : Option (Nat × Nat)) : List Byte :=
  optionalBytes (e.map fun x => (x.1 : Int)) ++ optionalBytes (e.map fun x => (x.2 : Int))

/-- The items of R131. -/
def loopItems (r : LoopReport) : List Byte :=
  [loopModeCode r.mode] ++ optionalBytes r.rate ++ [seedCode r.seed] ++ optionalBytes r.target ++ numberBytes r.setPoint

/-- A mark of a report that may be absent. DEDUCED (log entry 24), unsafe: R214 gives a mark no absent form, and an absent one is sent
as the one byte 0, with no presence byte. -/
def optionalMark {α : Type} (mark : α → Bool) (x : Option α) : Byte :=
  optionalCode (fun v => markByte (mark v)) x

/-- The items of R146. -/
def evaluationItems (e : Option EvaluationReport) : List Byte :=
  [optionalCode (fun x => fitCode x.fit) e] ++ optionalBytes (e.map fun x => x.n) ++ optionalBytes (e.bind fun x => x.e) ++
  optionalBytes (e.bind fun x => x.eps0) ++ [optionalCode (fun x => searchCode x.search) e] ++
  optionalBytes (e.bind fun x => x.rp) ++ [optionalCode (fun x => trackerCode x.tracker) e] ++
  optionalBytes (e.bind fun x => x.sigmaMax) ++ optionalBytes (e.bind fun x => x.reH) ++
  optionalBytes (e.bind fun x => x.reL) ++
  [optionalMark (fun x => x.fitInvalid) e, optionalMark (fun x => x.rpNotReached) e, optionalMark (fun x => x.nominalE) e,
   optionalMark (fun x => x.saturated) e]

/-- A number of a report that may be absent. -/
def optionalNat {α : Type} (value : α → Nat) (x : Option α) : List Byte :=
  optionalBytes (x.map fun v => (value v : Int))

/-- The items of R186; the head of the list on the record port only, the level always (R178). DEDUCED (log entry 24), unsafe: outside
CAPTURING the loss-run state is one mark byte 0 without a presence byte. -/
def captureItems (withHead : Bool) (c : CaptureReport) : List Byte :=
  numberBytes c.free ++ numberBytes c.fullCount ++
  (if withHead then optionalNat (fun h => h.1.toNat) c.head ++ optionalNat (fun h => h.2) c.head else []) ++
  [if c.capturing.isSome then 2 else 1] ++ numberBytes c.level ++
  optionalBytes (c.capturing.map fun x => x.factor) ++
  optionalNat (fun x => x.taken) c.capturing ++ optionalNat (fun x => x.stored) c.capturing ++
  optionalNat (fun x => x.thinned) c.capturing ++ optionalNat (fun x => x.lost) c.capturing ++
  [optionalMark (fun x => x.lossRun) c.capturing] ++
  optionalNat (fun x => x) (c.capturing.bind fun x => x.fillingCount)

/-- The items of R188. -/
def resultsItems (r : ResultsReport) : List Byte :=
  numberBytes r.count ++ [markByte r.reserved] ++ optionalNat (fun h => h.1.toNat) r.head ++
  [optionalCode (fun h => closureCode h.2) r.head]

/-- The items of chapter 11: first pending kind, enables, promoted kind, fault word and active kinds, write in flight. -/
def portItems (p : Port) (r : StatusReport) : List Byte :=
  [optionalCode (noticeByte p) r.firstPending] ++ flagWordBytes p (fun n => r.enables.contains n) ++
  [optionalCode (noticeByte p) r.promoted] ++
  (match r.faults with | some (w, active) => [faultByte w, faultByte active] | none => []) ++
  [markByte r.calInFlight.isSome] ++ optionalBytes (r.calInFlight.map rangeNumber)

/-- An item that a port does not get sends no bytes. -/
def itemBytes {α : Type} (bytes : α → List Byte) (x : Option α) : List Byte :=
  match x with
  | none => []
  | some v => bytes v

/-- The READ STATUS payload, in the order of the chapters (R214). -/
def statusBytes (p : Port) (r : StatusReport) : List Byte :=
  [slotCode r.slot, markByte r.locked, referenceCode r.referenceValid, driveCode r.drive, optionalCode portCode r.holder,
   optionalCode portCode r.waiter] ++
  itemBytes requestItem r.request ++ testItems r.test ++ itemBytes eventItems r.events ++ itemBytes loopItems r.loop ++
  itemBytes evaluationItems r.evaluation ++ itemBytes (captureItems (p == .record)) r.capture ++
  itemBytes resultsItems r.results ++ portItems p r

/-! ### READ LIVE -/

/-- The fields of a sample set, in the order of R24. -/
def sampleBytes (x : SampleSet) : List Byte :=
  optionalNat (fun n => n) x.number ++ numberBytes (rangeNumber x.range) ++ numberBytes x.code ++ [markByte x.overRange] ++
  numberBytes x.gross ++ numberBytes x.force ++ optionalBytes x.stress ++ [markByte x.invalid, markByte x.saturated] ++
  numberBytes x.extCount.toInt ++ numberBytes x.position ++ numberBytes x.strain

/-- The fields of the peak record (R38). -/
def peakBytes (k : Peak) : List Byte :=
  numberBytes k.force ++ numberBytes k.number ++ numberBytes k.stress ++ numberBytes k.strain

/-- A record that may be absent: a presence byte, and the record when present; nothing follows a presence byte 0 (log entry 43). -/
def presentBytes {α : Type} (bytes : α → List Byte) (x : Option α) : List Byte :=
  match x with
  | none => [0]
  | some v => 1 :: bytes v

/-- The READ LIVE payload: R24's items, then R45's, then R70's. DEDUCED (log entry 23), unsafe: this order, and that the load-fault and
overload states go as marks (0 inactive, 1 active), not as enumerated fields. -/
def liveBytes (r : LiveReport) : List Byte :=
  presentBytes sampleBytes r.latest ++ numberBytes r.tare ++ numberBytes r.missCount ++
  [markByte r.loadFault, markByte r.overload] ++ presentBytes peakBytes r.peak ++
  [optionalCode (fun x => sourceCode x.source) r.latest, extStateCode r.extState] ++ optionalBytes r.h ++ optionalBytes r.p0 ++
  numberBytes r.word

/-! ### READ QUEUE (R7) -/

/-- The shape of dimensions. -/
def dimsShape : Dims → Shape
  | .flat _ _ => .flat
  | .round _ => .round

/-- Width, thickness and diameter, those not of the shape absent. -/
def dimsFields : Dims → List (Option Int)
  | .flat w t => [some w, some t, none]
  | .round d => [none, none, some d]

/-- Width, thickness and diameter as optional numbers (R2). -/
def dimsBytes (d : Dims) : List Byte :=
  ((dimsFields d).map optionalBytes).flatten

/-- The fields of a specimen record, in the order of R2. -/
def specimenBytes (r : SpecimenRecord) : List Byte :=
  textBytes r.id ++ textBytes r.heat ++ numberBytes r.grade.val ++ [shapeCode (dimsShape r.dims)] ++ dimsBytes r.dims ++
  optionalBytes r.le ++ numberBytes r.lc ++ numberBytes r.plan.val ++ [markByte r.rush] ++ textBytes r.retestOf

/-- A queued record: its fields and its band (R7). -/
def queuedBytes (q : QueuedSpecimen) : List Byte :=
  specimenBytes q.specimen ++ [bandCode q.band]

/-- The mounted record: fields, dimensions used, measured marks, S (R7). -/
def mountedBytes (m : MountedSpecimen) : List Byte :=
  specimenBytes m.specimen ++ dimsBytes m.used ++
  [markByte m.measured.width, markByte m.measured.thickness, markByte m.measured.diameter] ++ numberBytes m.area

/-- The READ QUEUE payload (R7). -/
def queueBytes (q : List QueuedSpecimen) (slot : Option MountedSpecimen) : List Byte :=
  listBytes queuedBytes q ++ [slotCode (slot.map fun m => m.state)] ++ itemBytes mountedBytes slot

/-! ### Configuration, plans, limits, calibration -/

/-- The fifteen fields of R64. -/
def configFields (c : FrameConfig) : List Int :=
  [c.sampleInterval, c.fcap, c.lowerSoft, c.upperSoft, c.referencePosition, c.searchRate, c.searchLimit, c.vmax, c.jogLimit,
   c.creepRate, c.approach, c.band, c.holdTime, c.brakeTime, c.retractPosition]

/-- Numbers one after another. -/
def numbersBytes (l : List Int) : List Byte :=
  (l.map numberBytes).flatten

/-- A stage, in the order of R104. -/
def stageBytes (d : StageDef) : List Byte :=
  [controlModeCode d.mode] ++ numberBytes d.rate ++ [endKindCode d.endKind] ++ optionalBytes d.endValue ++
  [successorCode d.successor] ++ numberBytes d.timeoutMs ++ [timeoutActionCode d.timeoutAction]

/-- A plan: the general fields in the order of R103, then the stages. DESIGN CHOICE (log entry 35), unsafe: an answer sends the bare
values, where a request sends each general field behind the presence byte of "a field that a request may omit" (R214). -/
def planBytes (p : Plan) : List Byte :=
  numbersBytes [p.preloadForce, p.preloadRate] ++ [markByte p.extRequired] ++
  numbersBytes [p.placementTimeout, p.removalStrain, p.removalDrop] ++ [removalModeCode p.removalMode] ++
  numbersBytes [p.removalTimeout, p.slipThreshold, p.rpOffset, p.fitLow, p.fitHigh, p.eNom, p.yieldDrop, p.yieldLimit,
    p.fractureFraction, p.fractureFloor, p.tailSamples, p.divisor, rangeNumber p.initialRange] ++ [markByte p.autoRange] ++
  numbersBytes [p.settleSamples, p.kc] ++ [roundModeCode p.roundMode] ++ numbersBytes [p.stressRes, p.strainRes] ++
  listBytes stageBytes p.stages

/-- Six bounds, in the order of R194. -/
def limitsBytes (l : GradeLimits) : List Byte :=
  optionalBytes l.yieldMin ++ optionalBytes l.yieldMax ++ optionalBytes l.rmMin ++ optionalBytes l.rmMax ++
  optionalBytes l.aMin ++ optionalBytes l.ratioMax

/-- A calibration point: a code and a force (R214). -/
def pointBytes (q : CalPoint) : List Byte :=
  numberBytes q.code ++ numberBytes q.force

/-- One range of READ CALIBRATION (R212); a table without points sends an empty list. -/
def rangeCalibrationBytes (c : RangeCalibration) : List Byte :=
  listBytes pointBytes c.factory ++ optionalBytes c.fullScale ++ listBytes pointBytes (c.points.getD []) ++
  [validityCode c.validity, activeSectionCode c.active]

/-- The READ CALIBRATION payload (R212). -/
def calibrationBytes (c : PerRange RangeCalibration) : List Byte :=
  rangeCalibrationBytes c.r1 ++ rangeCalibrationBytes c.r2 ++ rangeCalibrationBytes c.r3 ++ rangeCalibrationBytes c.r4

/-! ### Completion record, capture page, result record (the tables of 11.7) -/

/-- The reason byte of a completion record. -/
def reasonByte : Option Reason → Byte
  | none => 0
  | some (.refusal o) => outcomeCode o
  | some (.abort c) => abortCode c

/-- The completion record. DESIGN CHOICE (log entry 41), unsafe: the bytes of an absent final position and of an absent test serial are
sent as 0. -/
def completionBytes (c : Completion) : List Byte :=
  [kindCode (motionRequestKind c.kind)] ++ natBytes 2 c.tag.toNat ++ [motionOutcomeCode c.outcome, reasonByte c.reason] ++
  [bitsByte [c.position.isSome, c.serial.isSome]] ++ numberBytes (c.position.getD 0) ++ natBytes 2 (c.serial.getD 0).toNat

/-- An entry of a capture page. -/
def entryBytes (e : CaptureEntry) : List Byte :=
  natBytes 4 e.number ++ numbersBytes [e.force, e.stress, e.strain, e.extCount.toInt, e.position, e.setPoint] ++
  [bitsByte [e.invalid, e.saturated, e.strainXh, e.held, e.event]]

/-- The capture page. -/
def pageBytes (p : CapturePage) : List Byte :=
  natBytes 2 p.serial.toNat ++ natBytes 2 p.index ++ natBytes 4 p.first ++ natBytes 2 p.entries.length ++ [markByte p.last] ++
  (p.entries.map entryBytes).flatten

/-- An event list entry: 9 bytes. -/
def eventBytes (e : Event) : List Byte :=
  [eventCode e.kind] ++ natBytes 4 e.number ++ numberBytes e.value

/-- The abort cause of a closure. -/
def closureCause : Closure → Option AbortCause
  | .complete => none
  | .aborted c => some c

/-- The optional results, in the order of the record. -/
def resultFields (r : FinalResults) : List (Option Int) :=
  [r.reH, r.reL, r.rp, r.rm, r.e, r.ag, r.a]

/-- The flags in the order of R190. -/
def resultFlags (r : ResultRecord) : List Bool :=
  [r.results.saturated, r.flags.captureGap, r.flags.extNotPlaced, r.flags.extSlip, r.flags.extUnannounced, r.flags.extLate,
   r.flags.extOnAtFracture, r.results.fitInvalid, r.results.rpNotReached, r.results.nominalE, r.flags.rangeStepped]

/-- Bits as a number, bit 0 first. -/
def bitsNat : List Bool → Nat
  | [] => 0
  | b :: rest => (if b then 1 else 0) + 2 * bitsNat rest

/-- The ratio's two bytes: 0 with yield used 0 (R214). DESIGN CHOICE (log entry 29), safe: with a yield used, those of a negative ratio
and of an absent one (Rm not above 0) are free. -/
def ratioWord (yieldUsed : Option YieldUsed) (ratio : Option Int) : BitVec 16 :=
  match yieldUsed, ratio with
  | none, _ => 0
  | some _, none => Config.openRatio none
  | some _, some v => if v < 0 then Config.openRatio (some v) else BitVec.ofInt 16 v

/-- The result record. -/
def resultBytes (r : ResultRecord) : List Byte :=
  natBytes 2 r.serial.toNat ++ textBytes r.specimen.id ++ textBytes r.specimen.heat ++ textBytes r.specimen.retestOf ++
  [BitVec.ofNat 8 r.specimen.grade.val, BitVec.ofNat 8 r.specimen.plan.val, closureCode r.closure,
   optionalCode abortCode (closureCause r.closure), shapeCode (dimsShape r.used)] ++
  numbersBytes ((dimsFields r.used).map fun x => x.getD 0) ++
  [bitsByte [r.measured.width, r.measured.thickness, r.measured.diameter]] ++ numberBytes r.area ++
  [bitsByte ((resultFields r.results).map (fun x => x.isSome) ++ [r.results.source.isSome])] ++
  numbersBytes ((resultFields r.results).map fun x => x.getD 0) ++
  [optionalCode sourceCode r.results.source, roundModeCode r.results.roundMode,
   BitVec.ofInt 8 r.results.stressRes, BitVec.ofInt 8 r.results.strainRes] ++
  natBytes 2 (bitsNat (resultFlags r)) ++
  natBytes 6 r.taken ++ natBytes 6 r.stored ++ natBytes 6 r.thinned ++ natBytes 6 r.lost ++
  [BitVec.ofNat 8 r.events.length] ++ natBytes 2 r.dropped ++ (r.events.map eventBytes).flatten ++
  [optionalCode yieldUsedCode r.yieldUsed] ++ natBytes 2 (ratioWord r.yieldUsed r.ratio).toNat ++ [verdictCode r.verdict] ++
  listBytes (fun f => [fieldCode f.1, failureCode f.2]) r.failing

/-! ### Answers (R201) -/

/-- A payload's bytes. DESIGN CHOICE (log entry 35), unsafe: a frame configuration and a plan go without the presence bytes that the
fields have in a request (R214). -/
def payloadBytes : Payload → List Byte
  | .nothing => []
  | .status p r => statusBytes p r
  | .live r => liveBytes r
  | .flags p states => flagStatesBytes p states
  | .specimens q slot => queueBytes q slot
  | .config c => numbersBytes (configFields c)
  | .tare t => numberBytes t
  | .faults w => [faultByte w]
  | .plan p => planBytes p
  | .motion c role =>
    [conditionCode c] ++ optionalBytes (match c with | .queued n => some (n : Int) | _ => none) ++ [optionalCode roleCode role]
  | .completion c => completionBytes c
  | .limits l => limitsBytes l
  | .result r => resultBytes r
  | .page p => pageBytes p
  | .calibration c => calibrationBytes c

/-- The answer: header and payload (R214). -/
def answerBytes (a : Answer) : List Byte :=
  natBytes 2 a.tag.toNat ++ [a.kind, outcomeCode a.outcome, markByte a.overwritten] ++
  natBytes 2 (payloadBytes a.payload).length ++ payloadBytes a.payload

/-- All that a read transaction of a buffer can shift out: the status byte and, when an answer is held, the answer (R201). -/
def streamOf (b : Option Answer) : List Byte :=
  match b with
  | none => [0]
  | some a => 1 :: answerBytes a

/-- The bytes shifted out in a read of `n` bytes: zeros after the end (R201). -/
def shiftedOut (n : Nat) (b : Option Answer) : List Byte :=
  (streamOf b).take n ++ List.replicate (n - (streamOf b).length) 0

/-- The buffer after a read of `n` bytes: EMPTY once the last payload byte has been shifted out, else unchanged (R201). -/
def bufferAfterRead (n : Nat) (b : Option Answer) : Option Answer :=
  if (streamOf b).length ≤ n then none else b

end Sys2Proof.Machine
end

