-- ==== Sys2Proof/Decode.lean ====
section
/-! DEFINITION. Transactions and commands (R200, R214): what command the bytes of a transaction spell, and the bytes that spell a
command. spec/opcode_table.json gives its rows no bits, so `decodeTableWord` answers none. -/

namespace Sys2Proof

/-- The command a word of the opcode table's bits spells: none, for the table gives no row any bits. -/
def decodeTableWord (_nbits _w : Nat) : Option Instr :=
  none

/-! ### Reading fields (R214) -/

/-- A reader of a field: the value and the bytes after it; `none` when the bytes do not lay out the field. -/
abbrev Reader (α : Type) := List Byte → Option (α × List Byte)

/-- A reader's value and rest handed on. -/
def Reader.andThen {α β : Type} (f : Reader α) (g : α → Reader β) : Reader β := fun bytes =>
  match f bytes with
  | some (x, rest) => g x rest
  | none => none

/-- A value that takes no bytes. -/
def Reader.done {α : Type} (x : α) : Reader α := fun bytes => some (x, bytes)

/-- The value of all the bytes. DESIGN CHOICE (log entry 37), unsafe: parameters with bytes left over after their last field do not lay
out their fields, and are refused with BAD_PARAMETER. -/
def Reader.whole {α : Type} (f : Reader α) (bytes : List Byte) : Option α :=
  match f bytes with
  | some (x, []) => some x
  | _ => none

/-- One byte. -/
def readByte : Reader Byte
  | [] => none
  | b :: rest => some (b, rest)

/-- A coded byte. -/
def readCode {α : Type} (value : Byte → Option α) : Reader α := fun bytes =>
  match bytes with
  | [] => none
  | b :: rest => (value b).map fun x => (x, rest)

/-- Two bytes, most significant first. -/
def readWord : Reader (BitVec 16)
  | a :: b :: rest => some (a ++ b, rest)
  | _ => none

/-- A number: 4 bytes, signed. -/
def readNumber : Reader Int
  | a :: b :: c :: d :: rest => some ((a ++ b ++ c ++ d).toInt, rest)
  | _ => none

/-- A yes-or-no byte, and a presence byte: 0 or 1. DESIGN CHOICE (log entry 44), unsafe: with another byte in one of these places the
parameters of a request do not lay out their fields. -/
def boolOfByte (b : Byte) : Option Bool :=
  if b = 0 then some false else if b = 1 then some true else none

/-- A yes-or-no field. -/
def readBool : Reader Bool :=
  readCode boolOfByte

/-- A field behind a presence byte. DESIGN CHOICE (log entry 43), unsafe: nothing follows a presence byte 0. -/
def readOptional {α : Type} (f : Reader α) : Reader (Option α) :=
  readBool.andThen fun present => if present then f.andThen (fun x => .done (some x)) else .done none

/-- A string: a length byte and that many characters. -/
def readText : Reader Text
  | [] => none
  | n :: rest => if n.toNat ≤ rest.length then some (rest.take n.toNat, rest.drop n.toNat) else none

/-- `k` entries one after another. -/
def readEntries {α : Type} (f : Reader α) : Nat → Reader (List α)
  | 0 => .done []
  | k + 1 => f.andThen fun x => (readEntries f k).andThen fun l => .done (x :: l)

/-- A list: a count byte and its entries. -/
def readList {α : Type} (f : Reader α) : Reader (List α) :=
  readByte.andThen fun n => readEntries f n.toNat

/-- The value of an enumerated field's code: the value that has the code, among those given. -/
def ofCode {α : Type} (values : List α) (code : α → Byte) (b : Byte) : Option α :=
  values.find? fun v => code v == b

/-! ### Codes of the parameters' enumerated fields -/

/-- JOG's direction, UP 1 and DOWN 2 (R77). -/
def directionCode : Direction → Byte
  | .up => 1 | .down => 2

/-- The section of WRITE SITE CALIBRATION, SITE 1 and FACTORY 2 (R210). -/
def sectionCode : CalSection → Byte
  | .site => 1 | .factory => 2

/-- The shape of a code. -/
def shapeOfCode : Byte → Option Shape := ofCode [.flat, .round] Machine.shapeCode

/-- The direction of a code. -/
def directionOfCode : Byte → Option Direction := ofCode [.up, .down] directionCode

/-- The section of a code. -/
def sectionOfCode : Byte → Option CalSection := ofCode [.site, .factory] sectionCode

/-- The removal mode of a code. -/
def removalModeOfCode : Byte → Option RemovalMode := ofCode [.hold, .goOn] Machine.removalModeCode

/-- The rounding mode of a code. -/
def roundModeOfCode : Byte → Option RoundMode := ofCode [.nearest, .down, .up, .truncate] Machine.roundModeCode

/-- The control mode of a code. -/
def controlModeOfCode : Byte → Option ControlMode := ofCode [.xhRate, .strainRate, .stressRate, .hold] Machine.controlModeCode

/-- The end condition kind of a code. -/
def endKindOfCode : Byte → Option EndKind :=
  ofCode [.strainGe, .forceGe, .stressGe, .yieldEnd, .handover, .timeGe, .never] Machine.endKindCode

/-- The timeout action of a code. -/
def timeoutActionOfCode : Byte → Option TimeoutAction := ofCode [.abort, .successor] Machine.timeoutActionCode

/-- The successor of a code: 1..8, or 9 for NEXT (log entry 20). -/
def successorOfCode (b : Byte) : Option Successor :=
  if b = 9 then some .next else if 1 ≤ b.toNat && b.toNat ≤ 8 then some (.stage b.toNat) else none

/-! ### The parameters of each request, in the order the owning rule lists them (R214) -/

/-- ENQUEUE SPECIMEN: the fields of R2. -/
def readSpecimen : Reader SpecimenParams :=
  readText.andThen fun id => readText.andThen fun heat => readNumber.andThen fun grade =>
  (readCode shapeOfCode).andThen fun shape => (readOptional readNumber).andThen fun width =>
  (readOptional readNumber).andThen fun thickness => (readOptional readNumber).andThen fun diameter =>
  (readOptional readNumber).andThen fun le => readNumber.andThen fun lc => readNumber.andThen fun plan =>
  readBool.andThen fun rush => readText.andThen fun retestOf =>
  .done { id := id, heat := heat, grade := grade, shape := shape, width := width, thickness := thickness, diameter := diameter,
          le := le, lc := lc, plan := plan, rush := rush, retestOf := retestOf }

/-- The bytes of an ENQUEUE SPECIMEN's parameters. -/
def specimenParamBytes (p : SpecimenParams) : List Byte :=
  Machine.textBytes p.id ++ Machine.textBytes p.heat ++ Machine.numberBytes p.grade ++ [Machine.shapeCode p.shape] ++
  Machine.optionalBytes p.width ++ Machine.optionalBytes p.thickness ++ Machine.optionalBytes p.diameter ++
  Machine.optionalBytes p.le ++ Machine.numberBytes p.lc ++ Machine.numberBytes p.plan ++ [Machine.markByte p.rush] ++
  Machine.textBytes p.retestOf

/-- CONFIGURE FRAME: the fields of R64, each omitted or given. -/
def readFrame : Reader FrameUpdate :=
  (readOptional readNumber).andThen fun sampleInterval => (readOptional readNumber).andThen fun fcap =>
  (readOptional readNumber).andThen fun lowerSoft => (readOptional readNumber).andThen fun upperSoft =>
  (readOptional readNumber).andThen fun referencePosition => (readOptional readNumber).andThen fun searchRate =>
  (readOptional readNumber).andThen fun searchLimit => (readOptional readNumber).andThen fun vmax =>
  (readOptional readNumber).andThen fun jogLimit => (readOptional readNumber).andThen fun creepRate =>
  (readOptional readNumber).andThen fun approach => (readOptional readNumber).andThen fun band =>
  (readOptional readNumber).andThen fun holdTime => (readOptional readNumber).andThen fun brakeTime =>
  (readOptional readNumber).andThen fun retractPosition =>
  .done { sampleInterval := sampleInterval, fcap := fcap, lowerSoft := lowerSoft, upperSoft := upperSoft,
          referencePosition := referencePosition, searchRate := searchRate, searchLimit := searchLimit, vmax := vmax,
          jogLimit := jogLimit, creepRate := creepRate, approach := approach, band := band, holdTime := holdTime,
          brakeTime := brakeTime, retractPosition := retractPosition }

/-- Fields that may be omitted, one after another. -/
def optionalsBytes (l : List (Option Int)) : List Byte :=
  (l.map Machine.optionalBytes).flatten

/-- The bytes of a CONFIGURE FRAME's parameters. -/
def frameBytes (u : FrameUpdate) : List Byte :=
  optionalsBytes [u.sampleInterval, u.fcap, u.lowerSoft, u.upperSoft, u.referencePosition, u.searchRate, u.searchLimit, u.vmax,
    u.jogLimit, u.creepRate, u.approach, u.band, u.holdTime, u.brakeTime, u.retractPosition]

/-- A stage, in the order of R104. -/
def readStage : Reader StageDef :=
  (readCode controlModeOfCode).andThen fun mode => readNumber.andThen fun rate =>
  (readCode endKindOfCode).andThen fun endKind => (readOptional readNumber).andThen fun endValue =>
  (readCode successorOfCode).andThen fun successor => readNumber.andThen fun timeoutMs =>
  (readCode timeoutActionOfCode).andThen fun timeoutAction =>
  .done { mode := mode, rate := rate, endKind := endKind, endValue := endValue, successor := successor, timeoutMs := timeoutMs,
          timeoutAction := timeoutAction }

/-- DEFINE PLAN's general fields, each omitted or given, in the order of R103. -/
def readPlanFields : Reader PlanUpdate :=
  (readOptional readNumber).andThen fun preloadForce => (readOptional readNumber).andThen fun preloadRate =>
  (readOptional readBool).andThen fun extRequired => (readOptional readNumber).andThen fun placementTimeout =>
  (readOptional readNumber).andThen fun removalStrain => (readOptional readNumber).andThen fun removalDrop =>
  (readOptional (readCode removalModeOfCode)).andThen fun removalMode => (readOptional readNumber).andThen fun removalTimeout =>
  (readOptional readNumber).andThen fun slipThreshold => (readOptional readNumber).andThen fun rpOffset =>
  (readOptional readNumber).andThen fun fitLow => (readOptional readNumber).andThen fun fitHigh =>
  (readOptional readNumber).andThen fun eNom => (readOptional readNumber).andThen fun yieldDrop =>
  (readOptional readNumber).andThen fun yieldLimit => (readOptional readNumber).andThen fun fractureFraction =>
  (readOptional readNumber).andThen fun fractureFloor => (readOptional readNumber).andThen fun tailSamples =>
  (readOptional readNumber).andThen fun divisor => (readOptional readNumber).andThen fun initialRange =>
  (readOptional readBool).andThen fun autoRange => (readOptional readNumber).andThen fun settleSamples =>
  (readOptional readNumber).andThen fun kc => (readOptional (readCode roundModeOfCode)).andThen fun roundMode =>
  (readOptional readNumber).andThen fun stressRes => (readOptional readNumber).andThen fun strainRes =>
  .done { preloadForce := preloadForce, preloadRate := preloadRate, extRequired := extRequired,
          placementTimeout := placementTimeout, removalStrain := removalStrain, removalDrop := removalDrop,
          removalMode := removalMode, removalTimeout := removalTimeout, slipThreshold := slipThreshold, rpOffset := rpOffset,
          fitLow := fitLow, fitHigh := fitHigh, eNom := eNom, yieldDrop := yieldDrop, yieldLimit := yieldLimit,
          fractureFraction := fractureFraction, fractureFloor := fractureFloor, tailSamples := tailSamples, divisor := divisor,
          initialRange := initialRange, autoRange := autoRange, settleSamples := settleSamples, kc := kc, roundMode := roundMode,
          stressRes := stressRes, strainRes := strainRes }

/-- A field of one byte that may be omitted; nothing follows a presence byte 0 (log entry 43). -/
def optionalByteBytes {α : Type} (code : α → Byte) (x : Option α) : List Byte :=
  match x with
  | none => [0]
  | some v => [1, code v]

/-- The bytes of DEFINE PLAN's general fields. -/
def planFieldBytes (g : PlanUpdate) : List Byte :=
  optionalsBytes [g.preloadForce, g.preloadRate] ++ optionalByteBytes Machine.markByte g.extRequired ++
  optionalsBytes [g.placementTimeout, g.removalStrain, g.removalDrop] ++
  optionalByteBytes Machine.removalModeCode g.removalMode ++
  optionalsBytes [g.removalTimeout, g.slipThreshold, g.rpOffset, g.fitLow, g.fitHigh, g.eNom, g.yieldDrop, g.yieldLimit,
    g.fractureFraction, g.fractureFloor, g.tailSamples, g.divisor, g.initialRange] ++
  optionalByteBytes Machine.markByte g.autoRange ++ optionalsBytes [g.settleSamples, g.kc] ++
  optionalByteBytes Machine.roundModeCode g.roundMode ++ optionalsBytes [g.stressRes, g.strainRes]

/-- Six bounds, in the order of R194. -/
def readLimits : Reader GradeLimits :=
  (readOptional readNumber).andThen fun yieldMin => (readOptional readNumber).andThen fun yieldMax =>
  (readOptional readNumber).andThen fun rmMin => (readOptional readNumber).andThen fun rmMax =>
  (readOptional readNumber).andThen fun aMin => (readOptional readNumber).andThen fun ratioMax =>
  .done { yieldMin := yieldMin, yieldMax := yieldMax, rmMin := rmMin, rmMax := rmMax, aMin := aMin, ratioMax := ratioMax }

/-- A calibration point. -/
def readPoint : Reader CalPoint :=
  readNumber.andThen fun code => readNumber.andThen fun force => .done { code := code, force := force }

/-! ### The requests -/

/-- The kind of a kind code, 1..39 (R214). -/
def kindOfCode : Byte → Option RequestKind :=
  ofCode
    [.readStatus, .readLive, .readFlags, .ackFlags, .setNotices, .readQueue, .nop, .configureFrame, .setRange, .tare,
     .clearFaults, .definePlan, .readPlan, .referenceSearch, .startTest, .holdTest, .resumeTest, .abortTest, .adjustRate,
     .claimFrame, .releaseFrame, .moveTo, .stopMotion, .collectCompletion, .jog, .retract, .specimenMounted, .specimenUnmounted,
     .extensometerPlaced, .extensometerRemoved, .enqueueSpecimen, .cancelSpecimen, .setGradeLimits, .readGradeLimits,
     .collectResult, .peekResult, .readPage, .writeSiteCalibration, .readCalibration]
    Machine.kindCode

/-- A reader of the parameters of a kind that has none. -/
def readNothing (i : Instr) : Reader Instr := .done i

/-- The parameters of a request of a kind, read to the command (R214). -/
def readParams (k : RequestKind) (r : Req) : Reader Instr :=
  match k with
  | .readStatus => readNothing (.readStatus r)
  | .readLive => readNothing (.readLive r)
  | .readFlags => readNothing (.readFlags r)
  | .ackFlags => readWord.andThen fun w => .done (.ackFlags r w)
  | .setNotices => readWord.andThen fun w => readByte.andThen fun b => .done (.setNotices r w b)
  | .readQueue => readNothing (.readQueue r)
  | .nop => readNothing (.nop r)
  | .configureFrame => readFrame.andThen fun u => .done (.configureFrame r u)
  | .setRange => readNumber.andThen fun x => .done (.setRange r x)
  | .tare => readNothing (.tare r)
  | .clearFaults => readNothing (.clearFaults r)
  | .definePlan =>
    readNumber.andThen fun id => readPlanFields.andThen fun g => (readList readStage).andThen fun l => .done (.definePlan r id g l)
  | .readPlan => readNumber.andThen fun id => .done (.readPlan r id)
  | .referenceSearch => readNothing (.referenceSearch r)
  | .startTest => readNothing (.startTest r)
  | .holdTest => readNothing (.holdTest r)
  | .resumeTest => readNothing (.resumeTest r)
  | .abortTest => readNothing (.abortTest r)
  | .adjustRate => readNumber.andThen fun x => .done (.adjustRate r x)
  | .claimFrame => readNothing (.claimFrame r)
  | .releaseFrame => readNothing (.releaseFrame r)
  | .moveTo => readNumber.andThen fun target => readNumber.andThen fun speed => .done (.moveTo r target speed)
  | .stopMotion => readNothing (.stopMotion r)
  | .collectCompletion => readNothing (.collectCompletion r)
  | .jog =>
    (readCode directionOfCode).andThen fun d => readNumber.andThen fun speed => readNumber.andThen fun duration =>
    .done (.jog r d speed duration)
  | .retract => readNothing (.retract r)
  | .specimenMounted =>
    readText.andThen fun id => (readOptional readNumber).andThen fun w => (readOptional readNumber).andThen fun t =>
    (readOptional readNumber).andThen fun d => .done (.specimenMounted r id w t d)
  | .specimenUnmounted => readNothing (.specimenUnmounted r)
  | .extensometerPlaced => readNothing (.extensometerPlaced r)
  | .extensometerRemoved => readNothing (.extensometerRemoved r)
  | .enqueueSpecimen => readSpecimen.andThen fun p => .done (.enqueueSpecimen r p)
  | .cancelSpecimen => readText.andThen fun id => .done (.cancelSpecimen r id)
  | .setGradeLimits =>
    readNumber.andThen fun grade => (readOptional readLimits).andThen fun l => .done (.setGradeLimits r grade l)
  | .readGradeLimits => readNumber.andThen fun grade => .done (.readGradeLimits r grade)
  | .collectResult => readNothing (.collectResult r)
  | .peekResult => readNothing (.peekResult r)
  | .readPage => readNothing (.readPage r)
  | .writeSiteCalibration =>
    (readCode sectionOfCode).andThen fun sect => readNumber.andThen fun range => (readList readPoint).andThen fun l =>
    .done (.writeSiteCalibration r sect range l)
  | .readCalibration => readNothing (.readCalibration r)

/-- The command of a request whose parameters do not lay out its fields: its operands, which nothing reads, are 0, empty or
absent. -/
def unreadRequest (k : RequestKind) (r : Req) : Instr :=
  match k with
  | .readStatus => .readStatus r
  | .readLive => .readLive r
  | .readFlags => .readFlags r
  | .ackFlags => .ackFlags r 0
  | .setNotices => .setNotices r 0 0
  | .readQueue => .readQueue r
  | .nop => .nop r
  | .configureFrame => .configureFrame r ⟨none, none, none, none, none, none, none, none, none, none, none, none, none, none, none⟩
  | .setRange => .setRange r 0
  | .tare => .tare r
  | .clearFaults => .clearFaults r
  | .definePlan =>
    .definePlan r 0
      ⟨none, none, none, none, none, none, none, none, none, none, none, none, none, none, none, none, none, none, none, none,
       none, none, none, none, none, none⟩ []
  | .readPlan => .readPlan r 0
  | .referenceSearch => .referenceSearch r
  | .startTest => .startTest r
  | .holdTest => .holdTest r
  | .resumeTest => .resumeTest r
  | .abortTest => .abortTest r
  | .adjustRate => .adjustRate r 0
  | .claimFrame => .claimFrame r
  | .releaseFrame => .releaseFrame r
  | .moveTo => .moveTo r 0 0
  | .stopMotion => .stopMotion r
  | .collectCompletion => .collectCompletion r
  | .jog => .jog r .up 0 0
  | .retract => .retract r
  | .specimenMounted => .specimenMounted r [] none none none
  | .specimenUnmounted => .specimenUnmounted r
  | .extensometerPlaced => .extensometerPlaced r
  | .extensometerRemoved => .extensometerRemoved r
  | .enqueueSpecimen => .enqueueSpecimen r ⟨[], [], 0, .flat, none, none, none, none, 0, 0, false, []⟩
  | .cancelSpecimen => .cancelSpecimen r []
  | .setGradeLimits => .setGradeLimits r 0 none
  | .readGradeLimits => .readGradeLimits r 0
  | .collectResult => .collectResult r
  | .peekResult => .peekResult r
  | .readPage => .readPage r
  | .writeSiteCalibration => .writeSiteCalibration r .site 0 []
  | .readCalibration => .readCalibration r

/-- The longest parameters a request may bring (R202). -/
def longestParameters : Nat := 512

/-- A taken request of a known kind: its length checked, then its parameters read (R202, R214). -/
def decodeRequest (k : RequestKind) (p : Port) (tag : Tag) (len : BitVec 16) (params : List Byte) : Instr :=
  if longestParameters < len.toNat || params.length != len.toNat then unreadRequest k { port := p, tag := tag, form := .badLength }
  else match (readParams k { port := p, tag := tag, form := .whole }).whole params with
    | some i => i
    | none => unreadRequest k { port := p, tag := tag, form := .badLayout }

/-- The command a transaction's bytes spell at the release of select, the form byte first (R200). -/
def decodeTransaction (p : Port) (bytes : List Byte) : Instr :=
  match bytes with
  | [] => .writeNotTaken p []
  | form :: rest =>
    if form = 1 then
      match rest with
      | kind :: t1 :: t0 :: l1 :: l0 :: params =>
        match kindOfCode kind with
        | some k => decodeRequest k p (t1 ++ t0) (l1 ++ l0) params
        | none => .unknownRequest p (t1 ++ t0) kind
      | _ => .writeNotTaken p bytes
    else if form = 2 then .readTransaction p rest.length
    else .writeNotTaken p bytes

/-! ### The encoder -/

/-- The kind, the request and the parameter bytes of a command that is a request (R214); `none` for the other commands. -/
def encodeParams : Instr → Option (RequestKind × Req × List Byte)
  | .readStatus r => some (.readStatus, r, [])
  | .readLive r => some (.readLive, r, [])
  | .readFlags r => some (.readFlags, r, [])
  | .ackFlags r w => some (.ackFlags, r, Machine.natBytes 2 w.toNat)
  | .setNotices r w b => some (.setNotices, r, Machine.natBytes 2 w.toNat ++ [b])
  | .readQueue r => some (.readQueue, r, [])
  | .nop r => some (.nop, r, [])
  | .configureFrame r u => some (.configureFrame, r, frameBytes u)
  | .setRange r x => some (.setRange, r, Machine.numberBytes x)
  | .tare r => some (.tare, r, [])
  | .clearFaults r => some (.clearFaults, r, [])
  | .definePlan r id g l =>
    some (.definePlan, r, Machine.numberBytes id ++ planFieldBytes g ++ Machine.listBytes Machine.stageBytes l)
  | .readPlan r id => some (.readPlan, r, Machine.numberBytes id)
  | .referenceSearch r => some (.referenceSearch, r, [])
  | .startTest r => some (.startTest, r, [])
  | .holdTest r => some (.holdTest, r, [])
  | .resumeTest r => some (.resumeTest, r, [])
  | .abortTest r => some (.abortTest, r, [])
  | .adjustRate r x => some (.adjustRate, r, Machine.numberBytes x)
  | .claimFrame r => some (.claimFrame, r, [])
  | .releaseFrame r => some (.releaseFrame, r, [])
  | .moveTo r target speed => some (.moveTo, r, Machine.numberBytes target ++ Machine.numberBytes speed)
  | .stopMotion r => some (.stopMotion, r, [])
  | .collectCompletion r => some (.collectCompletion, r, [])
  | .jog r d speed duration =>
    some (.jog, r, [directionCode d] ++ Machine.numberBytes speed ++ Machine.numberBytes duration)
  | .retract r => some (.retract, r, [])
  | .specimenMounted r id w t d =>
    some (.specimenMounted, r,
      Machine.textBytes id ++ Machine.optionalBytes w ++ Machine.optionalBytes t ++ Machine.optionalBytes d)
  | .specimenUnmounted r => some (.specimenUnmounted, r, [])
  | .extensometerPlaced r => some (.extensometerPlaced, r, [])
  | .extensometerRemoved r => some (.extensometerRemoved, r, [])
  | .enqueueSpecimen r p => some (.enqueueSpecimen, r, specimenParamBytes p)
  | .cancelSpecimen r id => some (.cancelSpecimen, r, Machine.textBytes id)
  | .setGradeLimits r grade l =>
    some (.setGradeLimits, r, Machine.numberBytes grade ++ Machine.presentBytes Machine.limitsBytes l)
  | .readGradeLimits r grade => some (.readGradeLimits, r, Machine.numberBytes grade)
  | .collectResult r => some (.collectResult, r, [])
  | .peekResult r => some (.peekResult, r, [])
  | .readPage r => some (.readPage, r, [])
  | .writeSiteCalibration r sect range l =>
    some (.writeSiteCalibration, r, [sectionCode sect] ++ Machine.numberBytes range ++ Machine.listBytes Machine.pointBytes l)
  | .readCalibration r => some (.readCalibration, r, [])
  | .unknownRequest _ _ _ | .writeNotTaken _ _ | .readTransaction _ _ | .powerOnReset | .warmReset | .sampleTimerExpiry
  | .loadFaultDeclaration | .conversionEndStrobe | .sampleArrival _ | .stageTimeout _ | .endOfTail _ | .placementTimeout
  | .removalTimeout | .brakeReleaseExpiry | .holdTimerExpiry | .jogDurationExpiry | .activation | .encoderEdge _
  | .searchTravelLimit _ | .extQuadratureEdge _ | .referenceSwitchEvent | .referenceSwitchRelease | .hardLimitSwitchEvent _
  | .hardLimitSwitchRelease _ | .gateOpening | .gateClosing | .emergencyStopAssertion | .emergencyStopRelease
  | .calProgrammingCompletion _ => none

/-- A request frame (R214). -/
def requestFrame (kind : Byte) (tag : Tag) (params : List Byte) : List Byte :=
  [1, kind] ++ Machine.natBytes 2 tag.toNat ++ Machine.natBytes 2 params.length ++ params

/-- The port and bytes of a transaction that spells a command; `none` for a command no transaction spells and for a request whose
frame is not whole. -/
def encodeTransaction (i : Instr) : Option (Port × List Byte) :=
  match i with
  | .unknownRequest p tag kind => some (p, requestFrame kind tag [])
  | .writeNotTaken p bytes => some (p, bytes)
  | .readTransaction p n => some (p, 2 :: List.replicate n 0)
  | _ =>
    match encodeParams i with
    | some (k, r, params) => if r.form = .whole then some (r.port, requestFrame (Machine.kindCode k) r.tag params) else none
    | none => none

end Sys2Proof
end

