-- ==== Sys2Proof/Machine/Cell.lean ====
section
/-! DEFINITION. The cell's requests on the specimen and the extensometer: SPECIMEN MOUNTED (R10 to R12), SPECIMEN UNMOUNTED (R13,
R14), EXTENSOMETER PLACED (R49), EXTENSOMETER REMOVED (R57, R58). -/

namespace Sys2Proof.Machine

/-! ### The mounted slot -/

/-- The mounted slot set (R8). -/
def setSlotSpecimen (m : Option MountedSpecimen) (s : State) : State :=
  { s with spt := { s.spt with slot := m } }

/-- A queued record by its identifier (R3). -/
def queuedById (id : Text) (q : List QueuedSpecimen) : Option QueuedSpecimen :=
  q.find? fun x => x.specimen.id == id

/-- The queue without the record of an identifier; those behind it close up (R4). -/
def removeById (id : Text) (q : List QueuedSpecimen) : List QueuedSpecimen :=
  q.eraseP fun x => x.specimen.id == id

/-- Which dimensions were measured (R11). -/
def measuredMarks (w t d : Option Int) : MeasuredMarks :=
  { width := w.isSome, thickness := t.isSome, diameter := d.isSome }

/-- The slot's contents of a record mounted with measured dimensions (R11, R12). -/
def mountedOf (x : SpecimenRecord) (w t d : Option Int) : MountedSpecimen :=
  { state := .mounted, specimen := x, used := dimsUsed x.dims w t d, measured := measuredMarks w t d,
    area := areaOf (dimsUsed x.dims w t d) }

/-- The area is a specimen's: 100..5,000,000 (R9). -/
def areaFits (area : Int) : Bool :=
  within 100 5000000 area

/-- A mount: the record leaves the queue for the slot, and the last one raises QUEUE_EMPTY (R12). -/
def mount (id : Text) (m : MountedSpecimen) (s : State) : State :=
  let s1 : State := { s with spt := { queue := removeById id s.spt.queue, slot := some m } }
  if s1.spt.queue.isEmpty then raise .record .queueEmpty s1 else s1

/-- SPECIMEN MOUNTED, in the order of R10's checks. -/
def specimenMountedReply (id : Text) (w t d : Option Int) (s : State) : Reply :=
  if !(identifierForm id && optAll w dimensionForm && optAll t dimensionForm && optAll d dimensionForm) then
    .plain s .badParameter
  else if s.spt.slot.isSome then .plain s .wrongState
  else match queuedById id s.spt.queue with
    | none => .plain s .unknownSpecimen
    | some q =>
      if !measuredFit q.specimen.dims w t d then .plain s .badParameter
      else if !areaFits (mountedOf q.specimen w t d).area then .plain s .badGeometry
      else .plain (mount id (mountedOf q.specimen w t d) s) .ok

/-- SPECIMEN MOUNTED (R10 to R12). -/
def execSpecimenMounted (r : Req) (id : Text) (width thickness diameter : Option Int) (s : State) : Result :=
  request .specimenMounted r s (specimenMountedReply id width thickness diameter)

/-- An untested record back at position 1 in band RETURNED (R13). -/
def returnSpecimen (m : MountedSpecimen) (s : State) : State :=
  { s with spt := { queue := { specimen := m.specimen, band := .returned } :: s.spt.queue, slot := none } }

/-- SPECIMEN UNMOUNTED, by the slot's state (R13, R14). -/
def specimenUnmountedReply (s : State) : Reply :=
  match s.spt.slot with
  | none => .plain s .wrongState
  | some m =>
    match m.state with
    | .testing => .plain s .testInProgress
    | .tested => .plain (setSlotSpecimen none s) .ok
    | .mounted =>
      if s.spt.queue.length < Config.queueCapacity then .plain (returnSpecimen m s) .ok
      else .plain (setSlotSpecimen none s) .dropped

/-- SPECIMEN UNMOUNTED (R13, R14). -/
def execSpecimenUnmounted (r : Req) (s : State) : Result :=
  request .specimenUnmounted r s specimenUnmountedReply

/-! ### The extensometer arms -/

/-- The test is PLACING, or HELD from PLACING (R49). -/
def placingOrHeldFromIt (s : State) : Bool :=
  match s.phase with
  | some .placing | some (.held _ .placing) => true
  | _ => false

/-- The test is in TAIL (R49). -/
def inTail (s : State) : Bool :=
  match s.phase with
  | some (.tail _) => true
  | _ => false

/-- The placement timer stopped (R49). -/
def stopPlacement (s : State) : State :=
  { s with exc := { s.exc with placement := none } }

/-- The removal timer stopped (R57). -/
def stopRemoval (s : State) : State :=
  { s with exc := { s.exc with removal := none } }

/-- EXTENSOMETER PLACED, by the extensometer's and the test's state (R49). -/
def extensometerPlacedReply (s : State) : Reply :=
  match s.exc.state with
  | .placeRequested =>
    if placingOrHeldFromIt s then .plain (leavePlacing (beginActive (zeroAtRequest (stopPlacement s)))) .ok
    else if inTail s then .plain (setExtState .attached s) .ok
    else .plain s .wrongState
  | .parked => if s.testIdle then .plain (setExtState .attached s) .ok else .plain s .wrongState
  | .attached | .active | .removeRequested | .fault => .plain s .wrongState

/-- EXTENSOMETER PLACED (R49). -/
def execExtensometerPlaced (r : Req) (s : State) : Result :=
  request .extensometerPlaced r s extensometerPlacedReply

/-- A confirmed removal: the timer stops, the arms are PARKED, and a test held for it goes on (R57, R122). -/
def confirmRemoval (s : State) : State :=
  let s1 := setExtState .parked (stopRemoval s)
  match s.phase with
  | some (.held .extRemoval _) => releaseTest s1
  | _ => s1

/-- EXTENSOMETER REMOVED, by the extensometer's state (R57, R58). -/
def extensometerRemovedReply (s : State) : Reply :=
  match s.exc.state with
  | .removeRequested | .fault => .plain (confirmRemoval s) .ok
  | .attached => .plain (setExtState .parked s) .ok
  | .active => .plain (unannouncedRemoval s) .ok
  | .parked | .placeRequested => .plain s .wrongState

/-- EXTENSOMETER REMOVED (R57, R58). -/
def execExtensometerRemoved (r : Req) (s : State) : Result :=
  request .extensometerRemoved r s extensometerRemovedReply

end Sys2Proof.Machine
end

