-- ==== Sys2Proof/Machine/Common.lean ====
section
/-! DEFINITION. The requests of all three ports (R202): READ STATUS, READ LIVE, READ FLAGS, ACK FLAGS, SET NOTICES, READ QUEUE,
NOP. -/

namespace Sys2Proof.Machine

/-- READ STATUS reports the items of the chapters for its port (R202). -/
def execReadStatus (r : Req) (s : State) : Result :=
  request .readStatus r s fun s => { state := s, outcome := .ok, payload := .status r.port (statusReport r.port s) }

/-- READ LIVE reports the latest sample set and the states beside it (R24). -/
def execReadLive (r : Req) (s : State) : Result :=
  request .readLive r s fun s => { state := s, outcome := .ok, payload := .live (liveReport s) }

/-- A port's flags replaced. -/
def setFlags (p : Port) (flags : List (Notice × FlagState)) (s : State) : State :=
  s.setPort p { s.portOf p with flags := flags }

/-- READ FLAGS reports the pending flags, and those reported RAISED become SEEN (R204). -/
def readFlagsReply (p : Port) (s : State) : Reply :=
  { state := setFlags p (seenFlags (s.portOf p).flags) s, outcome := .ok,
    payload := .flags p (pendingFlags (s.portOf p).flags) }

/-- READ FLAGS (R204). -/
def execReadFlags (r : Req) (s : State) : Result :=
  request .readFlags r s (readFlagsReply r.port)

/-- ACK FLAGS clears the named SEEN flags; a set naming a flag the port does not have changes none (R204). -/
def ackFlagsReply (p : Port) (w : BitVec 16) (s : State) : Reply :=
  if wordFits p w then
    let flags := ackedFlags (noticesOfWord p w) (s.portOf p).flags
    { state := setFlags p flags s, outcome := .ok, payload := .flags p flags }
  else .plain s .badParameter

/-- ACK FLAGS (R204). -/
def execAckFlags (r : Req) (flags : BitVec 16) (s : State) : Result :=
  request .ackFlags r s (ackFlagsReply r.port flags)

/-- The promoted kind of a SET NOTICES is NONE or in its enable set (R205). -/
def promotedFits (enables : List Notice) (promoted : Option Notice) : Bool :=
  match promoted with
  | none => true
  | some n => enables.contains n

/-- SET NOTICES takes an enable set and a promoted kind (R205). -/
def setNoticesReply (p : Port) (w : BitVec 16) (b : Byte) (s : State) : Reply :=
  match promotedOfByte p b with
  | none => .plain s .badParameter
  | some promoted =>
    if wordFits p w && promotedFits (noticesOfWord p w) promoted then
      .plain (s.setPort p { s.portOf p with enables := noticesOfWord p w, promoted := promoted }) .ok
    else .plain s .badParameter

/-- SET NOTICES (R205). -/
def execSetNotices (r : Req) (enables : BitVec 16) (promoted : Byte) (s : State) : Result :=
  request .setNotices r s (setNoticesReply r.port enables promoted)

/-- READ QUEUE reports the queue and the slot (R7). -/
def execReadQueue (r : Req) (s : State) : Result :=
  request .readQueue r s fun s => { state := s, outcome := .ok, payload := .specimens s.spt.queue s.spt.slot }

/-- NOP is answered OK with no payload (R202). -/
def execNop (r : Req) (s : State) : Result :=
  request .nop r s fun s => .plain s .ok

end Sys2Proof.Machine
end

