-- ==== Sys2Proof/Machine/Timers.lean ====
section
/-! DEFINITION. The sample timer's expiry (R21, R22, R50, R56, R118) and the position counter's edges (R67, R71, R73, R79). -/

namespace Sys2Proof.Machine

/-- An expiry being worked on, and what has come about at it. -/
structure Expiry where
  s : State
  declared : Bool
  placementExpired : Bool
  removalExpired : Bool
  deriving DecidableEq, Repr

/-- The conversion begun at the previous expiry has had no arrival (R21). -/
def conversionMissed (s : State) : Bool :=
  s.ldc.conversion.isSome

/-- The miss count after an expiry (R21). -/
def missCountAfter (s : State) : Nat :=
  if conversionMissed s then min 4 (s.ldc.missCount + 1) else s.ldc.missCount

/-- The expiry brings the miss count to 4 (R22). -/
def missCountReaches (s : State) : Bool :=
  conversionMissed s && s.ldc.missCount == 3

/-- The next conversion starts, at the current range (R21, R31). -/
def startConversion (s : State) : State :=
  { s with ldc := { s.ldc with conversion := some { range := s.ldc.range, latch := none }, missCount := missCountAfter s } }

/-- Stage time advances by one sample interval in RUNNING (R118). -/
def advanceStage (s : State) : State :=
  match s.phase with
  | some .running => markStage (fun r => { r with elapsed := r.elapsed + s.ldc.sampleInterval }) s
  | _ => s

/-- The placement timer at an expiry (R50). -/
def advancePlacement (p : Plan) (e : Expiry) : Expiry :=
  let t := advanceTimer e.s.ldc.sampleInterval (timersPaused e.s) e.s.exc.placement
  let s1 : State := { e.s with exc := { e.s.exc with placement := t } }
  if !timersPaused e.s && timerReached t p.placementTimeout then { e with s := placementExpires s1, placementExpired := true }
  else { e with s := s1 }

/-- The removal timer at an expiry (R56). -/
def advanceRemoval (p : Plan) (e : Expiry) : Expiry :=
  let t := advanceTimer e.s.ldc.sampleInterval (timersPaused e.s) e.s.exc.removal
  let s1 : State := { e.s with exc := { e.s.exc with removal := t } }
  if !timersPaused e.s && timerReached t p.removalTimeout then { e with s := removalExpires p s1, removalExpired := true }
  else { e with s := s1 }

/-- LOAD_FAULT is declared (R22): the state active, the fault entered, an active motion ended, a test aborted. -/
def declareLoadFault (s : State) : State :=
  let s1 := enterFault .loadFault { s with ldc := { s.ldc with loadFault := true } }
  abortTest .loadFault (endMotion .loadFault s1)

/-- The expiry as it begins: the next conversion started, the miss count and stage time advanced (R21, R118). -/
def beginExpiry (s : State) : Expiry :=
  { s := advanceStage (startConversion s), declared := missCountReaches s, placementExpired := false, removalExpired := false }

/-- The extensometer's timers at an expiry, in a test (R50, R56). -/
def advanceTimers (e : Expiry) : Expiry :=
  match e.s.plan with
  | some p => advanceRemoval p (advancePlacement p e)
  | none => e

/-- The declaration an expiry brings (R22). -/
def declareAtExpiry (e : Expiry) : Expiry :=
  if e.declared then { e with s := declareLoadFault e.s } else e

/-- The set-point word of an expiry, sent while the load-fault state is active (R22, R70). -/
def wordAtExpiry (e : Expiry) : Expiry :=
  if e.s.ldc.loadFault then { e with s := sendWord e.s } else e

/-- The work of an expiry: the conversion and the miss count, stage time, the two timers, then a declaration, and the set-point
word while the load-fault state is active (R22, R70, R127). -/
def workExpiry (s : State) : Expiry :=
  wordAtExpiry (declareAtExpiry (advanceTimers (beginExpiry s)))

/-- An expiry of the sample timer, with the activation an ended motion allows (R94). -/
def expire (s : State) : Expiry :=
  let e := workExpiry s
  { e with s := activateAfterEnd s e.s }

/-! ### Encoder edges -/

/-- An edge being worked on. -/
structure EdgeWork where
  s : State
  travelExceeded : Bool
  deriving DecidableEq, Repr

/-- One µm in a direction (R67). -/
def stepOf : Direction → Int
  | .up => 1
  | .down => -1

/-- The active motion is a reference search (R71). -/
def searchActive (s : State) : Bool :=
  match s.mar.active with
  | some { job := .search _, .. } => true
  | _ => false

/-- An edge beyond the counter's bound (R67): not counted, the reference INVALID, a motion ended or a test aborted, and the fault
entered when the reference was VALID. -/
def boundMet (s : State) : State :=
  let s1 : State := { s with xhc := { s.xhc with referenceValid := false } }
  let s2 := if s.xhc.referenceValid then enterFault .equipmentCheck s1 else s1
  abortTest .equipmentCheck (endMotion .equipmentCheck s2)

/-- The counter after an edge, and the travel of an active search (R67, R71). -/
def countEdge (d : Direction) (s : State) : State :=
  { s with xhc :=
    { s.xhc with
      position := s.xhc.position + stepOf d,
      searchTravel := if searchActive s then s.xhc.searchTravel + 1 else s.xhc.searchTravel } }

/-- The search's travel has exceeded its limit (R73). -/
def travelExceeds (s : State) : Bool :=
  searchActive s && s.xhc.config.searchLimit < s.xhc.searchTravel

/-- The word in force points at a soft limit the position has reached (R79): the soft-limit event. -/
def softLimitAtEdge (s : State) : State :=
  if towardSoftLimit s.xhc s.xhc.word then softLimitEvent (0 < s.xhc.word) s else s

/-- The work of an encoder edge (R67, R71, R73, R79). -/
def workEdge (d : Direction) (s : State) : EdgeWork :=
  if outside (-positionBound) positionBound (s.xhc.position + stepOf d) then { s := boundMet s, travelExceeded := false }
  else
    let s1 := countEdge d s
    if travelExceeds s1 then { s := endMotion .equipmentCheck (enterFault .equipmentCheck s1), travelExceeded := true }
    else { s := softLimitAtEdge s1, travelExceeded := false }

/-- An encoder edge, with the activation an ended motion allows (R94). -/
def edge (d : Direction) (s : State) : EdgeWork :=
  let e := workEdge d s
  { e with s := activateAfterEnd s e.s }

end Sys2Proof.Machine
end

