-- ==== Sys2Proof/Machine/Drive.lean ====
section
/-! DEFINITION. The drive's timers (R69, R77), the attempt at activation (R94), and the encoder and quadrature edges (R67, R41). -/

namespace Sys2Proof.Machine

/-- BRAKE RELEASE EXPIRY: RELEASING becomes MOVING and the motion's own work begins (R69). -/
def brakeReleased (s : State) : State :=
  if s.xhc.drive = .releasing then
    activateAfterEnd s (beginMotion { s with xhc := { s.xhc with drive := .moving, brakeTimer := none } })
  else s

/-- BRAKE RELEASE EXPIRY (R69). -/
def execBrakeReleaseExpiry (s : State) : Result :=
  .next (brakeReleased s)

/-- HOLD TIMER EXPIRY: HOLDING becomes DISABLED (R69). -/
def execHoldTimerExpiry (s : State) : Result :=
  .next (if s.xhc.drive = .holding then { s with xhc := { s.xhc with drive := .disabled, holdTimer := none } } else s)

/-- A jog is active and its duration timer runs (R77). -/
def jogRunning (s : State) : Bool :=
  s.xhc.jogTimer.isSome &&
    match s.mar.active with
    | some { job := .jog _ _ _, .. } => true
    | _ => false

/-- JOG DURATION EXPIRY: the jog ends DONE (R77). -/
def execJogDurationExpiry (s : State) : Result :=
  .next (if jogRunning s then activateAfterEnd s (endMotion .done s) else s)

/-- ACTIVATION: an attempt at activation (R94, R95). -/
def execActivation (s : State) : Result :=
  .next (tryActivate s)

/-- ENCODER EDGE (R67, R71, R79). -/
def execEncoderEdge (dir : Direction) (s : State) : Result :=
  .next (edge dir s).s

/-- The edge at which a search's travel exceeds its limit (R73); another edge is no such event (log entry 19). -/
def execSearchTravelLimit (dir : Direction) (s : State) : Result :=
  .next (if (edge dir s).travelExceeded then (edge dir s).s else s)

/-- An edge's step of the extensometer count (R41). -/
def countStep : Direction → BitVec 32
  | .up => 1
  | .down => -1

/-- EXT QUADRATURE EDGE: the count adds or subtracts one, wrapping (R41). -/
def execExtQuadratureEdge (dir : Direction) (s : State) : Result :=
  .next { s with exc := { s.exc with count := s.exc.count + countStep dir } }

end Sys2Proof.Machine
end

