-- ==== Sys2Proof/Machine/Frame.lean ====
section
/-! DEFINITION. The sequencer's requests on the frame and its plans: CONFIGURE FRAME (R65), SET RANGE (R33), TARE (R29), CLEAR
FAULTS (R208), DEFINE PLAN (R105), READ PLAN (R106). -/

namespace Sys2Proof.Machine

/-- A configuration taken: the sample timer runs at its interval from then on (R19, R65). DESIGN CHOICE (log entry 38), unsafe: a hold
timer that runs keeps the time it was started with, a new hold time of 0 included. -/
def setConfig (c : FrameConfig) (s : State) : State :=
  { s with xhc := { s.xhc with config := c }, ldc := { s.ldc with sampleInterval := c.sampleInterval } }

/-- CONFIGURE FRAME, in the order of R65's checks. -/
def configureFrameReply (u : FrameUpdate) (s : State) : Reply :=
  let c := FrameUpdate.applyTo u s.xhc.config
  if !FrameUpdate.inRange u then .plain s .badParameter
  else if FrameUpdate.namesNone u then { state := s, outcome := .ok, payload := .config s.xhc.config }
  else if s.xhc.locked then .plain s .isLocked
  else if s.mar.active.isSome then .plain s .wrongState
  else if !crossFieldsHold s.cal.fullScale3 c then .plain s .badParameter
  else { state := setConfig c s, outcome := .ok, payload := .config c }

/-- CONFIGURE FRAME (R65). -/
def execConfigureFrame (r : Req) (u : FrameUpdate) (s : State) : Result :=
  request .configureFrame r s (configureFrameReply u)

/-- SET RANGE, in the order of R33's checks. -/
def setRangeReply (range : Int) (s : State) : Reply :=
  match rangeOfNumber range with
  | none => .plain s .badParameter
  | some x =>
    if !s.testIdle then .plain s .testInProgress
    else if s.cal.inFlight.isSome then .plain s .calBusy
    else .plain (selectRange x 4 s) .ok

/-- SET RANGE (R33). -/
def execSetRange (r : Req) (range : Int) (s : State) : Result :=
  request .setRange r s (setRangeReply range)

/-- Tare set (R29, R30). -/
def setTare (t : Int) (s : State) : State :=
  { s with ldc := { s.ldc with tare := t } }

/-- The gross force may be tared: |g| × 100 ≤ Fcap × 5 (R29). -/
def tareInRange (fcap g : Int) : Bool :=
  (g.natAbs : Int) * 100 ≤ fcap * 5

/-- TARE, in the order of R29's checks. -/
def tareReply (s : State) : Reply :=
  if !s.testIdle then .plain s .testInProgress
  else if s.cal.inFlight.isSome then .plain s .calBusy
  else match s.ldc.lastValidGross with
    | none => .plain s .wrongState
    | some g =>
      if tareInRange s.xhc.config.fcap g then { state := setTare g s, outcome := .ok, payload := .tare g }
      else .plain s .tareRange

/-- TARE (R29). -/
def execTare (r : Req) (s : State) : Result :=
  request .tare r s tareReply

/-- CLEAR FAULTS removes the kinds that are not active (R208). -/
def clearFaultsReply (s : State) : Reply :=
  { state := { s with pif := { s.pif with faults := activeFaults s } }, outcome := .ok, payload := .faults (activeFaults s) }

/-- CLEAR FAULTS (R208). -/
def execClearFaults (r : Req) (s : State) : Result :=
  request .clearFaults r s clearFaultsReply

/-- The plan of the test in progress has this id (R105). -/
def planInUse (s : State) (id : Fin 8) : Bool :=
  match s.tex.test with
  | none => false
  | some t => t.planId == id

/-- A plan stored (R105). -/
def storePlan (id : Fin 8) (p : Plan) (s : State) : State :=
  { s with tex := { s.tex with plans := s.tex.plans.set id.val (some p) id.isLt } }

/-- DEFINE PLAN, in the order of R105's checks. -/
def definePlanReply (id : Int) (g : PlanUpdate) (stages : List StageDef) (s : State) : Reply :=
  match planIdOf id, planOf g stages with
  | some i, some p =>
    if !planForm p then .plain s .badParameter
    else if planInUse s i then .plain s .planInUse
    else if !planFitsFrame s.xhc.config p then .plain s .badParameter
    else { state := storePlan i p s, outcome := .ok, payload := .plan p }
  | _, _ => .plain s .badParameter

/-- DEFINE PLAN (R105). -/
def execDefinePlan (r : Req) (id : Int) (g : PlanUpdate) (stages : List StageDef) (s : State) : Result :=
  request .definePlan r s (definePlanReply id g stages)

/-- READ PLAN (R106). -/
def readPlanReply (id : Int) (s : State) : Reply :=
  match planIdOf id with
  | none => .plain s .badParameter
  | some i =>
    match s.tex.plans[i] with
    | none => .plain s .empty
    | some p => { state := s, outcome := .ok, payload := .plan p }

/-- READ PLAN (R106). -/
def execReadPlan (r : Req) (id : Int) (s : State) : Result :=
  request .readPlan r s (readPlanReply id)

end Sys2Proof.Machine
end

