-- ==== Sys2Proof/Machine/Lines.lean ====
section
/-! DEFINITION. The direct lines: reference switch (R71, R72), hard-limit switches (R80, R81), guard gate (R82), emergency stop
(R83), and the completion of a site table's programming (R211). An event at the level the input already has is no event (log
entry 17). -/

namespace Sys2Proof.Machine

/-- The inputs replaced. -/
def setInputs (i : Inputs) (s : State) : State :=
  { s with inputs := i }

/-! ### The reference switch -/

/-- The phase of an active search (R71). -/
def searchPhase (s : State) : Option SearchPhase :=
  match s.mar.active with
  | some { job := .search p, .. } => some p
  | _ => none

/-- A search's success: the position is the reference position, the reference VALID, the configuration locked (R72). -/
def referenced (s : State) : State :=
  { s with xhc := { s.xhc with position := s.xhc.config.referencePosition, referenceValid := true, locked := true } }

/-- The reference switch becomes active (R71, R72). -/
def referenceSwitchOn (s : State) : State :=
  if s.inputs.referenceSwitch then s
  else
    let s1 := setInputs { s.inputs with referenceSwitch := true } s
    if searchPhase s = some .downward then activateAfterEnd s (endMotion .done (referenced s1)) else s1

/-- REFERENCE SWITCH EVENT (R71, R72). -/
def execReferenceSwitchEvent (s : State) : Result :=
  .next (referenceSwitchOn s)

/-- The reference switch becomes inactive: a search moving upward turns to its downward phase (R71). -/
def referenceSwitchOff (s : State) : State :=
  if s.inputs.referenceSwitch then
    let s1 := setInputs { s.inputs with referenceSwitch := false } s
    if searchPhase s = some .upward then setJob (.search .downward) s1 else s1
  else s

/-- REFERENCE SWITCH RELEASE (R71). -/
def execReferenceSwitchRelease (s : State) : Result :=
  .next (referenceSwitchOff s)

/-! ### The hard-limit switches -/

/-- A switch's level (R80). -/
def limitActive (i : Inputs) : LimitSide → Bool
  | .upper => i.upperLimit
  | .lower => i.lowerLimit

/-- A switch's level set (R80). -/
def setLimit (side : LimitSide) (level : Bool) (i : Inputs) : Inputs :=
  match side with
  | .upper => { i with upperLimit := level }
  | .lower => { i with lowerLimit := level }

/-- An active motion other than a test ends with an outcome, the drive left as it is (R81, R83). -/
def endMotionDisabled (o : MotionOutcome) (s : State) : State :=
  match activeMotion s with
  | none => s
  | some a => clearActive (fileActiveEnd a o s)

/-- What a hard-limit event does to the active motion (R73, R81). -/
def limitEndsMotion (s : State) : State :=
  if searchActive s then endMotionDisabled .equipmentCheck (enterFault .equipmentCheck s)
  else endMotionDisabled .stoppedLimit s

/-- A hard-limit switch becomes active (R81). -/
def hardLimitOn (side : LimitSide) (s : State) : State :=
  if limitActive s.inputs side then s
  else
    let s1 := driveDisable (setInputs (setLimit side true s.inputs) s)
    let s2 := enterFault .hardLimit (limitEndsMotion s1)
    activateAfterEnd s (abortTest .hardLimit s2)

/-- HARD-LIMIT SWITCH EVENT (R81). -/
def execHardLimitSwitchEvent (side : LimitSide) (s : State) : Result :=
  .next (hardLimitOn side s)

/-- A hard-limit switch becomes inactive: no effect of its own (R80). -/
def execHardLimitSwitchRelease (side : LimitSide) (s : State) : Result :=
  .next (setInputs (setLimit side false s.inputs) s)

/-! ### The guard gate -/

/-- GATE raised on the sequencer and cell ports (R82). -/
def raiseGate (s : State) : State :=
  raise .cell .gate (raise .sequencer .gate s)

/-- The sequencer's MOVE TO or REFERENCE SEARCH ends at the gate's opening (R82). -/
def gateEndsMotion (s : State) : State :=
  match s.mar.active with
  | some { port := .sequencer, job := .move _ _ _ _, .. } | some { port := .sequencer, job := .search _, .. } =>
    endMotion .stoppedGate s
  | _ => s

/-- The gate opens (R82). -/
def gateOpens (s : State) : State :=
  if s.inputs.gateOpen then s
  else
    let s1 := holdTest .gate (gateEndsMotion (setInputs { s.inputs with gateOpen := true } s))
    activateAfterEnd s (raiseGate (sendWord s1))

/-- GATE OPENING (R82). -/
def execGateOpening (s : State) : Result :=
  .next (gateOpens s)

/-- The gate closes: GATE is raised again and nothing resumes (R82). -/
def gateCloses (s : State) : State :=
  if s.inputs.gateOpen then raiseGate (setInputs { s.inputs with gateOpen := false } s) else s

/-- GATE CLOSING (R82). -/
def execGateClosing (s : State) : Result :=
  .next (gateCloses s)

/-! ### The emergency stop -/

/-- The queued requests end with outcome ESTOP in queue order, and the queue is empty (R97). -/
def stopQueue (s : State) : State :=
  s.mar.queue.foldl (fun s rq => fileRequestEnd rq .estop none s) { s with mar := { s.mar with queue := [] } }

/-- The emergency stop is asserted (R83, R97). -/
def emergencyStops (s : State) : State :=
  if s.inputs.estop then s
  else
    let s1 := driveDisable (setInputs { s.inputs with estop := true } s)
    raiseAll .estop (abortTest .estop (endMotionDisabled .estop (stopQueue s1)))

/-- EMERGENCY STOP ASSERTION (R83). -/
def execEmergencyStopAssertion (s : State) : Result :=
  .next (emergencyStops s)

/-- EMERGENCY STOP RELEASE: nothing is restarted and no notice raised (R83). -/
def execEmergencyStopRelease (s : State) : Result :=
  .next (setInputs { s.inputs with estop := false } s)

/-! ### Calibration programming (R211) -/

/-- The programmed range's site and active tables after the comparison (R211). -/
def verifyTable (w : CalWrite) (readBack : List CalPoint) (s : State) : State :=
  if readBack = w.points then
    { s with
      cal := { s.cal with site := s.cal.site.put w.range { validity := .valid, points := readBack }, inFlight := none },
      ldc := { s.ldc with active := s.ldc.active.put w.range { source := .site, points := readBack } } }
  else
    enterFault .calVerify
      { s with
        cal := { s.cal with site := s.cal.site.put w.range { validity := .invalid, points := readBack }, inFlight := none },
        ldc := { s.ldc with
          active := s.ldc.active.put w.range { source := .factory, points := s.cal.factory.get w.range } } }

/-- The programming completion: verify, tare 0, CAL_DONE (R211, R30). -/
def completeProgramming (readBack : List CalPoint) (s : State) : State :=
  match s.cal.inFlight with
  | none => s
  | some w =>
    let s1 := verifyTable w readBack s
    raise .record .calDone { s1 with ldc := { s1.ldc with tare := 0 } }

/-- CAL PROGRAMMING COMPLETION with the table read back (R211). -/
def execCalProgrammingCompletion (readBack : List CalPoint) (s : State) : Result :=
  .next (completeProgramming readBack s)

end Sys2Proof.Machine
end

