-- ==== Sys2Proof/Machine/MotionRequests.lean ====
section
/-! DEFINITION. The frame claim (R85 to R89) and the motion requests (R90 to R100): CLAIM FRAME, RELEASE FRAME, REFERENCE SEARCH,
MOVE TO, START TEST, JOG, RETRACT, STOP MOTION, COLLECT COMPLETION. -/

namespace Sys2Proof.Machine

/-! ### The claim -/

/-- The claim's entries set (R85). -/
def setClaim (holder waiter : Option Port) (s : State) : State :=
  { s with mar := { s.mar with holder := holder, waiter := waiter } }

/-- The port has a motion request queued or active (R90). -/
def requestOpen (m : Arbiter) (p : Port) : Bool :=
  (activeOf m p).isSome || (queuedOf m p).isSome

/-- CLAIM FRAME, by the claim as it stands (R86). -/
def claimFrameReply (p : Port) (s : State) : Reply :=
  match s.mar.holder with
  | none => .plain (setClaim (some p) s.mar.waiter s) .granted
  | some h => if h = p then .plain s .alreadyHeld else .plain (setClaim (some h) (some p) s) .waiting

/-- CLAIM FRAME (R86). -/
def execClaimFrame (r : Req) (s : State) : Result :=
  request .claimFrame r s (claimFrameReply r.port)

/-- The claim passes to the waiter, which is told, and activation is tried; with no waiter it is free (R87). -/
def passClaim (s : State) : State :=
  match s.mar.waiter with
  | some w => tryActivate (raise w .claimGranted (setClaim (some w) none s))
  | none => setClaim none none s

/-- A queued request ends with outcome CANCELLED (R88, R96). -/
def cancelRequest (rq : MotionRequest) (s : State) : State :=
  fileRequestEnd rq .cancelled none (unqueue rq s)

/-- The waiter withdraws, and its queued request that needs the claim is cancelled (R88). -/
def withdrawClaim (p : Port) (s : State) : State :=
  let s1 := setClaim s.mar.holder none s
  match queuedOf s.mar p with
  | some rq => if rq.job = .retract then s1 else cancelRequest rq s1
  | none => s1

/-- RELEASE FRAME from the holder, the waiter, or neither (R87, R88). -/
def releaseFrameReply (p : Port) (s : State) : Reply :=
  if s.mar.holder = some p then
    if !s.testIdle then .plain s .testInProgress
    else if requestOpen s.mar p then .plain s .outstanding
    else .plain (passClaim s) .ok
  else if s.mar.waiter = some p then .plain (withdrawClaim p s) .withdrawn
  else .plain s .notHeld

/-- RELEASE FRAME (R87, R88). -/
def execReleaseFrame (r : Req) (s : State) : Result :=
  request .releaseFrame r s (releaseFrameReply r.port)

/-! ### The checks of a motion request (R91) -/

/-- A sequencer REFERENCE SEARCH is active (R91, step 9). -/
def sequencerSearches (s : State) : Bool :=
  match s.mar.active with
  | some { port := .sequencer, job := .search _, .. } => true
  | _ => false

/-- Steps 1 to 4 of R91. -/
def earlyRefusal (j : MotionJob) (s : State) : Option RequestOutcome :=
  if !motionForm s.xhc.config j then some .badParameter
  else if s.inputs.estop then some .estopActive
  else if s.ldc.loadFault && (match j with | .jog _ _ _ => false | _ => true) then some .loadFault
  else if limitForbids s j then some .atLimit
  else none

/-- The port holds the claim or waits for it (R91, step 6). -/
def claimant (p : Port) (s : State) : Bool :=
  s.mar.holder == some p || s.mar.waiter == some p

/-- The request is a JOG that R89 lets pass without a claim: the gate is open. -/
def jogsUnclaimed (j : MotionJob) (s : State) : Bool :=
  match j with
  | .jog _ _ _ => s.inputs.gateOpen
  | _ => false

/-- The kind's own conditions (R91, step 9). -/
def kindRefusal (p : Port) (j : MotionJob) (s : State) : Option RequestOutcome :=
  match j with
  | .moveTo _ _ =>
    if !s.xhc.referenceValid then some .noReference
    else if p = .sequencer && s.inputs.gateOpen then some .gateOpen
    else none
  | .referenceSearch => if s.inputs.gateOpen then some .gateOpen else none
  | .retract =>
    if !s.testIdle then some .testInProgress
    else if !s.xhc.referenceValid && !sequencerSearches s then some .noReference
    else none
  | .startTest => startRefusal s
  | .jog _ _ _ => none

/-- Steps 6 to 9 of R91. -/
def lateRefusal (p : Port) (j : MotionJob) (s : State) : Option RequestOutcome :=
  if !(claimant p s || j == .retract || jogsUnclaimed j s) then some .noClaim
  else if requestOpen s.mar p then some .outstanding
  else if (s.mar.slot p).isSome then some .uncollected
  else kindRefusal p j s

/-! ### Acceptance (R89, R92, R93) -/

/-- The claim of a cell JOG accepted by R89: holder of a free claim, else waiter. -/
def claimByJog (p : Port) (s : State) : State :=
  match s.mar.holder with
  | none => setClaim (some p) s.mar.waiter s
  | some h => setClaim (some h) (some p) s

/-- The port's claim role (R89). -/
def roleOf (p : Port) (s : State) : Option ClaimRole :=
  if s.mar.holder = some p then some .holder else if s.mar.waiter = some p then some .waiter else none

/-- A sequencer MOVE TO or REFERENCE SEARCH, which a RETRACT preempts (R93). -/
def preemptible (s : State) : Option ActiveMotion :=
  s.mar.active.filter fun a =>
    a.port == .sequencer && (match a.job with | .move _ _ _ _ | .search _ => true | _ => false)

/-- The queue replaced (R90). -/
def setMotionQueue (q : List MotionRequest) (s : State) : State :=
  { s with mar := { s.mar with queue := q } }

/-- An accepted RETRACT acts on the active motion: the sequencer's move or search ends PREEMPTED and the RETRACT is taken at once, in
the drive state of that moment; otherwise it waits at position 1 (R93, R76). -/
def placeRetract (rq : MotionRequest) (s : State) : State :=
  match preemptible s with
  | some a => takeRequest true rq (clearActive (fileActiveEnd a .preempted s))
  | none => setMotionQueue (rq :: s.mar.queue) s

/-- An accepted request joins the queue, at the end or as R93 gives for a RETRACT (R92). -/
def placeRequest (rq : MotionRequest) (s : State) : State :=
  if rq.job = .retract then placeRetract rq s else setMotionQueue (s.mar.queue ++ [rq]) s

/-- The request is a JOG that R89 lets pass without a claim, from a port without one. -/
def claimsByJog (rq : MotionRequest) (s : State) : Bool :=
  jogsUnclaimed rq.job s && !claimant rq.port s

/-- A request accepted: the claim of R89, the queue, and the attempt at activation (R92). -/
def admitMotion (rq : MotionRequest) (s : State) : State :=
  tryActivate (placeRequest rq (if claimsByJog rq s then claimByJog rq.port s else s))

/-- The answer to an accepted request: its condition, and its port's claim role where R89 applied (R92). DEDUCED (log entry 36), unsafe:
of a request that ended within its own activation attempt the condition is R90's "filed". -/
def acceptMotion (rq : MotionRequest) (s : State) : Reply :=
  { state := admitMotion rq s, outcome := .queued,
    payload := .motion (requestCondition (admitMotion rq s).mar rq.port)
      (if claimsByJog rq s then roleOf rq.port (admitMotion rq s) else none) }

/-! ### The JOG refresh (R78) -/

/-- The port's own jog is active. -/
def ownJogActive (p : Port) (s : State) : Bool :=
  match activeOf s.mar p with
  | some { job := .jog _ _ _, .. } => true
  | _ => false

/-- The running jog takes the new direction, clamped speed and duration; while MOVING its timer restarts and a word is sent at once;
toward a soft limit at which the position stands it ends (R78). -/
def refreshJog (d : Direction) (speed duration : Int) (s : State) : State :=
  let s1 := setJob (.jog d (min speed s.xhc.config.jogLimit) duration) s
  if atSoftLimit s.xhc d then activateAfterEnd s (endMotion .stoppedLimit s1)
  else if s.xhc.drive = .moving then sendWord { s1 with xhc := { s1.xhc with jogTimer := some duration } }
  else s1

/-! ### The requests -/

/-- A motion request other than a JOG (R91, R92). -/
def motionReply (p : Port) (tag : Tag) (j : MotionJob) (s : State) : Reply :=
  match earlyRefusal j s with
  | some o => .plain s o
  | none =>
    match lateRefusal p j s with
    | some o => .plain s o
    | none => acceptMotion { port := p, tag := tag, job := j } s

/-- A JOG: a refresh of the port's own active jog, or a motion request (R78, R91). -/
def jogReply (p : Port) (tag : Tag) (d : Direction) (speed duration : Int) (s : State) : Reply :=
  match earlyRefusal (.jog d speed duration) s with
  | some o => .plain s o
  | none =>
    if ownJogActive p s then .plain (refreshJog d speed duration s) .ok
    else motionReply p tag (.jog d speed duration) s

/-- REFERENCE SEARCH (R71, R91). -/
def execReferenceSearch (r : Req) (s : State) : Result :=
  request .referenceSearch r s (motionReply r.port r.tag .referenceSearch)

/-- START TEST (R110, R91). -/
def execStartTest (r : Req) (s : State) : Result :=
  request .startTest r s (motionReply r.port r.tag .startTest)

/-- MOVE TO (R74, R91). -/
def execMoveTo (r : Req) (target speed : Int) (s : State) : Result :=
  request .moveTo r s (motionReply r.port r.tag (.moveTo target speed))

/-- JOG (R77, R78, R91). -/
def execJog (r : Req) (dir : Direction) (speed duration : Int) (s : State) : Result :=
  request .jog r s (jogReply r.port r.tag dir speed duration)

/-- RETRACT (R76, R91, R93). -/
def execRetract (r : Req) (s : State) : Result :=
  request .retract r s (motionReply r.port r.tag .retract)

/-- STOP MOTION on the port's own request (R96). -/
def stopMotionReply (p : Port) (s : State) : Reply :=
  match queuedOf s.mar p, activeOf s.mar p with
  | some rq, _ => .plain (cancelRequest rq s) .ok
  | none, some a => if a.job = .test then .plain s .wrongState else .plain (activateAfterEnd s (endMotion .stopped s)) .ok
  | none, none => .plain s .wrongState

/-- STOP MOTION (R96). -/
def execStopMotion (r : Req) (s : State) : Result :=
  request .stopMotion r s (stopMotionReply r.port)

/-- A port's completion slot emptied (R99). -/
def emptySlot (p : Port) (s : State) : State :=
  { s with mar := s.mar.setSlot p none }

/-- COLLECT COMPLETION hands over the record in the port's slot (R99). -/
def collectCompletionReply (p : Port) (s : State) : Reply :=
  match s.mar.slot p with
  | none => .plain s .empty
  | some c => { state := emptySlot p s, outcome := .ok, payload := .completion c }

/-- COLLECT COMPLETION (R99). -/
def execCollectCompletion (r : Req) (s : State) : Result :=
  request .collectCompletion r s (collectCompletionReply r.port)

end Sys2Proof.Machine
end

