-- ==== Sys2Proof/Machine/Record.lean ====
section
/-! DEFINITION. The quality station's requests: ENQUEUE SPECIMEN (R5), CANCEL SPECIMEN (R6), SET and READ GRADE LIMITS (R195, R196),
COLLECT and PEEK RESULT (R192, R193), READ PAGE (R185), WRITE SITE CALIBRATION (R210), READ CALIBRATION (R212). -/

namespace Sys2Proof.Machine

/-! ### The specimen queue -/

/-- The queue replaced (R4). -/
def setQueue (q : List QueuedSpecimen) (s : State) : State :=
  { s with spt := { s.spt with queue := q } }

/-- The identifier stands in the mounted slot (R3). -/
def slotHolds (id : Text) (s : State) : Bool :=
  match s.spt.slot with
  | some m => m.specimen.id == id
  | none => false

/-- A record placed as its rush field gives: RUSH behind the last RETURNED or RUSH record, NORMAL at the end (R4). -/
def joinQueue (x : SpecimenRecord) (q : List QueuedSpecimen) : List QueuedSpecimen :=
  if x.rush then
    q.takeWhile (fun y => y.band != .normal) ++ { specimen := x, band := .rush } :: q.dropWhile (fun y => y.band != .normal)
  else q ++ [{ specimen := x, band := .normal }]

/-- ENQUEUE SPECIMEN, in the order of R5's checks. -/
def enqueueSpecimenReply (p : SpecimenParams) (s : State) : Reply :=
  match specimenOf p with
  | none => .plain s .badParameter
  | some x =>
    if (queuedById x.id s.spt.queue).isSome || slotHolds x.id s then .plain s .duplicate
    else if s.spt.queue.length < Config.queueCapacity then .plain (setQueue (joinQueue x s.spt.queue) s) .ok
    else .plain s .queueFull

/-- ENQUEUE SPECIMEN (R5). -/
def execEnqueueSpecimen (r : Req) (p : SpecimenParams) (s : State) : Result :=
  request .enqueueSpecimen r s (enqueueSpecimenReply p)

/-- CANCEL SPECIMEN (R6). -/
def cancelSpecimenReply (id : Text) (s : State) : Reply :=
  if !identifierForm id then .plain s .badParameter
  else if (queuedById id s.spt.queue).isSome then .plain (setQueue (removeById id s.spt.queue) s) .ok
  else if slotHolds id s then .plain s .mounted
  else .plain s .unknownSpecimen

/-- CANCEL SPECIMEN (R6). -/
def execCancelSpecimen (r : Req) (id : Text) (s : State) : Result :=
  request .cancelSpecimen r s (cancelSpecimenReply id)

/-! ### The grade limit table -/

/-- A grade's entry set; `none` is UNDEFINED (R194). -/
def setLimits (g : Fin 32) (l : Option GradeLimits) (s : State) : State :=
  { s with rsl := { s.rsl with limits := s.rsl.limits.set g.val l g.isLt } }

/-- SET GRADE LIMITS, in the order of R195's checks. -/
def setGradeLimitsReply (grade : Int) (l : Option GradeLimits) (s : State) : Reply :=
  match gradeOf grade with
  | none => .plain s .badParameter
  | some g => if optAll l limitsForm then .plain (setLimits g l s) .ok else .plain s .badParameter

/-- SET GRADE LIMITS (R195). -/
def execSetGradeLimits (r : Req) (grade : Int) (limits : Option GradeLimits) (s : State) : Result :=
  request .setGradeLimits r s (setGradeLimitsReply grade limits)

/-- READ GRADE LIMITS (R196). -/
def readGradeLimitsReply (grade : Int) (s : State) : Reply :=
  match gradeOf grade with
  | none => .plain s .badParameter
  | some g =>
    match s.rsl.limits[g] with
    | none => .plain s .empty
    | some l => { state := s, outcome := .ok, payload := .limits l }

/-- READ GRADE LIMITS (R196). -/
def execReadGradeLimits (r : Req) (grade : Int) (s : State) : Result :=
  request .readGradeLimits r s (readGradeLimitsReply grade)

/-! ### Results -/

/-- The results list replaced (R188). -/
def setResults (l : List ResultRecord) (s : State) : State :=
  { s with rsl := { s.rsl with results := l } }

/-- COLLECT RESULT takes the head record (R192). -/
def collectResultReply (s : State) : Reply :=
  match s.rsl.results with
  | [] => .plain s .empty
  | x :: rest => { state := setResults rest s, outcome := .ok, payload := .result x }

/-- COLLECT RESULT (R192). -/
def execCollectResult (r : Req) (s : State) : Result :=
  request .collectResult r s collectResultReply

/-- PEEK RESULT reads the head record (R193). -/
def peekResultReply (s : State) : Reply :=
  match s.rsl.results with
  | [] => .plain s .empty
  | x :: _ => { state := s, outcome := .ok, payload := .result x }

/-- PEEK RESULT (R193). -/
def execPeekResult (r : Req) (s : State) : Result :=
  request .peekResult r s peekResultReply

/-! ### Capture pages -/

/-- The hand-out order replaced, and the level set again while CAPTURING (R185). -/
def freePage (rest : List CapturePage) (s : State) : State :=
  setLevel { s with cps := { s.cps with full := rest } }

/-- READ PAGE hands out the head page, which becomes FREE (R185). -/
def readPageReply (s : State) : Reply :=
  match s.cps.full with
  | [] => .plain s .empty
  | p :: rest => { state := freePage rest s, outcome := .ok, payload := .page p }

/-- READ PAGE (R185). -/
def execReadPage (r : Req) (s : State) : Result :=
  request .readPage r s readPageReply

/-! ### Calibration -/

/-- A write begins: the range's site table is PROGRAMMING and the write in flight (R210). DESIGN CHOICE (log entry 18), unsafe: the
points of the table before stay in it until the completion. -/
def beginProgramming (x : LoadRange) (points : List CalPoint) (s : State) : State :=
  { s with cal :=
    { s.cal with
      site := s.cal.site.put x { validity := .programming, points := (s.cal.site.get x).points },
      inFlight := some { range := x, points := points } } }

/-- WRITE SITE CALIBRATION, in the order of R210's checks. -/
def writeSiteCalibrationReply (sect : CalSection) (range : Int) (points : List CalPoint) (s : State) : Reply :=
  match rangeOfNumber range with
  | none => .plain s .badParameter
  | some x =>
    if sect = .factory then .plain s .isProtected
    else if !s.testIdle then .plain s .testInProgress
    else if s.cal.inFlight.isSome then .plain s .calBusy
    else if tableForm points then .plain (beginProgramming x points s) .ok
    else .plain s .badTable

/-- WRITE SITE CALIBRATION (R210). -/
def execWriteSiteCalibration (r : Req) (sect : CalSection) (range : Int) (points : List CalPoint) (s : State) : Result :=
  request .writeSiteCalibration r s (writeSiteCalibrationReply sect range points)

/-- READ CALIBRATION (R212). -/
def execReadCalibration (r : Req) (s : State) : Result :=
  request .readCalibration r s fun s => { state := s, outcome := .ok, payload := .calibration (calibrationReport s) }

end Sys2Proof.Machine
end

