-- ==== Sys2Proof/Machine/Resets.lean ====
section
/-! DEFINITION. The two resets: R18, R40, R63, R84, R102, R130, R145, R187, R199, R213, chapter by chapter. -/

namespace Sys2Proof.Machine

/-! ### The calibration store (R213) -/

/-- A range's site table is being programmed. -/
def programming (t : SiteTable) : Bool :=
  t.validity == .programming

/-- The points a cut-short programming leaves: free (log entry 4). -/
def interruptedPoints (draw : Nat) : List CalPoint :=
  (Config.interruptedTable draw).map fun x => { code := x.1, force := x.2 }

/-- A site table through a reset: kept, but INVALID when its programming was cut short (R213). -/
def siteThroughReset (draw : Nat) (t : SiteTable) : SiteTable :=
  if programming t then { validity := .invalid, points := interruptedPoints draw } else t

/-- The calibration store through either reset (R213). -/
def calThroughReset (draw : Nat) (c : Calibration) : Calibration :=
  { c with
    site := { r1 := siteThroughReset draw c.site.r1, r2 := siteThroughReset draw c.site.r2, r3 := siteThroughReset draw c.site.r3,
              r4 := siteThroughReset draw c.site.r4 },
    inFlight := none }

/-- Some site table is being programmed, so that a reset draws a free table. -/
def cutsProgramming (c : Calibration) : Bool :=
  programming c.site.r1 || programming c.site.r2 || programming c.site.r3 || programming c.site.r4

/-- The free values drawn once a reset has come. -/
def drawsAfterReset (s : State) : Nat :=
  if cutsProgramming s.cal then s.freeDraws + 1 else s.freeDraws

/-- The active table chosen from a site table's validity (R25). -/
def chosenTable (factory : List CalPoint) (t : SiteTable) : ActiveTable :=
  if t.validity = .valid then { source := .site, points := t.points } else { source := .factory, points := factory }

/-- The active tables at power-on (R25, R40). -/
def chosenTables (c : Calibration) : PerRange ActiveTable :=
  { r1 := chosenTable c.factory.r1 c.site.r1, r2 := chosenTable c.factory.r2 c.site.r2,
    r3 := chosenTable c.factory.r3 c.site.r3, r4 := chosenTable c.factory.r4 c.site.r4 }

/-- The active table a warm reset keeps; a range whose programming it cut short uses its factory table (R25, R40). -/
def keptTable (factory : List CalPoint) (t : SiteTable) (active : ActiveTable) : ActiveTable :=
  if programming t then { source := .factory, points := factory } else active

/-- The active tables after a warm reset (R25, R40). -/
def keptTables (c : Calibration) (active : PerRange ActiveTable) : PerRange ActiveTable :=
  { r1 := keptTable c.factory.r1 c.site.r1 active.r1, r2 := keptTable c.factory.r2 c.site.r2 active.r2,
    r3 := keptTable c.factory.r3 c.site.r3 active.r3, r4 := keptTable c.factory.r4 c.site.r4 active.r4 }

/-! ### Power-on reset -/

/-- The state after a power-on reset: the power-on values, with the calibration store kept (R209, R213) and the inputs as they
stand. -/
def poweredOn (s : State) : State :=
  { State.reset with
    ldc := resetLoad powerOnConfig.sampleInterval (chosenTables (calThroughReset s.freeDraws s.cal)),
    cal := calThroughReset s.freeDraws s.cal,
    inputs := s.inputs, freeDraws := drawsAfterReset s, pending := s.pending }

/-- POWER-ON RESET (1.5). -/
def execPowerOnReset (s : State) : Result :=
  .next (poweredOn s)

/-! ### Warm reset -/

/-- The crosshead controller after a warm reset: configuration and position kept (R84). -/
def warmCrosshead (x : Crosshead) : Crosshead :=
  { resetCrosshead with config := x.config, position := x.position }

/-- The state after a warm reset: the queue (R18), the configuration and position (R84), the plans and the serial (R130), the FULL
pages of earlier tests (R187), results and grade limits (R199) and the calibration store (R213) are kept. -/
def warmed (s : State) : State :=
  { spt := { queue := s.spt.queue, slot := none },
    ldc := resetLoad s.xhc.config.sampleInterval (keptTables s.cal s.ldc.active),
    exc := resetExtensometer,
    xhc := warmCrosshead s.xhc,
    mar := resetArbiter,
    tex := { s.tex with test := none },
    rlp := idleLoop,
    cps := discardCapture s.cps,
    rsl := { s.rsl with reserved := false },
    pif := resetPorts,
    cal := calThroughReset s.freeDraws s.cal,
    inputs := s.inputs, freeDraws := drawsAfterReset s, pending := s.pending }

/-- WARM RESET (1.5). -/
def execWarmReset (s : State) : Result :=
  .next (warmed s)

end Sys2Proof.Machine
end

