-- ==== Sys2Proof/Machine/Sampling.lean ====
section
/-! DEFINITION. The sample timer's expiry, the conversion-end strobe and the sample arrival (R19 to R24), and the rows that name one
case of an expiry or an arrival: such a command is that expiry or arrival when its case comes about at it, and no event otherwise
(log entry 19). -/

namespace Sys2Proof.Machine

/-- SAMPLE TIMER EXPIRY (R21). -/
def execSampleTimerExpiry (s : State) : Result :=
  .next (expire s).s

/-- The expiry at which the miss count reaches 4 (R22). -/
def execLoadFaultDeclaration (s : State) : Result :=
  .next (if (expire s).declared then (expire s).s else s)

/-- The expiry at which the placement timer reaches its timeout (R50). -/
def execPlacementTimeout (s : State) : Result :=
  .next (if (expire s).placementExpired then (expire s).s else s)

/-- The expiry at which the removal timer reaches its timeout (R56). -/
def execRemovalTimeout (s : State) : Result :=
  .next (if (expire s).removalExpired then (expire s).s else s)

/-- What is latched at a strobe (R20, R41, R67). -/
def latchNow (s : State) : Latch :=
  { extCount := s.exc.count, position := s.xhc.position }

/-- CONVERSION-END STROBE: the conversion in flight latches count and position; with none in flight it is ignored (R20). A
conversion has one strobe (log entry 15). -/
def execConversionEndStrobe (s : State) : Result :=
  match s.ldc.conversion with
  | some { range := range, latch := none } =>
    .next { s with ldc := { s.ldc with conversion := some { range := range, latch := some (latchNow s) } } }
  | _ => .next s

/-- The state an arrival leaves; with no conversion that can arrive no code reaches the part (R20). -/
def arrived (code : Int) (s : State) : State :=
  match arrive code s with
  | some a => a.s
  | none => s

/-- SAMPLE ARRIVAL (R24). -/
def execSampleArrival (code : Int) (s : State) : Result :=
  .next (arrived code s)

/-- The arrival at which a stage's timeout is acted on (R118). -/
def execStageTimeout (code : Int) (s : State) : Result :=
  .next (match arrive code s with | some a => if a.timedOut then a.s else s | none => s)

/-- The arrival at which the tail is complete (R125). -/
def execEndOfTail (code : Int) (s : State) : Result :=
  .next (match arrive code s with | some a => if a.tailEnded then a.s else s | none => s)

end Sys2Proof.Machine
end

