-- ==== Sys2Proof/Machine/TestControl.lean ====
section
/-! DEFINITION. The sequencer's requests on a test in progress: HOLD TEST (R121), RESUME TEST (R122), ABORT TEST (R126), ADJUST RATE
(R119). -/

namespace Sys2Proof.Machine

/-- HOLD TEST holds a test in PRELOAD, PLACING or RUNNING with cause SEQUENCER (R121). -/
def holdTestReply (s : State) : Reply :=
  if (s.phase.bind holdableAs).isSome then .plain (holdTest .sequencer s) .ok else .plain s .wrongState

/-- HOLD TEST (R121). -/
def execHoldTest (r : Req) (s : State) : Result :=
  request .holdTest r s holdTestReply

/-- RESUME TEST releases a held test with the gate closed (R122). -/
def resumeTestReply (s : State) : Reply :=
  if !s.isHeld then .plain s .wrongState
  else if s.inputs.gateOpen then .plain s .gateOpen
  else .plain (releaseTest s) .ok

/-- RESUME TEST (R122). -/
def execResumeTest (r : Req) (s : State) : Result :=
  request .resumeTest r s resumeTestReply

/-- ABORT TEST aborts a test before fracture, and cuts a tail short (R126); the motion's end lets activation be tried (R94). -/
def abortTestReply (s : State) : Reply :=
  match s.phase with
  | none => .plain s .wrongState
  | some (.tail _) => .plain (activateAfterEnd s (closeTest .complete s)) .ok
  | some _ => .plain (activateAfterEnd s (abortTest .operator s)) .ok

/-- ABORT TEST (R126). -/
def execAbortTest (r : Req) (s : State) : Result :=
  request .abortTest r s abortTestReply

/-- The current stage's definition, in a test that is RUNNING or HELD (R119). -/
def adjustableStage (s : State) : Option StageDef :=
  match s.tex.test with
  | none => none
  | some t =>
    if t.phase = .running || s.isHeld then t.stage.bind fun r => stageAt t.plan r.index else none

/-- The current stage's rate replaced, RATE_CHANGED entered, and the loop rate with it (R119, R143). -/
def adjustRate (rate : Int) (s : State) : State :=
  loopSetRate rate (addEvent .rateChanged rate (markStage (fun r => { r with rate := rate }) s))

/-- ADJUST RATE, in the order of R119's checks; `whole` says that the parameter bytes hold a rate. -/
def adjustRateReply (whole : Bool) (rate : Int) (s : State) : Reply :=
  match adjustableStage s with
  | none => .plain s .wrongState
  | some d =>
    if d.mode = .hold then .plain s .wrongState
    else if whole && rateInRange d.mode rate then .plain (adjustRate rate s) .ok
    else .plain s .badParameter

/-- ADJUST RATE (R119). -/
def execAdjustRate (r : Req) (rate : Int) (s : State) : Result :=
  request .adjustRate r s (adjustRateReply (r.form == .whole) rate)

end Sys2Proof.Machine
end

