-- ==== Sys2Proof/Machine/Transactions.lean ====
section
/-! DEFINITION. Transactions that bring no known request (R200 to R202): an unknown kind, a write that is not taken, a read. -/

namespace Sys2Proof.Machine

/-- A request of an unknown kind is answered UNKNOWN_REQUEST with its tag and kind echoed (R202). -/
def execUnknownRequest (port : Port) (tag : Tag) (kind : Byte) (s : State) : Result :=
  .next (placeAnswer port tag kind (.plain s .unknownRequest))

/-- The form byte of a transaction is that of a write (R200). -/
def isWrite (bytes : List Byte) : Bool :=
  bytes.head? == some 1

/-- A transaction from which nothing is taken changes at most its port's data out line: zero bytes during a write (R200). DESIGN
CHOICE (log entry 6), unsafe: with another form byte, or none, the field keeps what the last read or write left. -/
def execWriteNotTaken (port : Port) (bytes : List Byte) (s : State) : Result :=
  .next (if isWrite bytes then s.setPort port { s.portOf port with dataOut := .zeros } else s)

/-- A port's buffer read: the bytes shifted out, and the buffer EMPTY once the last of them has gone (R201). -/
def readOut (n : Nat) (v : PortState) : PortState :=
  { v with dataOut := .shifted (shiftedOut n v.buffer), buffer := bufferAfterRead n v.buffer }

/-- A read transaction of `clocked` bytes after its form byte (R200, R201). -/
def execReadTransaction (port : Port) (clocked : Nat) (s : State) : Result :=
  .next (s.setPort port (readOut clocked (s.portOf port)))

end Sys2Proof.Machine
end

