-- ==== Sys2Proof/Machine/Dispatch.lean ====
section
/-! DEFINITION. Each command's meaning, in the order of spec/opcode_table.json. -/

namespace Sys2Proof.Machine

def exec (i : Instr) (s : State) : Host.Outcome State Fault Refusal :=
  match i with
  | .readStatus r => Sys2Proof.Machine.execReadStatus r s
  | .readLive r => Sys2Proof.Machine.execReadLive r s
  | .readFlags r => Sys2Proof.Machine.execReadFlags r s
  | .ackFlags r flags => Sys2Proof.Machine.execAckFlags r flags s
  | .setNotices r enables promoted => Sys2Proof.Machine.execSetNotices r enables promoted s
  | .readQueue r => Sys2Proof.Machine.execReadQueue r s
  | .nop r => Sys2Proof.Machine.execNop r s
  | .configureFrame r u => Sys2Proof.Machine.execConfigureFrame r u s
  | .setRange r range => Sys2Proof.Machine.execSetRange r range s
  | .tare r => Sys2Proof.Machine.execTare r s
  | .clearFaults r => Sys2Proof.Machine.execClearFaults r s
  | .definePlan r id g stages => Sys2Proof.Machine.execDefinePlan r id g stages s
  | .readPlan r id => Sys2Proof.Machine.execReadPlan r id s
  | .referenceSearch r => Sys2Proof.Machine.execReferenceSearch r s
  | .startTest r => Sys2Proof.Machine.execStartTest r s
  | .holdTest r => Sys2Proof.Machine.execHoldTest r s
  | .resumeTest r => Sys2Proof.Machine.execResumeTest r s
  | .abortTest r => Sys2Proof.Machine.execAbortTest r s
  | .adjustRate r rate => Sys2Proof.Machine.execAdjustRate r rate s
  | .claimFrame r => Sys2Proof.Machine.execClaimFrame r s
  | .releaseFrame r => Sys2Proof.Machine.execReleaseFrame r s
  | .moveTo r target speed => Sys2Proof.Machine.execMoveTo r target speed s
  | .stopMotion r => Sys2Proof.Machine.execStopMotion r s
  | .collectCompletion r => Sys2Proof.Machine.execCollectCompletion r s
  | .jog r dir speed duration => Sys2Proof.Machine.execJog r dir speed duration s
  | .retract r => Sys2Proof.Machine.execRetract r s
  | .specimenMounted r id width thickness diameter => Sys2Proof.Machine.execSpecimenMounted r id width thickness diameter s
  | .specimenUnmounted r => Sys2Proof.Machine.execSpecimenUnmounted r s
  | .extensometerPlaced r => Sys2Proof.Machine.execExtensometerPlaced r s
  | .extensometerRemoved r => Sys2Proof.Machine.execExtensometerRemoved r s
  | .enqueueSpecimen r p => Sys2Proof.Machine.execEnqueueSpecimen r p s
  | .cancelSpecimen r id => Sys2Proof.Machine.execCancelSpecimen r id s
  | .setGradeLimits r grade limits => Sys2Proof.Machine.execSetGradeLimits r grade limits s
  | .readGradeLimits r grade => Sys2Proof.Machine.execReadGradeLimits r grade s
  | .collectResult r => Sys2Proof.Machine.execCollectResult r s
  | .peekResult r => Sys2Proof.Machine.execPeekResult r s
  | .readPage r => Sys2Proof.Machine.execReadPage r s
  | .writeSiteCalibration r sect range points => Sys2Proof.Machine.execWriteSiteCalibration r sect range points s
  | .readCalibration r => Sys2Proof.Machine.execReadCalibration r s
  | .unknownRequest port tag kind => Sys2Proof.Machine.execUnknownRequest port tag kind s
  | .writeNotTaken port bytes => Sys2Proof.Machine.execWriteNotTaken port bytes s
  | .readTransaction port clocked => Sys2Proof.Machine.execReadTransaction port clocked s
  | .powerOnReset => Sys2Proof.Machine.execPowerOnReset s
  | .warmReset => Sys2Proof.Machine.execWarmReset s
  | .sampleTimerExpiry => Sys2Proof.Machine.execSampleTimerExpiry s
  | .loadFaultDeclaration => Sys2Proof.Machine.execLoadFaultDeclaration s
  | .conversionEndStrobe => Sys2Proof.Machine.execConversionEndStrobe s
  | .sampleArrival code => Sys2Proof.Machine.execSampleArrival code s
  | .stageTimeout code => Sys2Proof.Machine.execStageTimeout code s
  | .endOfTail code => Sys2Proof.Machine.execEndOfTail code s
  | .placementTimeout => Sys2Proof.Machine.execPlacementTimeout s
  | .removalTimeout => Sys2Proof.Machine.execRemovalTimeout s
  | .brakeReleaseExpiry => Sys2Proof.Machine.execBrakeReleaseExpiry s
  | .holdTimerExpiry => Sys2Proof.Machine.execHoldTimerExpiry s
  | .jogDurationExpiry => Sys2Proof.Machine.execJogDurationExpiry s
  | .activation => Sys2Proof.Machine.execActivation s
  | .encoderEdge dir => Sys2Proof.Machine.execEncoderEdge dir s
  | .searchTravelLimit dir => Sys2Proof.Machine.execSearchTravelLimit dir s
  | .extQuadratureEdge dir => Sys2Proof.Machine.execExtQuadratureEdge dir s
  | .referenceSwitchEvent => Sys2Proof.Machine.execReferenceSwitchEvent s
  | .referenceSwitchRelease => Sys2Proof.Machine.execReferenceSwitchRelease s
  | .hardLimitSwitchEvent side => Sys2Proof.Machine.execHardLimitSwitchEvent side s
  | .hardLimitSwitchRelease side => Sys2Proof.Machine.execHardLimitSwitchRelease side s
  | .gateOpening => Sys2Proof.Machine.execGateOpening s
  | .gateClosing => Sys2Proof.Machine.execGateClosing s
  | .emergencyStopAssertion => Sys2Proof.Machine.execEmergencyStopAssertion s
  | .emergencyStopRelease => Sys2Proof.Machine.execEmergencyStopRelease s
  | .calProgrammingCompletion readBack => Sys2Proof.Machine.execCalProgrammingCompletion readBack s

end Sys2Proof.Machine
end

