-- ==== Sys2Proof/Machine/Step.lean ====
section
/-! DEFINITION. One step: the command at the front of the queue, run with the queue's rest. -/

namespace Sys2Proof.Machine

/-- The commands that wait replaced. -/
def State.withPending (s : State) (l : List Instr) : State :=
  { s with pending := l }

/-- A command put at the front of the queue. -/
def State.push (s : State) (i : Instr) : State :=
  s.withPending (i :: s.pending)

/-- One step: take the command at the front and run it with the queue's rest. DESIGN CHOICE (log entry 1), safe: on an empty queue
the block idles. -/
def step (s : State) : Host.Outcome State Fault Refusal :=
  match s.pending with
  | [] => .next s
  | i :: rest => exec i (s.withPending rest)

/-- The command a table word spells, put at the front of the queue; the table gives no row bits, so `s` itself. -/
def State.withFetchWord (s : State) (nbits w : Nat) : State :=
  match decodeTableWord nbits w with
  | some i => s.push i
  | none => s

/-- A transaction at the release of its port's select: its command joins the end of the queue (R200). -/
def State.withTransaction (s : State) (p : Port) (bytes : List Byte) : State :=
  s.withPending (s.pending ++ [decodeTransaction p bytes])

end Sys2Proof.Machine
end

