-- ==== Sys2Proof/Safety.lean ====
section
/-! DEFINITION. What claims speak of: the requests among the commands, and the standing conditions of the block that its chapters
promise. Each condition is a property of one state; that every step keeps it is claimed of all states that have it. -/

namespace Sys2Proof.Machine

/-! ### Requests -/

/-- The kind and the frame of a command that is a request of a known kind (R202). -/
def requestOf (i : Instr) : Option (RequestKind × Req) :=
  (encodeParams i).map fun e => (e.1, e.2.1)

/-- The state in which a request has been answered with an outcome and a payload (R201): its port's buffer holds the answer,
marked OVERWRITTEN when the buffer held one, and its data out line has carried zero bytes (R200). -/
def answered (k : RequestKind) (r : Req) (o : RequestOutcome) (payload : Payload) (s : State) : State :=
  s.setPort r.port
    { s.portOf r.port with
      buffer := some
        { tag := r.tag, kind := kindCode k, outcome := o, overwritten := (s.portOf r.port).buffer.isSome, payload := payload },
      dataOut := .zeros }

/-! ### READ STATUS (R202 and the chapters) -/

/-- The item of R90 for a port: its request is the active motion, or queued at a position counted from 1, or filed in its completion
slot, or absent. -/
structure RequestItem (p : Port) (s : State) (q : RequestReport) : Prop where
  active : ∀ a ∈ s.mar.active, a.port = p → q = ⟨.active, some (activeKind a.job), some a.tag⟩
  queued : (∀ a ∈ s.mar.active, a.port ≠ p) → ∀ before rq after, s.mar.queue = before ++ rq :: after → rq.port = p →
    (∀ x ∈ before, x.port ≠ p) → q = ⟨.queued (before.length + 1), some (jobKind rq.job), some rq.tag⟩
  filed : (∀ a ∈ s.mar.active, a.port ≠ p) → (∀ x ∈ s.mar.queue, x.port ≠ p) →
    q = match s.mar.slot p with
      | some c => ⟨.filed, some c.kind, some c.tag⟩
      | none => ⟨.absent, none, none⟩

/-- The items of R108: the test state, and of a test its serial, plan, stage, the stage's elapsed time in whole ms (NEAREST, R1)
and the held cause. -/
structure TestItems (s : State) (r : TestReport) : Prop where
  idle : s.tex.test = none → r = ⟨.idle, none, none, none, none, none⟩
  inTest : ∀ t ∈ s.tex.test,
    r.serial = some t.serial ∧ r.plan = some t.planId ∧ r.stage = t.stage.map (·.index) ∧
    r.elapsedMs = t.stage.map (fun x => roundNearest x.elapsed 1000) ∧
    (r.state, r.cause) =
      match t.phase with
      | .preload => (.preload, none)
      | .placing => (.placing, none)
      | .running => (.running, none)
      | .held c _ => (.held, some c)
      | .tail _ => (.tail, none)

/-- The items of R146 for the test in progress. -/
structure EvaluationItems (t : TestContext) (r : EvaluationReport) : Prop where
  fit : r.fit = t.rev.fit.state ∧ r.n = t.rev.fit.n ∧ r.e = t.rev.fit.e ∧ r.eps0 = t.rev.fit.eps0
  search : r.search = t.rev.search.state ∧
    r.rp = t.rev.search.rp.map fun q => roundToResolution t.plan.roundMode t.plan.stressRes q.num q.den
  tracker : r.tracker = t.rev.tracker.state ∧ r.sigmaMax = t.rev.tracker.sigmaMax ∧ r.reH = t.rev.tracker.reH ∧
    r.reL = t.rev.tracker.reL
  flags : r.fitInvalid = t.rev.fitInvalid ∧ r.rpNotReached = t.rev.rpNotReached ∧ r.nominalE = t.rev.nominalE ∧
    r.saturated = t.rev.saturated

/-- The items of R186, the head of the hand-out order on the record port only; outside CAPTURING the level is 0 (R178). What the
sequencer port gets with no test in progress is the model's choice (log entry 34). -/
structure CaptureItems (p : Port) (s : State) (r : CaptureReport) : Prop where
  counts : r.free = 128 - s.cps.full.length - fillingCount s.cps ∧ r.fullCount = s.cps.full.length
  head : r.head = if p = .record then s.cps.full.head?.map (fun x => (x.serial, x.index)) else none
  idle : s.cps.capture = none → r.capturing = none ∧ r.level = 0
  capturing : ∀ c ∈ s.cps.capture, ∀ t ∈ s.tex.test, r.level = c.level ∧
    r.capturing = some
      { factor := t.plan.divisor * 2 ^ c.level, taken := c.taken, stored := c.stored, thinned := c.thinned, lost := c.lost,
        lossRun := c.lossRun, fillingCount := c.filling.map (·.entries.length) }

/-- The READ STATUS items of a port, chapter by chapter: R8, R66 to R68, R85, R90, R108, R129, R131, R146, R186, R188, R205, R207,
R210. -/
structure StatusItems (p : Port) (s : State) (v : StatusReport) : Prop where
  slot : v.slot = s.spt.slot.map (·.state)
  frame : v.locked = s.xhc.locked ∧ v.referenceValid = s.xhc.referenceValid ∧ v.drive = s.xhc.drive
  claim : v.holder = s.mar.holder ∧ v.waiter = s.mar.waiter
  request : (p = .record → v.request = none) ∧ (p ≠ .record → ∃ q, v.request = some q ∧ RequestItem p s q)
  test : TestItems s v.test
  events : v.events = if p = .sequencer then some (s.tex.test.map fun t => (t.events.length, t.dropped)) else none
  loop : v.loop =
    if p = .sequencer then
      some { mode := s.rlp.mode, rate := s.rlp.rate, seed := s.rlp.seed,
             target := s.rlp.target.map fun x => roundNearest x 1000000, setPoint := s.rlp.setPoint }
    else none
  evaluation : (p ≠ .sequencer → v.evaluation = none) ∧
    (p = .sequencer → (s.tex.test = none → v.evaluation = some none) ∧
      ∀ t ∈ s.tex.test, ∃ e, v.evaluation = some (some e) ∧ EvaluationItems t e)
  capture : (p = .cell → v.capture = none) ∧ (p ≠ .cell → ∃ c, v.capture = some c ∧ CaptureItems p s c)
  results : v.results =
    if p = .record then
      some { count := s.rsl.results.length, reserved := s.rsl.reserved,
             head := s.rsl.results.head?.map fun x => (x.serial, x.closure) }
    else none
  notices : v.enables = (s.portOf p).enables ∧ v.promoted = (s.portOf p).promoted
  faults : v.faults =
    if p = .sequencer then
      some (s.pif.faults,
        { equipmentCheck := false, calVerify := false, extSlip := false,
          hardLimit := s.pif.faults.hardLimit && (s.inputs.upperLimit || s.inputs.lowerLimit),
          overload := s.pif.faults.overload && s.ldc.overload, loadFault := s.pif.faults.loadFault && s.ldc.loadFault })
    else none
  calibration : v.calInFlight = s.cal.inFlight.map (·.range)

/-- The first pending kind of a port (R205): the promoted kind while it is enabled and pending, else the first such flag in the
port's order, and none while no enabled flag is pending. -/
structure FirstPending (p : Port) (s : State) (n : Option Notice) : Prop where
  promoted : ∀ m ∈ (s.portOf p).promoted, m ∈ (s.portOf p).enables → s.flag p m ≠ .clear → n = some m
  first : (∀ m ∈ (s.portOf p).promoted, m ∈ (s.portOf p).enables → s.flag p m = .clear) →
    n = (noticesOf p).find? fun m => (s.portOf p).enables.contains m && s.flag p m != .clear

/-! ### Motions (R69, R90, R94, R98) -/

/-- A port can have a motion start at once (R91, R94): it holds the claim, nothing is queued or active, its completion slot is EMPTY,
and neither the emergency stop nor the gate nor a load fault stands against motion. -/
structure ReadyFor (p : Port) (s : State) : Prop where
  holder : s.mar.holder = some p
  queue : s.mar.queue = []
  active : s.mar.active = none
  slot : s.mar.slot p = none
  estop : s.inputs.estop = false
  gate : s.inputs.gateOpen = false
  loadFault : s.ldc.loadFault = false

/-- No hard-limit switch is active (R80). -/
def LimitsClear (s : State) : Prop :=
  s.inputs.upperLimit = false ∧ s.inputs.lowerLimit = false

/-- The hard-limit switch in a direction is active (R80, R81). -/
def limitAhead (i : Inputs) : Direction → Prop
  | .up => i.upperLimit = true
  | .down => i.lowerLimit = true

/-- The completion record of a motion that ends in a state with an outcome (R98); its final position is the position counter when
the reference is VALID (R69). -/
def ended (k : MotionKind) (tag : Tag) (o : MotionOutcome) (s : State) : Completion :=
  { kind := k, tag := tag, outcome := o, reason := none,
    position := if s.xhc.referenceValid then some s.xhc.position else none, serial := none }

/-- The crosshead controller after the end of a motion, for a hold time other than 0: the zero word, HOLDING with the hold timer
started (R69). -/
def holdingDrive (x : Crosshead) : Crosshead :=
  { x with word := 0, drive := .holding, brakeTimer := none, holdTimer := some x.config.holdTime, jogTimer := none }

/-- The crosshead controller with the drive disabled at once: the zero word, every drive timer stopped (R81, R83). -/
def disabledDrive (x : Crosshead) : Crosshead :=
  { x with word := 0, drive := .disabled, brakeTimer := none, holdTimer := none, jogTimer := none }

/-- The crosshead controller as a motion activated in DISABLED starts it: RELEASING, the brake release timer started (R69). -/
def releasingDrive (x : Crosshead) : Crosshead :=
  { x with drive := .releasing, brakeTimer := some x.config.brakeTime }

/-- The crosshead controller as a motion starts it (R69): from DISABLED through RELEASING, from HOLDING in MOVING at once, the hold
timer stopped. -/
def startedDrive (x : Crosshead) : Crosshead :=
  if x.drive = .disabled then releasingDrive x else { x with drive := .moving, holdTimer := none }

/-- The crosshead controller as a jog starts it: in MOVING at once its duration timer starts with it (R69, R77). -/
def startedJog (duration : Int) (x : Crosshead) : Crosshead :=
  if x.drive = .disabled then releasingDrive x else { x with drive := .moving, holdTimer := none, jogTimer := some duration }

/-- The phase of a search as it starts: it is chosen by the reference switch when the drive enters MOVING, at once from HOLDING (R69,
R71). -/
def startedSearch (s : State) : SearchPhase :=
  if s.xhc.drive = .disabled then .waiting else if s.inputs.referenceSwitch then .upward else .downward

/-- A queued request is eligible (R94): a RETRACT, or any request of the claim's holder; only a JOG while the load-fault state is
active. -/
def Eligible (s : State) (rq : MotionRequest) : Prop :=
  (rq.job = .retract ∨ s.mar.holder = some rq.port) ∧ (s.ldc.loadFault = true → ∃ d v n, rq.job = .jog d v n)

/-- The state in which a request taken for activation has ended at once (R95, R98): it has left the queue, its completion is
filed, and MOTION_DONE is raised to its port. -/
def endedAtOnce (rq : MotionRequest) (rest : List MotionRequest) (o : MotionOutcome) (reason : Option Reason) (s : State) :
    State :=
  raise rq.port .motionDone
    { s with
      mar := Arbiter.setSlot { s.mar with queue := rest } rq.port
        (some
          { kind := jobKind rq.job, tag := rq.tag, outcome := o, reason := reason,
            position := if s.xhc.referenceValid then some s.xhc.position else none, serial := none }) }

/-- The capture store with the EVENT mark pending (R177). -/
def eventMarked (c : CaptureStore) : CaptureStore :=
  { c with capture := c.capture.map fun x => { x with pendingEvent := true } }

/-! ### A sample arrival in a test (R24, R108) -/

/-- A code can arrive in a test in progress: the test runs on the slot's specimen and is the sequencer's active motion, nothing is
queued behind it, and the conversion in flight has had its strobe (R20). -/
structure ArrivalInTest (s : State) (t : TestContext) (m : MountedSpecimen) (b : StrainBasis) (range : LoadRange) (l : Latch) :
    Prop where
  test : s.tex.test = some t
  slot : s.spt.slot = some m
  testing : m.state = .testing
  basis : s.exc.basis = some b
  active : ∃ tag, s.mar.active = some { port := .sequencer, tag := tag, job := .test }
  queue : s.mar.queue = []
  conversion : s.ldc.conversion = some { range := range, latch := some l }

/-- The net force of a code on a range (R26, R27). -/
def netForce (s : State) (range : LoadRange) (code : Int) : Int :=
  clampTo (-2000000) 2000000 (grossForce (s.ldc.active.get range).points code - s.ldc.tare)

/-- The sample of a code is a good one: valid, the settling over and the code within the converter's span (R31, R32), and not
overloaded (R36). -/
structure GoodSample (s : State) (range : LoadRange) (code : Int) : Prop where
  settled : s.ldc.settle = 0
  span : -8000000 < code ∧ code < 8000000
  load : (netForce s range code).natAbs * 100 ≤ s.xhc.config.fcap * 105

/-- The fracture criterion does not hold on a valid sample of this force (R124): the test peak with the sample included is absent or
below the floor, or the force has not fallen below its fraction of the peak. -/
def Unbroken (s : State) (p : Plan) (force : Int) : Prop :=
  ∀ fm : Int,
    (fm = force ∧ ∀ k ∈ s.ldc.peak, k.force < force) ∨ (∃ k, s.ldc.peak = some k ∧ force ≤ k.force ∧ fm = k.force) →
    fm < p.fractureFloor ∨ fm * p.fractureFraction ≤ force * 100

/-- The event list with room for whatever one sample can enter (R129). -/
def HasRoom (t : TestContext) : Prop :=
  t.events.length ≤ 12

/-- The end condition of a stage entry is met on a sample (R116), with the yield tracker's state and the handover mark as the evaluator
and the extensometer channel leave them at that sample. -/
def EndReached (x : StageRun) (d : StageDef) (y : SampleSet) (tracker : TrackerState) (handoverMark : Bool) : Prop :=
  match d.endKind with
  | .strainGe => d.endValue.getD 0 ≤ y.strain
  | .forceGe => d.endValue.getD 0 ≤ y.force
  | .stressGe => d.endValue.getD 0 ≤ y.stress.getD 0
  | .yieldEnd => tracker = .ended
  | .handover => handoverMark = true
  | .timeGe => d.endValue.getD 0 * 1000 ≤ x.elapsed
  | .never => False

/-- An arrival as the test executive takes it: after the works of the load channel, the extensometer channel and the result evaluator
(R24). -/
def arrivalForExecutive (code : Int) (range : LoadRange) (l : Latch) (s : State) : Arrival :=
  evaluateArrival (formHandover (updatePeak (formStrain (stepUp (overloadCheck (beginArrival code range l s))))))

/-- The stage an end or a timeout leads to (R104, R117): the one its successor names, if the plan has it. -/
def successorStage (p : Plan) (x : StageRun) (d : StageDef) : Option (Nat × StageDef) :=
  let j := match d.successor with | .stage i => i | .next => x.index + 1
  if j = 0 then none else p.stages[j - 1]?.map fun e => (j, e)

/-- The stage goes on at a sample, no stage being entered there (R117, R118): neither its end condition nor its timeout comes about, or
the successor lies beyond the last stage. -/
def StageGoesOn (p : Plan) (x : StageRun) (d : StageDef) (y : SampleSet) (tracker : TrackerState) (handoverMark : Bool) : Prop :=
  successorStage p x d = none ∨
    ¬ (x.endLogged = false ∧ EndReached x d y tracker handoverMark) ∧
    ¬ (d.timeoutMs ≠ 0 ∧ x.timeoutLogged = false ∧ d.timeoutMs * 1000 ≤ x.elapsed)

/-- A stage as it is entered (R115). -/
def enteredStage (j : Nat) (e : StageDef) : StageRun :=
  { index := j, rate := e.rate, elapsed := 0, endLogged := false, timeoutLogged := false }

/-! ### A sample arrival in another motion (R70, R75) -/

/-- The profile value of a move at distance `d` from its working target, outside the band (R75): at its speed, within the approach
distance at no more than the creep rate, in the direction of `d`. -/
def profileAt (c : FrameConfig) (speed d : Int) : Int :=
  (if (d.natAbs : Int) ≤ c.approach then min c.creepRate speed else speed) * (if 0 < d then 1000 else -1000)

/-- The word sent for a base value that points at no soft limit reached (R70). -/
def wordFor (s : State) (port : Port) (base : Int) : Int :=
  if s.inputs.estop = true ∨ (0 < base ∧ s.inputs.upperLimit = true) ∨ (base < 0 ∧ s.inputs.lowerLimit = true) ∨
      (s.inputs.gateOpen = true ∧ port ≠ .cell) then 0
  else if s.inputs.gateOpen = true then clampTo (-(s.xhc.config.jogLimit * 1000)) (s.xhc.config.jogLimit * 1000) base
  else base

/-! ### The rate loop on a sample (R134 to R140) -/

/-- The new target on a computing sample (R135 to R137), for a mode with a measured quantity of value `y`: seeded from the sample
while the seed is PENDING, else one advance on, within ±10^15. -/
def nextTarget (r : RateLoop) (rate ts y : Int) : Int :=
  if r.seed = .pending then y * 1000000
  else clampTo (-1000000000000000) 1000000000000000 (r.target.getD 0 + rate * ts)

/-- The set-point of an exact sum `num / den` (R140): truncated toward zero, once, and clamped to 0..vmax × 1000. -/
def setPointOf (vmax num den : Int) : Int :=
  clampTo 0 (vmax * 1000) (num.tdiv den)

/-- The rate loop after it has computed on a sample of this strain and stress (R134 to R140). -/
structure LoopComputed (c : FrameConfig) (p : Plan) (lc strain stress rate : Int) (r r' : RateLoop) : Prop where
  kept : r'.mode = r.mode ∧ r'.rate = r.rate ∧ r'.seed = .seeded
  xhRate : r.mode = .xhRate → r.target = none → r'.target = none ∧ r'.setPoint = setPointOf c.vmax (rate * 1000) 1
  strainRate : r.mode = .strainRate → r.seed = .pending ∨ r.target ≠ none → ∀ y, y = nextTarget r rate c.sampleInterval strain →
    r'.target = some y ∧
    r'.setPoint = setPointOf c.vmax
      (rate * lc * (256 * c.sampleInterval) + (y - strain * 1000000) * lc * p.kc) (256 * c.sampleInterval * 1000)
  stressRate : r.mode = .stressRate → r.seed = .pending ∨ r.target ≠ none → ∀ y, y = nextTarget r rate c.sampleInterval stress →
    r'.target = some y ∧
    r'.setPoint = setPointOf c.vmax
      (rate * lc * 100 * (256 * c.sampleInterval * 1000) + (y - stress * 1000000) * 100000 * lc * p.kc)
      (p.eNom * (256 * c.sampleInterval * 1000))
  hold : r.mode = .hold → r.target = none → r'.target = none ∧ r'.setPoint = 0

/-! ### The result evaluator (R147 to R163) -/

/-- The modulus fit on an evaluated sample (R150 to R155): it opens at the first sample with source EXT that is not above the
window, admits the samples inside it, and closes on stress, VALID or INVALID, where the search leaves WAITING. -/
structure FitEvaluates (p : Plan) (x : SamplePoint) (v v' : Evaluation) : Prop where
  unopened : v.fit.state = .notStarted → p.fitHigh < x.stress →
    v'.fit = { v.fit with state := .notFitted } ∧ v'.search = { v.search with state := .notRun } ∧ v'.fitInvalid = v.fitInvalid
  waiting : v.fit.state = .notStarted → x.stress ≤ p.fitHigh → x.source ≠ .ext → v'.fit = v.fit
  admitted : v.fit.state = .notStarted ∨ v.fit.state = .opened → x.source = .ext → p.fitLow ≤ x.stress →
    x.stress ≤ p.fitHigh →
    v'.fit =
      { v.fit with
        state := .opened, n := v.fit.n + 1, sumX := v.fit.sumX + x.strain, sumY := v.fit.sumY + x.stress,
        sumXX := v.fit.sumXX + x.strain * x.strain, sumXY := v.fit.sumXY + x.strain * x.stress }
  outside : v.fit.state = .notStarted ∨ v.fit.state = .opened → x.source = .ext → x.stress < p.fitLow →
    x.stress ≤ p.fitHigh → v'.fit = { v.fit with state := .opened }
  other : v.fit.state = .opened → x.source ≠ .ext → x.stress ≤ p.fitHigh → v'.fit = v.fit
  closed : v.fit.state = .opened → v.search.state = .waiting → p.fitHigh < x.stress → ∀ num den e : Int,
    num = v.fit.n * v.fit.sumXY - v.fit.sumX * v.fit.sumY → den = v.fit.n * v.fit.sumXX - v.fit.sumX * v.fit.sumX →
    e = roundNearest (num * 100000) den →
    (8 ≤ v.fit.n ∧ 0 < den ∧ 20000 ≤ e ∧ e ≤ 400000 →
      v'.fit =
        { v.fit with
          state := .valid, e := some e,
          eps0 := some (roundNearest (v.fit.sumX * e - v.fit.sumY * 100000) (v.fit.n * e)) } ∧
      v'.search.state = .searching ∧ v'.search.previous = none) ∧
    (¬ (8 ≤ v.fit.n ∧ 0 < den ∧ 20000 ≤ e ∧ e ≤ 400000) →
      v'.fit = { v.fit with state := .invalid, e := none, eps0 := none } ∧ v'.fitInvalid = true ∧ v'.search.state = .notRun)
  final : v.fit.state ≠ .notStarted → v.fit.state ≠ .opened → v'.fit = v.fit

/-- The offset-yield search on an evaluated sample while it is SEARCHING (R155 to R157): a sample with source EXT and distance D
above 0 becomes the previous searched sample, and at D of 0 or below Rp is found, interpolated from the sample before. -/
structure SearchEvaluates (p : Plan) (x : SamplePoint) (v v' : Evaluation) : Prop where
  searched : v.fit.state = .valid → v.search.state = .searching → x.source = .ext → ∀ e eps0 d : Int, v.fit.e = some e →
    v.fit.eps0 = some eps0 →
    d = x.stress * 100000 - e * (x.strain - eps0 - p.rpOffset) →
    (0 < d → v'.search = { v.search with previous := some (x.stress, d) }) ∧
    (d ≤ 0 → v'.search.state = .found ∧
      v'.search.rp = some
        (match v.search.previous with
         | none => { num := x.stress, den := 1 }
         | some (y, d0) => { num := y * (d0 - d) + (x.stress - y) * d0, den := d0 - d }))
  other : v.fit.state = .valid → v.search.state = .searching → x.source ≠ .ext → v'.search = v.search

/-- The yield tracker on an evaluated sample (R160 to R163); `found`: the search became FOUND at it. -/
structure TrackerEvaluates (p : Plan) (found : Prop) (x : SamplePoint) (t t' : YieldTracker) : Prop where
  limit : t.state = .rising → p.yieldLimit ≤ x.strain → t' = { t with state := .ended }
  drop : t.state = .rising → x.strain < p.yieldLimit → ∀ m, t.sigmaMax = some m → 0 < m →
    x.stress * 1000 < m * (1000 - p.yieldDrop) → t' = { t with state := .inPhase, reH := some m, reL := some x.stress }
  noDrop : t.state = .rising → x.strain < p.yieldLimit →
    (∀ m ∈ t.sigmaMax, m ≤ 0 ∨ m * (1000 - p.yieldDrop) ≤ x.stress * 1000) →
    (found → t' = { t with state := .ended }) ∧
    (¬ found → t' = { t with sigmaMax := some (match t.sigmaMax with | none => x.stress | some m => max m x.stress) })
  ends : t.state = .inPhase → ∀ h, t.reH = some h → h < x.stress ∨ p.yieldLimit ≤ x.strain →
    t' = { t with state := .ended }
  phase : t.state = .inPhase → ∀ h y, t.reH = some h → t.reL = some y → x.stress ≤ h → x.strain < p.yieldLimit →
    t' = { t with reL := some (min y x.stress) }
  ended : t.state = .ended → t' = t

/-! ### The verdict (R197, R198) -/

/-- How a checked field with these bounds and this value fails (R198). -/
def Fails (lo hi value : Option Int) : FieldFailure → Prop
  | .absent => value = none ∧ (lo ≠ none ∨ hi ≠ none)
  | .low => ∃ v b, value = some v ∧ lo = some b ∧ v < b
  | .high => ∃ v b, value = some v ∧ hi = some b ∧ b < v ∧ ∀ c ∈ lo, c ≤ v

/-- The bounds of a checked field (R194). -/
def fieldBounds (l : GradeLimits) : CheckedField → Option Int × Option Int
  | .yield => (l.yieldMin, l.yieldMax)
  | .rm => (l.rmMin, l.rmMax)
  | .a => (l.aMin, none)
  | .ratio => (none, l.ratioMax)

/-- The value of a checked field in a record; the yield value is the one its yield used names (R197). -/
def fieldValue (r : ResultRecord) : CheckedField → Option Int
  | .yield =>
    match r.yieldUsed with
    | some .reH => r.results.reH
    | some .rp => r.results.rp
    | none => none
  | .rm => r.results.rm
  | .a => r.results.a
  | .ratio => r.ratio

/-- A record carries the yield used and the ratio of R197 and the verdict and failing-field list of R198 for its grade's entry. -/
structure Judged (limits : Option GradeLimits) (r : ResultRecord) : Prop where
  yieldUsed : r.yieldUsed = if r.results.reH ≠ none then some .reH else if r.results.rp ≠ none then some .rp else none
  ratio : ∀ y rm, fieldValue r .yield = some y → r.results.rm = some rm → 0 < rm →
    r.ratio = some (roundNearest (y * 1000) rm)
  noRatio : fieldValue r .yield = none ∨ (∀ rm ∈ r.results.rm, rm ≤ 0) → r.ratio = none
  notChecked : limits = none ∨ r.closure ≠ .complete → r.verdict = .notChecked ∧ r.failing = []
  listed : ∀ l, limits = some l → r.closure = .complete → ∀ f k,
    (f, k) ∈ r.failing ↔ Fails (fieldBounds l f).1 (fieldBounds l f).2 (fieldValue r f) k
  order : (r.failing.map (·.1)).Sublist [.yield, .rm, .a, .ratio]
  verdict : ∀ l, limits = some l → r.closure = .complete →
    r.verdict =
      if r.failing.any (fun x => x.2 = .absent) then .incomplete
      else if r.failing.any (fun x => x.2 = .low) then .low
      else if r.failing.any (fun x => x.2 = .high) then .high
      else .conforms

/-! ### One test (R108, R111, R128) -/

/-- The slot's specimen is TESTING (R8). -/
def slotTesting (s : State) : Bool :=
  match s.spt.slot with
  | some m => m.state == .testing
  | none => false

/-- At most one test is in progress, and every block takes part in the same one: the active motion is a test (R108, R128), the slot
is TESTING (R16), the results list keeps a place (R189) and the capture store is CAPTURING (R176) exactly while a test is in
progress; the loop is at rest otherwise (R131); the test's serial is the serial counter's (R109) and the capture's (R176), and its
specimen is the slot's (R108). -/
structure OneTest (s : State) : Prop where
  active : testIsActive s = s.tex.test.isSome
  slot : slotTesting s = s.tex.test.isSome
  reserved : s.rsl.reserved = s.tex.test.isSome
  capturing : s.cps.capture.isSome = s.tex.test.isSome
  loop : s.tex.test = none → s.rlp = idleLoop
  serial : ∀ t ∈ s.tex.test, t.serial = s.tex.serial
  captured : ∀ t ∈ s.tex.test, ∀ c ∈ s.cps.capture, c.serial = t.serial
  specimen : ∀ t ∈ s.tex.test, ∀ m ∈ s.spt.slot, m.specimen.id = t.specimenId

/-! ### The claim and the motion requests (R85, R90, R91) -/

/-- A port is motion-capable: sequencer or cell (R85). -/
def motionPort (p : Port) : Bool :=
  p != .record

/-- The claim (R85): holder and waiter are motion-capable ports, and a waiter waits behind another holder. -/
structure ClaimOrdered (s : State) : Prop where
  holder : ∀ p ∈ s.mar.holder, motionPort p
  waiter : ∀ p ∈ s.mar.waiter, motionPort p ∧ s.mar.holder ≠ none ∧ s.mar.holder ≠ some p

/-- Motion requests (R90): each belongs to a motion-capable port, and a port has at most one among the queue, the active motion and
its completion slot. A queued request other than a RETRACT is the holder's or the waiter's (R88, R89), and an active motion other
than a RETRACT is the holder's (R87, R94). -/
structure OneRequestPerPort (s : State) : Prop where
  ports : ∀ rq ∈ s.mar.queue, motionPort rq.port
  once : (s.mar.queue.map fun rq => rq.port).Nodup
  activePort : ∀ a ∈ s.mar.active, motionPort a.port ∧ ∀ rq ∈ s.mar.queue, rq.port ≠ a.port
  queuedSlot : ∀ rq ∈ s.mar.queue, s.mar.slot rq.port = none
  activeSlot : ∀ a ∈ s.mar.active, s.mar.slot a.port = none
  queuedClaim : ∀ rq ∈ s.mar.queue, rq.job = .retract ∨ s.mar.holder = some rq.port ∨ s.mar.waiter = some rq.port
  activeClaim : ∀ a ∈ s.mar.active, activeKind a.job = .retract ∨ s.mar.holder = some a.port
  retract : ∀ rq ∈ s.mar.queue, rq.job = .retract → rq.port = .cell
  start : ∀ rq ∈ s.mar.queue, rq.job = .startTest → rq.port = .sequencer

/-! ### The drive (R68, R69, R70) -/

/-- The drive (R68, R69): RELEASING or MOVING exactly while a motion is active; the brake timer runs in RELEASING alone, the hold
timer in HOLDING alone, the jog timer in MOVING only; a word other than 0 is in force only while MOVING. -/
structure DriveSound (s : State) : Prop where
  active : s.mar.active.isSome = (s.xhc.drive == .releasing || s.xhc.drive == .moving)
  brake : s.xhc.brakeTimer.isSome = (s.xhc.drive == .releasing)
  hold : s.xhc.holdTimer.isSome = (s.xhc.drive == .holding)
  jog : s.xhc.jogTimer.isSome = true → s.xhc.drive = .moving
  word : s.xhc.word ≠ 0 → s.xhc.drive = .moving

/-- The emergency stop (R83): while it is asserted the drive is DISABLED, no motion is active or queued, no test is in progress and
the word is 0. -/
def EstopHolds (s : State) : Prop :=
  s.inputs.estop = true →
    s.xhc.drive = .disabled ∧ s.mar.active = none ∧ s.mar.queue = [] ∧ s.tex.test = none ∧ s.xhc.word = 0

/-- The word in force is one that R70 and R79 allow: with the gate open it is 0 or a cell motion's within the jog limit, it never
points at an active hard-limit switch, and with the reference VALID never at a soft limit the position has reached. -/
structure WordAllowed (s : State) : Prop where
  gate : s.inputs.gateOpen = true →
    s.xhc.word = 0 ∨ (cellMotion s = true ∧ (s.xhc.word.natAbs : Int) ≤ s.xhc.config.jogLimit * 1000)
  upperSwitch : s.inputs.upperLimit = true → s.xhc.word ≤ 0
  lowerSwitch : s.inputs.lowerLimit = true → 0 ≤ s.xhc.word
  upperSoft : s.xhc.referenceValid = true → s.xhc.config.upperSoft ≤ s.xhc.position → s.xhc.word ≤ 0
  lowerSoft : s.xhc.referenceValid = true → s.xhc.position ≤ s.xhc.config.lowerSoft → 0 ≤ s.xhc.word

/-! ### The frame configuration and the position (R64 to R67) -/

/-- The frame configuration keeps the ranges of R64 and those conditions across fields that no other store takes part in; the sample
timer runs at its interval (R19). -/
structure ConfigSound (s : State) : Prop where
  interval : s.xhc.config.sampleInterval = 250 ∨ s.xhc.config.sampleInterval = 500 ∨ s.xhc.config.sampleInterval = 1000 ∨
    s.xhc.config.sampleInterval = 2000 ∨ s.xhc.config.sampleInterval = 4000
  timer : s.ldc.sampleInterval = s.xhc.config.sampleInterval
  fcap : 10000 ≤ s.xhc.config.fcap ∧ s.xhc.config.fcap ≤ 1200000
  lower : 0 ≤ s.xhc.config.lowerSoft ∧ s.xhc.config.lowerSoft < s.xhc.config.upperSoft
  upper : s.xhc.config.upperSoft ≤ 1200000
  referencePosition : 0 ≤ s.xhc.config.referencePosition ∧ s.xhc.config.referencePosition ≤ 1200000
  searchRate : 100 ≤ s.xhc.config.searchRate ∧ s.xhc.config.searchRate ≤ 20000
  searchLimit : 1000 ≤ s.xhc.config.searchLimit ∧ s.xhc.config.searchLimit ≤ 2000000
  vmax : s.xhc.config.vmax ≤ 20000
  jogLimit : 1 ≤ s.xhc.config.jogLimit ∧ s.xhc.config.jogLimit ≤ 5000 ∧ s.xhc.config.jogLimit ≤ s.xhc.config.vmax
  creepRate : 1 ≤ s.xhc.config.creepRate ∧ s.xhc.config.creepRate ≤ 2000
  approach : 0 ≤ s.xhc.config.approach ∧ s.xhc.config.approach ≤ 50000
  band : 1 ≤ s.xhc.config.band ∧ s.xhc.config.band ≤ 500
  holdTime : 0 ≤ s.xhc.config.holdTime ∧ s.xhc.config.holdTime ≤ 60000
  brakeTime : 10 ≤ s.xhc.config.brakeTime ∧ s.xhc.config.brakeTime ≤ 2000
  retract : s.xhc.config.lowerSoft ≤ s.xhc.config.retractPosition ∧ s.xhc.config.retractPosition ≤ s.xhc.config.upperSoft

/-- The position counter keeps its bound (R67), and a VALID reference goes with a locked configuration (R66, R72). -/
structure PositionSound (s : State) : Prop where
  bound : -2000000 ≤ s.xhc.position ∧ s.xhc.position ≤ 2000000
  locked : s.xhc.referenceValid = true → s.xhc.locked = true

/-! ### The extensometer's timers (R50, R56, R61, R62) -/

/-- The test is in TAIL (R108). -/
def tailPhase (s : State) : Prop :=
  ∃ n, s.phase = some (.tail n)

/-- The placement timer runs in PLACE_REQUESTED alone and the removal timer in REMOVE_REQUESTED or FAULT alone (R50, R56), both in
a test before its fracture only (R61, R62). -/
structure TimersSound (s : State) : Prop where
  placement : s.exc.placement ≠ none → s.exc.state = .placeRequested
  removal : s.exc.removal ≠ none → s.exc.state = .removeRequested ∨ s.exc.state = .fault
  running : s.exc.placement ≠ none ∨ s.exc.removal ≠ none → s.tex.test ≠ none ∧ ¬ tailPhase s

/-! ### Plans and the set-point (R105, R107, R133, R140) -/

/-- Every defined plan keeps the ranges of R103 and R104; the test in progress runs on its plan as defined (R105), whose bounds on
the frame it keeps (R107). -/
structure PlansSound (s : State) : Prop where
  defined : ∀ i : Fin 8, ∀ p ∈ s.tex.plans[i], planForm p = true
  running : ∀ t ∈ s.tex.test, s.tex.plans[t.planId] = some t.plan ∧ planFitsFrame s.xhc.config t.plan = true

/-- The rate loop's set-point lies in 0..vmax × 1000 (R133, R140). -/
def SetPointBounded (s : State) : Prop :=
  0 ≤ s.rlp.setPoint ∧ s.rlp.setPoint ≤ s.xhc.config.vmax * 1000

/-! ### Stores of limited size (1.7) -/

/-- The specimens (R3, R4): at most 16 queued, RETURNED before RUSH before NORMAL, and no identifier twice among the queue and the
slot. -/
structure SpecimensOrdered (s : State) : Prop where
  count : s.spt.queue.length ≤ 16
  bands : s.spt.queue.Pairwise fun x y =>
    x.band = .returned ∨ (x.band = .rush ∧ y.band ≠ .returned) ∨ (x.band = .normal ∧ y.band = .normal)
  distinct : (s.spt.queue.map fun x => x.specimen.id).Nodup
  slot : ∀ m ∈ s.spt.slot, ∀ x ∈ s.spt.queue, x.specimen.id ≠ m.specimen.id

/-- The results list has at most 8 records, the place kept for a running test counted (R188, R189). -/
def ResultsFit (s : State) : Prop :=
  s.rsl.results.length + (if s.rsl.reserved then 1 else 0) ≤ 8

/-- The capture store (R173, R180 to R183): FULL and FILLING pages are at most 128, no page holds more than 256 entries, a FILLING
page fewer; every taken sample was stored, thinned or lost; and the level is the one the free count gives (R178). -/
structure CaptureSound (s : State) : Prop where
  pages : s.cps.full.length + fillingCount s.cps ≤ 128
  entries : ∀ p ∈ s.cps.full, p.entries.length ≤ 256
  filling : ∀ c ∈ s.cps.capture, ∀ p ∈ c.filling, p.entries.length < 256
  counters : ∀ c ∈ s.cps.capture, c.taken = c.stored + c.thinned + c.lost
  level : ∀ c ∈ s.cps.capture, c.level = levelOf (freeCount s.cps)

/-- The event list of a test has at most 24 entries and its dropped count at most 65,535 (R129). -/
def EventsFit (s : State) : Prop :=
  ∀ t ∈ s.tex.test, t.events.length ≤ 24 ∧ t.dropped ≤ 65535

/-- The miss count is at most 4 (R21). -/
def MissCountBounded (s : State) : Prop :=
  s.ldc.missCount ≤ 4

/-- The port interface: each port has its own flags, in its order (R203), its enable set holds flags of the port, and its promoted
kind is NONE or enabled (R205). -/
structure PortsSound (s : State) : Prop where
  flags : ∀ p : Port, (s.portOf p).flags.map (fun e => e.1) = noticesOf p
  enables : ∀ p : Port, ∀ n ∈ (s.portOf p).enables, n ∈ noticesOf p
  promoted : ∀ p : Port, ∀ n ∈ (s.portOf p).promoted, n ∈ (s.portOf p).enables

end Sys2Proof.Machine
end

