-- ==== Sys2Proof/WellFormed.lean ====
section
/-! DEFINITION. Which commands can come in over the T48's lines: operands that fit their fields on the wire (R214) and raw codes in
the converter's range (1.6). -/

namespace Sys2Proof

/-- The number fits four signed bytes (R214). -/
def numberFits (x : Int) : Bool :=
  Machine.fitsNumber x

/-- An optional number fits. -/
def optionalFits (x : Option Int) : Bool :=
  Machine.optAll x numberFits

/-- A string's length fits its length byte (R214). -/
def textFits (t : Text) : Bool :=
  t.length ≤ 255

/-- A list's length fits its count byte, and its entries fit (R214). -/
def listFits {α : Type} (entry : α → Bool) (l : List α) : Bool :=
  l.length ≤ 255 && l.all entry

/-- The fields of an ENQUEUE SPECIMEN fit. -/
def SpecimenParams.fits (p : SpecimenParams) : Bool :=
  textFits p.id && textFits p.heat && textFits p.retestOf && numberFits p.grade && numberFits p.lc && numberFits p.plan &&
  [p.width, p.thickness, p.diameter, p.le].all optionalFits

/-- The fields of a CONFIGURE FRAME fit. -/
def FrameUpdate.fits (u : FrameUpdate) : Bool :=
  [u.sampleInterval, u.fcap, u.lowerSoft, u.upperSoft, u.referencePosition, u.searchRate, u.searchLimit, u.vmax, u.jogLimit,
   u.creepRate, u.approach, u.band, u.holdTime, u.brakeTime, u.retractPosition].all optionalFits

/-- A stage's successor has a code: an index 1..8, or NEXT (R104). -/
def Successor.coded : Successor → Bool
  | .stage i => 1 ≤ i && i ≤ 8
  | .next => true

/-- The fields of a stage fit. -/
def StageDef.fits (d : StageDef) : Bool :=
  numberFits d.rate && optionalFits d.endValue && d.successor.coded && numberFits d.timeoutMs

/-- The general fields of a DEFINE PLAN fit. -/
def PlanUpdate.fits (g : PlanUpdate) : Bool :=
  [g.preloadForce, g.preloadRate, g.placementTimeout, g.removalStrain, g.removalDrop, g.removalTimeout, g.slipThreshold,
   g.rpOffset, g.fitLow, g.fitHigh, g.eNom, g.yieldDrop, g.yieldLimit, g.fractureFraction, g.fractureFloor, g.tailSamples,
   g.divisor, g.initialRange, g.settleSamples, g.kc, g.stressRes, g.strainRes].all optionalFits

/-- The bounds of a SET GRADE LIMITS fit. -/
def GradeLimits.fits (l : GradeLimits) : Bool :=
  [l.yieldMin, l.yieldMax, l.rmMin, l.rmMax, l.aMin, l.ratioMax].all optionalFits

/-- A calibration point fits. -/
def CalPoint.fits (q : CalPoint) : Bool :=
  numberFits q.code && numberFits q.force

/-- A raw code lies in the converter's range (1.6). -/
def rawCodeFits (code : Int) : Bool :=
  -8388608 ≤ code && code ≤ 8388607

/-- The bytes are those of a transaction that R200 takes nothing from. -/
def notTaken (bytes : List Byte) : Bool :=
  match bytes with
  | [] => true
  | form :: rest => if form = 1 then rest.length < 5 else form != 2

/-- Every operand of a command fits its field. -/
def operandsFit : Instr → Bool
  | .configureFrame _ u => u.fits
  | .setRange _ x | .readPlan _ x | .adjustRate _ x | .readGradeLimits _ x => numberFits x
  | .definePlan _ id g l => numberFits id && g.fits && listFits StageDef.fits l
  | .moveTo _ target speed => numberFits target && numberFits speed
  | .jog _ _ speed duration => numberFits speed && numberFits duration
  | .specimenMounted _ id w t d => textFits id && [w, t, d].all optionalFits
  | .enqueueSpecimen _ p => p.fits
  | .cancelSpecimen _ id => textFits id
  | .setGradeLimits _ grade l => numberFits grade && (match l with | some x => x.fits | none => true)
  | .writeSiteCalibration _ _ range l => numberFits range && listFits CalPoint.fits l
  | .calProgrammingCompletion l => l.all CalPoint.fits
  | .unknownRequest _ _ kind => (kindOfCode kind).isNone
  | .writeNotTaken _ bytes => notTaken bytes
  | .sampleArrival code | .stageTimeout code | .endOfTail code => rawCodeFits code
  | .readStatus _ | .readLive _ | .readFlags _ | .ackFlags _ _ | .setNotices _ _ _ | .readQueue _ | .nop _ | .tare _
  | .clearFaults _ | .referenceSearch _ | .startTest _ | .holdTest _ | .resumeTest _ | .abortTest _ | .claimFrame _
  | .releaseFrame _ | .stopMotion _ | .collectCompletion _ | .retract _ | .specimenUnmounted _ | .extensometerPlaced _
  | .extensometerRemoved _ | .collectResult _ | .peekResult _ | .readPage _ | .readCalibration _ | .readTransaction _ _
  | .powerOnReset | .warmReset | .sampleTimerExpiry | .loadFaultDeclaration | .conversionEndStrobe | .placementTimeout
  | .removalTimeout | .brakeReleaseExpiry | .holdTimerExpiry | .jogDurationExpiry | .activation | .encoderEdge _
  | .searchTravelLimit _ | .extQuadratureEdge _ | .referenceSwitchEvent | .referenceSwitchRelease | .hardLimitSwitchEvent _
  | .hardLimitSwitchRelease _ | .gateOpening | .gateClosing | .emergencyStopAssertion | .emergencyStopRelease => true

/-- The parameters of a request are no longer than a frame may bring (R202). -/
def parametersFit (i : Instr) : Bool :=
  match encodeParams i with
  | some e => e.2.2.length ≤ longestParameters
  | none => true

/-- A command is well formed: its operands fit their fields, and its parameters one frame. -/
def Instr.wellFormed (i : Instr) : Bool :=
  operandsFit i && parametersFit i

end Sys2Proof
end

