-- ==== Sys2Proof/Certificates/Slice0/Obligations.lean ====
section
/-! DEFINITION. The statements about the T48 that are to be proved, each with the rules it rests on. `answered k r o payload s` is
the state `s` with the answer to request `r` placed in its port's buffer (R201); a statement that gives the next state whole says
with it that nothing else changes. -/

open Sys2Proof Sys2Proof.Machine

/-! ### The step -/

/-- One step runs the command at the front of the queue on the state with the queue's rest. On an empty queue the block idles:
the model's choice (log entry 1). -/
def Obligations.StepTakesTheFrontCommand : Prop :=
  (∀ (i : Instr) (rest : List Instr) (s : State), s.pending = i :: rest → step s = exec i (s.withPending rest)) ∧
  (∀ s : State, s.pending = [] → step s = .next s)

/-- Every command completes, whatever the state: `exec` answers a next state, whose queue of waiting commands is as it was. -/
def Obligations.EveryCommandCompletes : Prop :=
  ∀ (i : Instr) (s : State), ∃ t, exec i s = .next t ∧ t.pending = s.pending

/-- A transaction written out by R214 for a well-formed command spells that command. Three of the layouts are the model's choice: NEXT
is sent as code 9 (log entry 20), SET GRADE LIMITS opens with a presence byte (log entry 21), and nothing follows a presence byte 0
(log entry 43). -/
def Obligations.EncodedTransactionsSpellTheirCommand : Prop :=
  ∀ (i : Instr) (p : Port) (bytes : List Byte),
    i.wellFormed = true → encodeTransaction i = some (p, bytes) → decodeTransaction p bytes = i

/-! ### The port interface (R200 to R208) -/

/-- The port interface's checks on a request of a known kind (R202): its port, then its length; then the block's check that the
parameters lay out their fields, of every kind with parameters but ADJUST RATE, which checks its state first (R119). What fails to
lay them out is in three points the model's choice: bytes left over after the last field (log entry 37), bytes after a presence
byte 0 (log entry 43), and a yes-or-no or presence byte other than 0 and 1 (log entry 44). -/
def Obligations.RequestsCheckedBeforeTheirBlock : Prop :=
  ∀ (i : Instr) (k : RequestKind) (r : Req) (s : State), requestOf i = some (k, r) →
    (permitted k r.port = false → exec i s = .next (answered k r .notPermitted .nothing s)) ∧
    (permitted k r.port = true → r.form = .badLength → exec i s = .next (answered k r .badParameter .nothing s)) ∧
    (permitted k r.port = true → r.form = .badLayout → hasParameters k = true → k ≠ .adjustRate →
      exec i s = .next (answered k r .badParameter .nothing s))

/-- An unknown kind is answered UNKNOWN_REQUEST (R202). A transaction from which nothing is taken leaves all but the port's data out
line, which carries zero bytes during a write (R200); that another form byte leaves the line's record too is the model's choice
(log entry 6). A read shifts out the status byte, the answer and zeros, and empties the buffer when the last byte has gone
(R201). -/
def Obligations.TransactionsWithoutARequest : Prop :=
  ∀ (p : Port) (s : State),
    (∀ (tag : Tag) (kind : Byte),
      exec (.unknownRequest p tag kind) s =
        .next (s.setPort p { s.portOf p with
          buffer := some { tag := tag, kind := kind, outcome := .unknownRequest,
                           overwritten := (s.portOf p).buffer.isSome, payload := .nothing },
          dataOut := .zeros })) ∧
    (∀ bytes : List Byte,
      (bytes.head? = some 1 →
        exec (.writeNotTaken p bytes) s = .next (s.setPort p { s.portOf p with dataOut := .zeros })) ∧
      (bytes.head? ≠ some 1 → exec (.writeNotTaken p bytes) s = .next s)) ∧
    (∀ n : Nat,
      ((s.portOf p).buffer = none →
        exec (.readTransaction p n) s =
          .next (s.setPort p { s.portOf p with dataOut := .shifted (List.replicate n 0) })) ∧
      (∀ a, (s.portOf p).buffer = some a →
        (n < 1 + (answerBytes a).length →
          exec (.readTransaction p n) s =
            .next (s.setPort p { s.portOf p with dataOut := .shifted ((1 :: answerBytes a).take n) })) ∧
        (1 + (answerBytes a).length ≤ n →
          exec (.readTransaction p n) s =
            .next (s.setPort p { s.portOf p with
              dataOut := .shifted (1 :: answerBytes a ++ List.replicate (n - (1 + (answerBytes a).length)) 0),
              buffer := none }))))

/-- READ STATUS, READ LIVE, READ QUEUE and NOP are answered OK on every port and change nothing but the port's answer (R202, R24,
R7). READ STATUS carries the items that the chapters list for its port (`StatusItems`) with the port's first pending kind (R205);
what its capture items are on the sequencer port outside a test is the model's choice (log entry 34). READ QUEUE is answered OK
even when bytes follow its header that lay out no field (R7). -/
def Obligations.ReadsReportTheState : Prop :=
  ∀ (r : Req) (s : State), r.form = .whole →
    (∃ v, exec (.readStatus r) s = .next (answered .readStatus r .ok (.status r.port v) s) ∧ StatusItems r.port s v ∧
      (PortsSound s → FirstPending r.port s v.firstPending)) ∧
    exec (.readLive r) s =
      .next (answered .readLive r .ok
        (.live { latest := s.ldc.latest, tare := s.ldc.tare, missCount := s.ldc.missCount, loadFault := s.ldc.loadFault,
                 overload := s.ldc.overload, peak := s.ldc.peak, extState := s.exc.state, h := s.exc.basis.map (·.h),
                 p0 := s.exc.basis.map (·.p0), word := s.xhc.word }) s) ∧
    (∀ q : Req, q.form ≠ .badLength →
      exec (.readQueue q) s = .next (answered .readQueue q .ok (.specimens s.spt.queue s.spt.slot) s)) ∧
    exec (.nop r) s = .next (answered .nop r .ok .nothing s)

/-- READ FLAGS reports the pending flags with their states and makes the RAISED ones SEEN; ACK FLAGS makes the named SEEN ones
CLEAR, and is refused when it names a flag the port does not have (R204). -/
def Obligations.FlagsReadAndAcknowledged : Prop :=
  ∀ (r : Req) (s : State), r.form = .whole →
    (∃ t, exec (.readFlags r) s =
        .next (answered .readFlags r .ok (.flags r.port ((s.portOf r.port).flags.filter fun e => e.2 != .clear)) t) ∧
      t = s.setPort r.port { s.portOf r.port with flags := (t.portOf r.port).flags } ∧
      ∀ n, t.flag r.port n = if s.flag r.port n = .raised then .seen else s.flag r.port n) ∧
    (∀ w : BitVec 16, w.toNat < 2 ^ (noticesOf r.port).length →
      ∃ t, exec (.ackFlags r w) s = .next (answered .ackFlags r .ok (.flags r.port (t.portOf r.port).flags) t) ∧
        t = s.setPort r.port { s.portOf r.port with flags := (t.portOf r.port).flags } ∧
        (∀ k n, (noticesOf r.port)[k]? = some n → w.getLsbD k = true → s.flag r.port n = .seen →
          t.flag r.port n = .clear) ∧
        (∀ n, s.flag r.port n ≠ .seen ∨ (∀ k, (noticesOf r.port)[k]? = some n → w.getLsbD k = false) →
          t.flag r.port n = s.flag r.port n)) ∧
    (∀ w : BitVec 16, 2 ^ (noticesOf r.port).length ≤ w.toNat →
      exec (.ackFlags r w) s = .next (answered .ackFlags r .badParameter .nothing s))

/-- SET NOTICES takes an enable set and a promoted kind, 0 for NONE; it is refused when either names a flag the port does not
have or the promoted kind is not enabled (R205). -/
def Obligations.NoticesSet : Prop :=
  ∀ (r : Req) (w : BitVec 16) (b : Byte) (s : State), r.form = .whole →
    (w.toNat < 2 ^ (noticesOf r.port).length →
      b.toNat ≤ (noticesOf r.port).length → (b = 0 ∨ w.getLsbD (b.toNat - 1) = true) →
      ∃ v : PortState,
        exec (.setNotices r w b) s = .next (answered .setNotices r .ok .nothing (s.setPort r.port v)) ∧
        v = { s.portOf r.port with enables := v.enables, promoted := v.promoted } ∧
        (∀ n, n ∈ v.enables ↔ ∃ k, (noticesOf r.port)[k]? = some n ∧ w.getLsbD k = true) ∧
        v.promoted = if b = 0 then none else (noticesOf r.port)[b.toNat - 1]?) ∧
    ((2 ^ (noticesOf r.port).length ≤ w.toNat ∨ (noticesOf r.port).length < b.toNat ∨
        (b ≠ 0 ∧ w.getLsbD (b.toNat - 1) = false)) →
      exec (.setNotices r w b) s = .next (answered .setNotices r .badParameter .nothing s))

/-- A port's attention output is asserted while an enabled flag is pending; a raise of an enabled flag asserts it, READ FLAGS
does not release it (R206). -/
def Obligations.AttentionFollowsTheFlags : Prop :=
  ∀ (p : Port) (s : State), PortsSound s →
    (s.attention p = true ↔ ∃ n ∈ (s.portOf p).enables, s.flag p n ≠ .clear) ∧
    (∀ n ∈ (s.portOf p).enables, (raise p n s).attention p = true) ∧
    (∀ (r : Req) (t : State), r.port = p → exec (.readFlags r) s = .next t → t.attention p = s.attention p)

/-- CLEAR FAULTS removes from the fault word every kind that is not active, is answered OK with the word as it then stands, and
leaves the flags (R208, R207). -/
def Obligations.ClearFaultsLeavesActiveKinds : Prop :=
  ∀ (r : Req) (s : State), r.form = .whole →
    (r.port ≠ .sequencer → exec (.clearFaults r) s = .next (answered .clearFaults r .notPermitted .nothing s)) ∧
    (r.port = .sequencer →
      ∃ w : FaultWord,
        exec (.clearFaults r) s =
          .next (answered .clearFaults r .ok (.faults w) { s with pif := { s.pif with faults := w } }) ∧
        w.equipmentCheck = false ∧ w.calVerify = false ∧ w.extSlip = false ∧
        w.hardLimit = (s.pif.faults.hardLimit && (s.inputs.upperLimit || s.inputs.lowerLimit)) ∧
        w.overload = (s.pif.faults.overload && s.ldc.overload) ∧
        w.loadFault = (s.pif.faults.loadFault && s.ldc.loadFault))

/-! ### The frame and the plans (R29, R33, R65, R105, R106) -/

/-- CONFIGURE FRAME is refused with BAD_PARAMETER for a named value outside its range of R64, ahead of every other check, then with
LOCKED while the configuration is locked, with WRONG_STATE while a motion is active, and with BAD_PARAMETER when the resulting
configuration breaks a condition across fields; otherwise it takes all named values together (R65). One that names no field
reports the configuration: that the conditions across fields are not asked of the present one is the model's choice (log entry
26), and so is that a hold timer that runs keeps its time (log entry 38). -/
def Obligations.FrameConfigured : Prop :=
  ∀ (r : Req) (u : FrameUpdate) (s : State), r.form = .whole → r.port = .sequencer →
    (FrameUpdate.inRange u = false →
      exec (.configureFrame r u) s = .next (answered .configureFrame r .badParameter .nothing s)) ∧
    (FrameUpdate.inRange u = true → FrameUpdate.namesNone u = true →
      exec (.configureFrame r u) s = .next (answered .configureFrame r .ok (.config s.xhc.config) s)) ∧
    (FrameUpdate.inRange u = true → FrameUpdate.namesNone u = false →
      (s.xhc.locked = true →
        exec (.configureFrame r u) s = .next (answered .configureFrame r .isLocked .nothing s)) ∧
      (s.xhc.locked = false → s.mar.active ≠ none →
        exec (.configureFrame r u) s = .next (answered .configureFrame r .wrongState .nothing s)) ∧
      (s.xhc.locked = false → s.mar.active = none → ∀ c, c = FrameUpdate.applyTo u s.xhc.config →
        (c.lowerSoft < c.upperSoft ∧ c.jogLimit ≤ c.vmax ∧ c.lowerSoft ≤ c.retractPosition ∧
            c.retractPosition ≤ c.upperSoft ∧ s.cal.fullScale3 < c.fcap →
          exec (.configureFrame r u) s =
            .next (answered .configureFrame r .ok (.config c)
              { s with xhc := { s.xhc with config := c },
                       ldc := { s.ldc with sampleInterval := c.sampleInterval } })) ∧
        (¬ (c.lowerSoft < c.upperSoft ∧ c.jogLimit ≤ c.vmax ∧ c.lowerSoft ≤ c.retractPosition ∧
            c.retractPosition ≤ c.upperSoft ∧ s.cal.fullScale3 < c.fcap) →
          exec (.configureFrame r u) s = .next (answered .configureFrame r .badParameter .nothing s))))

/-- SET RANGE checks the range, the test state and the write in flight, in this order; a change of range sets the settle count
to 4, and a conversion in flight keeps the range it started on (R33). -/
def Obligations.RangeSet : Prop :=
  ∀ (r : Req) (n : Int) (s : State), r.form = .whole → r.port = .sequencer →
    (¬ (1 ≤ n ∧ n ≤ 4) → exec (.setRange r n) s = .next (answered .setRange r .badParameter .nothing s)) ∧
    (∀ x : LoadRange, rangeNumber x = n →
      (s.tex.test ≠ none → exec (.setRange r n) s = .next (answered .setRange r .testInProgress .nothing s)) ∧
      (s.tex.test = none → s.cal.inFlight ≠ none →
        exec (.setRange r n) s = .next (answered .setRange r .calBusy .nothing s)) ∧
      (s.tex.test = none → s.cal.inFlight = none → s.ldc.range = x →
        exec (.setRange r n) s = .next (answered .setRange r .ok .nothing s)) ∧
      (s.tex.test = none → s.cal.inFlight = none → s.ldc.range ≠ x →
        exec (.setRange r n) s =
          .next (answered .setRange r .ok .nothing { s with ldc := { s.ldc with range := x, settle := 4 } })))

/-- TARE takes the gross force of the last valid sample when |g| × 100 ≤ Fcap × 5, and is refused in R29's order otherwise. -/
def Obligations.TareTakesTheLastGrossForce : Prop :=
  ∀ (r : Req) (s : State), r.form = .whole → r.port = .sequencer →
    (s.tex.test ≠ none → exec (.tare r) s = .next (answered .tare r .testInProgress .nothing s)) ∧
    (s.tex.test = none →
      (s.cal.inFlight ≠ none → exec (.tare r) s = .next (answered .tare r .calBusy .nothing s)) ∧
      (s.cal.inFlight = none →
        (s.ldc.lastValidGross = none → exec (.tare r) s = .next (answered .tare r .wrongState .nothing s)) ∧
        (∀ g, s.ldc.lastValidGross = some g →
          (g * 100 ≤ s.xhc.config.fcap * 5 ∧ -(g * 100) ≤ s.xhc.config.fcap * 5 →
            exec (.tare r) s = .next (answered .tare r .ok (.tare g) { s with ldc := { s.ldc with tare := g } })) ∧
          (¬ (g * 100 ≤ s.xhc.config.fcap * 5 ∧ -(g * 100) ≤ s.xhc.config.fcap * 5) →
            exec (.tare r) s = .next (answered .tare r .tareRange .nothing s)))))

/-- DEFINE PLAN stores the plan with its defaults under its id and answers with it; it is refused with PLAN_IN_USE for the plan
of the test in progress (R105). -/
def Obligations.PlanDefined : Prop :=
  ∀ (r : Req) (i : Fin 8) (g : PlanUpdate) (stages : List StageDef) (p : Plan) (s : State),
    r.form = .whole → r.port = .sequencer → planOf g stages = some p → planForm p = true →
    (∀ t, s.tex.test = some t → t.planId = i →
      exec (.definePlan r i.val g stages) s = .next (answered .definePlan r .planInUse .nothing s)) ∧
    ((∀ t, s.tex.test = some t → t.planId ≠ i) →
      (planFitsFrame s.xhc.config p = true →
        exec (.definePlan r i.val g stages) s =
          .next (answered .definePlan r .ok (.plan p)
            { s with tex := { s.tex with plans := s.tex.plans.set i.val (some p) i.isLt } })) ∧
      (planFitsFrame s.xhc.config p = false →
        exec (.definePlan r i.val g stages) s = .next (answered .definePlan r .badParameter .nothing s)))

/-- READ PLAN: an id outside 0..7 is refused with BAD_PARAMETER, an undefined plan answered EMPTY, a defined one OK with the
whole plan as stored; nothing else changes (R106). -/
def Obligations.ReadPlanReportsThePlan : Prop :=
  ∀ (r : Req) (id : Int) (s : State), r.form = .whole →
    (r.port ≠ .sequencer → exec (.readPlan r id) s = .next (answered .readPlan r .notPermitted .nothing s)) ∧
    (r.port = .sequencer →
      (¬ (0 ≤ id ∧ id ≤ 7) → exec (.readPlan r id) s = .next (answered .readPlan r .badParameter .nothing s)) ∧
      (∀ i : Fin 8, (i.val : Int) = id →
        (s.tex.plans[i] = none → exec (.readPlan r id) s = .next (answered .readPlan r .empty .nothing s)) ∧
        (∀ p, s.tex.plans[i] = some p → exec (.readPlan r id) s = .next (answered .readPlan r .ok (.plan p) s))))

/-! ### The test in progress (R119 to R122, R126 to R128) -/

/-- HOLD TEST holds a test in PRELOAD, PLACING or RUNNING with cause SEQUENCER and answers OK, the loop's target staying where
it stands; in HELD, TAIL and IDLE it is refused with WRONG_STATE (R121). -/
def Obligations.HoldTestHoldsOrRefuses : Prop :=
  ∀ (r : Req) (s : State), r.form = .whole →
    (r.port ≠ .sequencer → exec (.holdTest r) s = .next (answered .holdTest r .notPermitted .nothing s)) ∧
    (r.port = .sequencer →
      (∀ t ret, s.tex.test = some t →
        (t.phase = .preload ∧ ret = .preload) ∨ (t.phase = .placing ∧ ret = .placing) ∨
          (t.phase = .running ∧ ret = .running) →
        exec (.holdTest r) s =
          .next (answered .holdTest r .ok .nothing
            { s with
              tex := { s.tex with
                test := some (({ t with phase := .held .sequencer ret } : TestContext).logEvent
                  ⟨.hold, sampleNumber t.arrivals, 1⟩) },
              rlp := { s.rlp with setPoint := 0 }, cps := eventMarked s.cps })) ∧
      (s.tex.test = none ∨ (∃ t, s.tex.test = some t ∧ ((∃ c ret, t.phase = .held c ret) ∨ ∃ n, t.phase = .tail n)) →
        exec (.holdTest r) s = .next (answered .holdTest r .wrongState .nothing s)))

/-- RESUME TEST returns a HELD test to its return state with the event RESUME; it is refused while the gate is open and unless
the test is HELD (R122). The set-point is that of the state returned to, and RUNNING re-seeds (R133, R136). -/
def Obligations.ResumeTestReleases : Prop :=
  ∀ (r : Req) (s : State), r.form = .whole → r.port = .sequencer →
    (∀ t c ret, s.tex.test = some t → t.phase = .held c ret →
      (s.inputs.gateOpen = true → exec (.resumeTest r) s = .next (answered .resumeTest r .gateOpen .nothing s)) ∧
      (s.inputs.gateOpen = false →
        exec (.resumeTest r) s =
          .next (answered .resumeTest r .ok .nothing
            { s with
              tex := { s.tex with
                test := some (({ t with phase := returnPhase ret } : TestContext).logEvent
                  ⟨.resume, sampleNumber t.arrivals, causeNumber c⟩) },
              rlp :=
                (match ret with
                 | .preload => { s.rlp with setPoint := t.plan.preloadRate * 1000 }
                 | .placing => { s.rlp with setPoint := 0 }
                 | .running => { s.rlp with target := none, seed := .pending, setPoint := 0 }),
              cps := eventMarked s.cps }))) ∧
    ((∀ t, s.tex.test = some t → ∀ c ret, t.phase ≠ .held c ret) →
      exec (.resumeTest r) s = .next (answered .resumeTest r .wrongState .nothing s))

/-- ABORT TEST closes the test: ABORTED with cause OPERATOR before fracture, COMPLETE in TAIL (R126). The closure appends the
record, judged by its grade's entry as it stands (R191, R197, R198), files the completion, makes the slot TESTED, ends capturing,
returns the range and the loop, and the drive holds (R128, R69). -/
def Obligations.AbortTestCloses : Prop :=
  ∀ (r : Req) (s : State) (t : TestContext) (m : MountedSpecimen) (tag : Tag) (closure : Closure),
    r.form = .whole → r.port = .sequencer → s.tex.test = some t → s.spt.slot = some m →
    s.mar.active = some { port := .sequencer, tag := tag, job := .test } → s.mar.queue = [] → s.xhc.config.holdTime ≠ 0 →
    PortsSound s →
    (tailPhase s ∧ closure = .complete ∨ ¬ tailPhase s ∧ closure = .aborted .operator) →
    ∃ u rec, exec (.abortTest r) s = .next (answered .abortTest r .ok .nothing u) ∧
      u.tex = { s.tex with test := none } ∧ u.spt = { s.spt with slot := some { m with state := .tested } } ∧
      u.rsl = { s.rsl with results := s.rsl.results ++ [rec], reserved := false } ∧
      rec.serial = t.serial ∧ rec.specimen = m.specimen ∧ rec.closure = closure ∧
      Judged s.rsl.limits[m.specimen.grade] rec ∧
      u.mar = { s.mar with
        active := none,
        seqSlot := some
          { kind := .startTest, tag := tag,
            outcome := if closure = .complete then .testComplete else .testAborted,
            reason := if closure = .complete then none else some (.abort .operator),
            position := if s.xhc.referenceValid then some s.xhc.position else none, serial := some t.serial } } ∧
      u.xhc = holdingDrive s.xhc ∧ u.rlp = idleLoop ∧ u.cps.capture = none ∧ u.ldc.range = t.plan.initialRange ∧
      u.flag .sequencer .testEnded = .raised ∧ u.flag .record .resultReady = .raised ∧ u.flag .cell .unloadReq = .raised ∧
      u.inputs = s.inputs ∧ u.cal = s.cal ∧ u.pif.faults = s.pif.faults

/-- ADJUST RATE in RUNNING or HELD replaces the rate of the current stage, whose mode is not HOLD, and the loop's rate with it,
and enters RATE_CHANGED; a rate outside the mode's range is refused (R119, R143). At a good sample that leaves the test RUNNING in
its stage, whatever end condition and timeout that stage has, the extensometer making no handover, the loop seeds while PENDING and
advances its target otherwise, and forms its set-point from feedforward and correction, rounded once (R134 to R140); at an INVALID
sample it stands still (R141). The stage goes on where no stage is entered at the sample (`StageGoesOn`): its end condition and its
timeout do not come about there, or they lead beyond the last stage (R117, R118). -/
def Obligations.RateAdjusted : Prop :=
  (∀ (s : State) (t : TestContext) (m : MountedSpecimen) (b : StrainBasis) (range : LoadRange) (l : Latch) (code : Int)
     (x : StageRun) (d : StageDef) (rate : Int),
     ArrivalInTest s t m b range l → t.phase = .running → t.stage = some x → stageAt t.plan x.index = some d →
     s.inputs.gateOpen = false → s.rlp.rate = some rate →
     ∃ u y, exec (.sampleArrival code) s = .next u ∧ u.ldc.latest = some y ∧
       ∀ t', u.tex.test = some t' → t'.phase = .running → (s.exc.state = .active → u.exc.state = .active) →
         (GoodSample s range code → Unbroken s t.plan (netForce s range code) →
           StageGoesOn t.plan x d y t'.rev.tracker.state t'.handoverMark →
           LoopComputed s.xhc.config t.plan m.specimen.lc y.strain (y.stress.getD 0) rate s.rlp u.rlp) ∧
         (y.invalid = true → u.rlp = s.rlp)) ∧
  ∀ (r : Req) (rate : Int) (s : State) (t : TestContext) (x : StageRun) (d : StageDef),
    r.form = .whole → r.port = .sequencer → s.tex.test = some t → (t.phase = .running ∨ ∃ c ret, t.phase = .held c ret) →
    t.stage = some x → stageAt t.plan x.index = some d →
    (d.mode = .hold → exec (.adjustRate r rate) s = .next (answered .adjustRate r .wrongState .nothing s)) ∧
    (d.mode ≠ .hold →
      (rateInRange d.mode rate = false →
        exec (.adjustRate r rate) s = .next (answered .adjustRate r .badParameter .nothing s)) ∧
      (rateInRange d.mode rate = true →
        exec (.adjustRate r rate) s =
          .next (answered .adjustRate r .ok .nothing
            { s with
              tex := { s.tex with
                test := some (({ t with stage := some { x with rate := rate } } : TestContext).logEvent
                  ⟨.rateChanged, sampleNumber t.arrivals, rate⟩) },
              rlp := { s.rlp with rate := some rate }, cps := eventMarked s.cps })))

/-! ### The claim and the motion requests (R85 to R99) -/

/-- CLAIM FRAME by the claim as it stands (R86): GRANTED when it is free, ALREADY_HELD for the holder, else WAITING. RELEASE
FRAME: the holder's release passes the claim to the waiter, who is told, or frees it (R87); the waiter withdraws (R88); any
other port is refused with NOT_HELD (R88). -/
def Obligations.ClaimAnsweredAndReleased : Prop :=
  (∀ (r : Req) (s : State), r.form = .whole → r.port ≠ .record →
     (s.mar.holder = none →
       exec (.claimFrame r) s =
         .next (answered .claimFrame r .granted .nothing { s with mar := { s.mar with holder := some r.port } })) ∧
     (s.mar.holder = some r.port →
       exec (.claimFrame r) s = .next (answered .claimFrame r .alreadyHeld .nothing s)) ∧
     (∀ h, s.mar.holder = some h → h ≠ r.port →
       exec (.claimFrame r) s =
         .next (answered .claimFrame r .waiting .nothing { s with mar := { s.mar with waiter := some r.port } }))) ∧
  (∀ (r : Req) (s : State), r.form = .whole → r.port ≠ .record →
     (s.mar.holder = some r.port → s.tex.test ≠ none →
       exec (.releaseFrame r) s = .next (answered .releaseFrame r .testInProgress .nothing s)) ∧
     (s.mar.holder = some r.port → s.tex.test = none →
       (∀ a, s.mar.active = some a → a.port = r.port →
         exec (.releaseFrame r) s = .next (answered .releaseFrame r .outstanding .nothing s)) ∧
       (s.mar.active = none → s.mar.queue = [] →
         (s.mar.waiter = none →
           exec (.releaseFrame r) s =
             .next (answered .releaseFrame r .ok .nothing { s with mar := { s.mar with holder := none } })) ∧
         (∀ w, s.mar.waiter = some w →
           exec (.releaseFrame r) s =
             .next (answered .releaseFrame r .ok .nothing
               (raise w .claimGranted { s with mar := { s.mar with holder := some w, waiter := none } }))))) ∧
     (s.mar.holder ≠ some r.port → s.mar.waiter = some r.port → (∀ rq ∈ s.mar.queue, rq.port ≠ r.port) →
       exec (.releaseFrame r) s =
         .next (answered .releaseFrame r .withdrawn .nothing { s with mar := { s.mar with waiter := none } })) ∧
     (s.mar.holder ≠ some r.port → s.mar.waiter ≠ some r.port →
       exec (.releaseFrame r) s = .next (answered .releaseFrame r .notHeld .nothing s)))

/-- A motion request that its port may make and that finds nothing active or queued starts at once (R92, R94, R69), through RELEASING
when the drive is DISABLED and in MOVING when it is HOLDING, the hold timer stopped: MOVE TO with its target clamped to the soft
limits (R74), REFERENCE SEARCH with the reference INVALID, its phase chosen by the switch on entering MOVING (R71), RETRACT at vmax
(R76), JOG with its speed clamped to the jog limit, also away from an active hard-limit switch (R77, R81); a JOG that enters MOVING
at the soft limit in its direction ends STOPPED_LIMIT (R77). The model's choices in it: a move's profile value is 0 until its first
arrival (log entry 32), and the answer to a request that has ended at once says FILED (log entry 36). -/
def Obligations.MotionStartsFromRest : Prop :=
  ∀ (r : Req) (s : State) (x : Crosshead), r.form = .whole → ReadyFor r.port s → s.xhc.drive = .disabled ∨ s.xhc.drive = .holding →
    x = startedDrive s.xhc →
    (LimitsClear s →
      (∀ target speed w, r.port ≠ .record → -2000000 ≤ target → target ≤ 2000000 → 1 ≤ speed → speed ≤ s.xhc.config.vmax →
        s.xhc.referenceValid = true → w = clampTo s.xhc.config.lowerSoft s.xhc.config.upperSoft target →
        s.xhc.config.band < ((w - s.xhc.position).natAbs : Int) →
        exec (.moveTo r target speed) s =
          .next (answered .moveTo r .queued (.motion .active none)
            { s with
              mar := { s.mar with active := some { port := r.port, tag := r.tag, job := .move w speed (w != target) 0 } },
              xhc := x })) ∧
      (r.port = .sequencer →
        exec (.referenceSearch r) s =
          .next (answered .referenceSearch r .queued (.motion .active none)
            { s with
              mar := { s.mar with active := some { port := r.port, tag := r.tag, job := .search (startedSearch s) } },
              xhc := { x with referenceValid := false, searchTravel := 0 } })) ∧
      (∀ w, r.port = .cell → s.tex.test = none → s.xhc.referenceValid = true →
        w = clampTo s.xhc.config.lowerSoft s.xhc.config.upperSoft s.xhc.config.retractPosition →
        s.xhc.config.band < ((w - s.xhc.position).natAbs : Int) →
        exec (.retract r) s =
          .next (answered .retract r .queued (.motion .active none)
            { s with
              mar := { s.mar with active := some { port := r.port, tag := r.tag, job := .retract w s.xhc.config.vmax 0 } },
              xhc := x }))) ∧
    (∀ d speed duration, r.port = .cell → 1 ≤ speed → speed ≤ 20000 → 1 ≤ duration → duration ≤ 2000 → ¬ limitAhead s.inputs d →
      (s.xhc.drive = .disabled ∨ atSoftLimit s.xhc d = false →
        exec (.jog r d speed duration) s =
          .next (answered .jog r .queued (.motion .active none)
            { s with
              mar := { s.mar with
                active := some { port := r.port, tag := r.tag, job := .jog d (min speed s.xhc.config.jogLimit) duration } },
              xhc := startedJog duration s.xhc })) ∧
      (s.xhc.drive = .holding → atSoftLimit s.xhc d = true → s.xhc.config.holdTime ≠ 0 →
        exec (.jog r d speed duration) s =
          .next (answered .jog r .queued (.motion .filed none)
            (raise .cell .motionDone
              { s with
                mar := s.mar.setSlot .cell (some (ended .jog r.tag .stoppedLimit s)), xhc := holdingDrive s.xhc }))))

/-- START TEST whose start conditions hold (R110) activates the test (R111): the next serial (R109), PRELOAD on the specimen's
plan, the slot TESTING (R15), the plan's range and an empty peak, the strain basis (R42), the reservation (R189), the preload
set-point (R133), capturing under the serial (R176). In PRELOAD a good sample below the preload force changes no phase; one at or
above it, or any with a preload force of 0, ends preload with the event PRELOAD_END (R113), and the extensometer channel and the
test go on by R47: zeroing into ACTIVE from ATTACHED, PLACE_REQUESTED and PLACING from PARKED, else crosshead strain with the
handover mark (R53); but for PLACING, stage 1 is entered (R115). -/
def Obligations.StartTestActivates : Prop :=
  (∀ (s : State) (t : TestContext) (m : MountedSpecimen) (b : StrainBasis) (range : LoadRange) (l : Latch) (code force : Int)
     (d : StageDef),
     ArrivalInTest s t m b range l → PortsSound s → t.phase = .preload → GoodSample s range code →
     force = netForce s range code → Unbroken s t.plan force → s.inputs.gateOpen = false →
     (s.xhc.referenceValid = true → s.xhc.position < s.xhc.config.upperSoft) → stageAt t.plan 1 = some d → HasRoom t →
     ∃ u t', exec (.sampleArrival code) s = .next u ∧ u.tex.test = some t' ∧
       (t.plan.preloadForce ≠ 0 → force < t.plan.preloadForce →
         t'.phase = .preload ∧ t'.stage = t.stage ∧ (s.exc.state ≠ .active → u.exc = s.exc) ∧ u.rlp = s.rlp) ∧
       (t.plan.preloadForce = 0 ∨ t.plan.preloadForce ≤ force →
         ⟨.preloadEnd, sampleNumber t.arrivals, force⟩ ∈ t'.events ∧
         u.exc.basis = some { b with p0 := if t.plan.extRequired = true ∧ (s.exc.state = .placeRequested ∨ s.exc.state = .active)
                                           then b.p0 else l.position } ∧
         (t.plan.extRequired = true → s.exc.state = .parked →
           t'.phase = .placing ∧ t'.stage = t.stage ∧ u.exc.state = .placeRequested ∧ u.exc.placement = some 0 ∧
           u.flag .cell .extPlaceReq = .raised ∧ u.rlp.setPoint = 0 ∧ u.xhc.word = 0) ∧
         (s.exc.state ≠ .placeRequested → ¬ (t.plan.extRequired = true ∧ s.exc.state = .parked) →
           t'.phase = .running ∧
           t'.stage = some { index := 1, rate := d.rate, elapsed := 0, endLogged := false, timeoutLogged := false } ∧
           ⟨.stage, sampleNumber t.arrivals, 1⟩ ∈ t'.events ∧ u.rlp.mode = loopModeOf d.mode ∧ u.rlp.rate = some d.rate) ∧
         (t.plan.extRequired = true → s.exc.state = .attached →
           u.exc.state = .active ∧ u.exc.count = s.exc.count - l.extCount ∧ u.exc.tracker = none ∧
           u.exc.lastActive = some { ext := 0, xh := 0, number := none } ∧ t'.handoverMark = t.handoverMark) ∧
         (t.plan.extRequired = true → s.exc.state = .removeRequested ∨ s.exc.state = .fault →
           u.exc.state = s.exc.state ∧ u.flag .cell .extRemoveReq = .raised ∧ t'.flags.extNotPlaced = true ∧
           t'.handoverMark = true) ∧
         (t.plan.extRequired = false → u.exc.state = s.exc.state ∧ t'.handoverMark = true))) ∧
  ∀ (r : Req) (s : State) (m : MountedSpecimen) (p : Plan),
    r.form = .whole → r.port = .sequencer → ReadyFor .sequencer s → LimitsClear s →
    s.xhc.drive = .disabled ∨ s.xhc.drive = .holding → s.tex.test = none →
    s.spt.slot = some m → m.state = .mounted → s.tex.plans[m.specimen.plan] = some p →
    (p.extRequired = true → m.specimen.le ≠ none) → planFitsFrame s.xhc.config p = true →
    s.xhc.referenceValid = true → s.pif.faults = ⟨false, false, false, false, false, false⟩ → s.cal.inFlight = none →
    s.rsl.reserved = false → s.rsl.results.length < 8 →
    ∃ u x c, exec (.startTest r) s = .next (answered .startTest r .queued (.motion .active none) u) ∧
      u.mar = { s.mar with active := some { port := .sequencer, tag := r.tag, job := .test } } ∧
      u.xhc = startedDrive s.xhc ∧ u.tex = { plans := s.tex.plans, serial := s.tex.serial + 1, test := some x } ∧
      x.serial = s.tex.serial + 1 ∧ x.phase = .preload ∧ x.planId = m.specimen.plan ∧ x.plan = p ∧
      x.specimenId = m.specimen.id ∧ x.stage = none ∧ x.handoverMark = false ∧ x.arrivals = 0 ∧
      u.spt = { s.spt with slot := some { m with state := .testing } } ∧
      u.exc = { s.exc with basis := some { le := m.specimen.le, lc := m.specimen.lc, p0 := s.xhc.position, h := 0 } } ∧
      u.rsl = { s.rsl with reserved := true } ∧ u.rlp = { idleLoop with setPoint := p.preloadRate * 1000 } ∧
      u.ldc.range = p.initialRange ∧ u.ldc.peak = none ∧ u.ldc.tare = s.ldc.tare ∧
      u.cps.full = s.cps.full ∧ u.cps.capture = some c ∧ c.serial = x.serial ∧ c.taken = 0 ∧
      c.level = levelOf (128 - s.cps.full.length)

/-- Motion requests that meet another motion or another's claim. A MOVE TO that passes R91 behind another port's active motion joins
the end of the queue, and the answer says its position (R92, R90). A RETRACT preempts an active sequencer MOVE TO or REFERENCE
SEARCH, which ends PREEMPTED, and becomes the active motion in the drive state of that moment (R93, R76); in band, or with the
search's reference INVALID, it ends at once and the drive holds (R76). A JOG during the cell's own jog refreshes it: direction, speed
and duration replaced, a word at once while MOVING; toward an active hard-limit switch it is refused, toward the soft limit at which
the position stands it ends the jog (R78). A JOG from a cell without claim passes with the gate open, making the cell holder or
waiter with no CLAIM_GRANTED, and is refused NO_CLAIM with the gate closed (R89). The model's choices in it: a RETRACT's profile
value is 0 until its first arrival (log entry 32), FILED in the answer of one that ended at once (log entry 36), the recheck and the
drive's hold of a preempting one (log entry 28), and a refresh toward a soft limit ends the jog in RELEASING too (log entry 18). -/
def Obligations.MotionRequestsMeetOthers : Prop :=
  (∀ (r : Req) (target speed : Int) (a : ActiveMotion) (s : State),
     r.form = .whole → r.port ≠ .record → -2000000 ≤ target → target ≤ 2000000 → 1 ≤ speed → speed ≤ s.xhc.config.vmax →
     s.inputs.estop = false → s.ldc.loadFault = false → LimitsClear s →
     (s.mar.holder = some r.port ∨ s.mar.waiter = some r.port) → s.mar.active = some a → a.port ≠ r.port →
     (∀ rq ∈ s.mar.queue, rq.port ≠ r.port) → s.mar.slot r.port = none → s.xhc.referenceValid = true →
     (r.port = .sequencer → s.inputs.gateOpen = false) →
     exec (.moveTo r target speed) s =
       .next (answered .moveTo r .queued (.motion (.queued (s.mar.queue.length + 1)) none)
         { s with mar := { s.mar with
           queue := s.mar.queue ++ [{ port := r.port, tag := r.tag, job := .moveTo target speed }] } })) ∧
  (∀ (r : Req) (s : State) (a : ActiveMotion) (w : Int),
     r.form = .whole → r.port = .cell → s.tex.test = none → s.inputs.estop = false → s.ldc.loadFault = false → LimitsClear s →
     s.mar.active = some a → a.port = .sequencer → (∃ p v c q, a.job = .move p v c q) ∨ (∃ ph, a.job = .search ph) →
     (∀ rq ∈ s.mar.queue, rq.port ≠ .cell) → s.mar.cellSlot = none →
     w = clampTo s.xhc.config.lowerSoft s.xhc.config.upperSoft s.xhc.config.retractPosition →
     (s.xhc.drive = .releasing ∨ s.xhc.drive = .moving → s.xhc.referenceValid = true →
       s.xhc.config.band < ((w - s.xhc.position).natAbs : Int) →
       exec (.retract r) s =
         .next (answered .retract r .queued (.motion .active none)
           (raise .sequencer .motionDone
             { s with mar := { s.mar with
               active := some { port := .cell, tag := r.tag, job := .retract w s.xhc.config.vmax 0 },
               seqSlot := some (ended (activeKind a.job) a.tag .preempted s) } }))) ∧
     (s.mar.queue = [] → s.xhc.config.holdTime ≠ 0 → ∀ c : Completion,
       (s.xhc.referenceValid = true ∧ ((w - s.xhc.position).natAbs : Int) ≤ s.xhc.config.band ∧ c = ended .retract r.tag .done s) ∨
         (s.xhc.referenceValid = false ∧ (∃ ph, a.job = .search ph) ∧
           c = { kind := .retract, tag := r.tag, outcome := .notStarted, reason := some (.refusal .noReference),
                 position := none, serial := none }) →
       exec (.retract r) s =
         .next (answered .retract r .queued (.motion .filed none)
           (raise .cell .motionDone (raise .sequencer .motionDone
             { s with
               mar := { s.mar with
                 active := none, seqSlot := some (ended (activeKind a.job) a.tag .preempted s), cellSlot := some c },
               xhc := holdingDrive s.xhc }))))) ∧
  (∀ (r : Req) (s : State) (d d0 : Direction) (speed duration v v0 n0 : Int) (tag : Tag),
     r.form = .whole → r.port = .cell → 1 ≤ speed → speed ≤ 20000 → 1 ≤ duration → duration ≤ 2000 → s.inputs.estop = false →
     s.mar.active = some { port := .cell, tag := tag, job := .jog d0 v0 n0 } → v = min speed s.xhc.config.jogLimit →
     (limitAhead s.inputs d → exec (.jog r d speed duration) s = .next (answered .jog r .atLimit .nothing s)) ∧
     (¬ limitAhead s.inputs d →
       (atSoftLimit s.xhc d = true → s.mar.queue = [] → s.xhc.config.holdTime ≠ 0 →
         exec (.jog r d speed duration) s =
           .next (answered .jog r .ok .nothing
             (raise .cell .motionDone
               { s with
                 mar := { s.mar with active := none, cellSlot := some (ended .jog tag .stoppedLimit s) },
                 xhc := holdingDrive s.xhc }))) ∧
       (atSoftLimit s.xhc d = false → s.xhc.drive = .releasing →
         exec (.jog r d speed duration) s =
           .next (answered .jog r .ok .nothing
             { s with mar := { s.mar with active := some { port := .cell, tag := tag, job := .jog d v duration } } })) ∧
       (atSoftLimit s.xhc d = false → s.xhc.drive = .moving → 1 ≤ s.xhc.config.jogLimit →
         exec (.jog r d speed duration) s =
           .next (answered .jog r .ok .nothing
             { s with
               mar := { s.mar with active := some { port := .cell, tag := tag, job := .jog d v duration } },
               xhc := { s.xhc with
                 jogTimer := some duration, word := (match d with | .up => v * 1000 | .down => -(v * 1000)) } })))) ∧
  (∀ (r : Req) (s : State) (d : Direction) (speed duration v : Int),
     r.form = .whole → r.port = .cell → 1 ≤ speed → speed ≤ 20000 → 1 ≤ duration → duration ≤ 2000 → s.inputs.estop = false →
     ¬ limitAhead s.inputs d → s.mar.holder ≠ some .cell → s.mar.waiter ≠ some .cell → (∀ a ∈ s.mar.active, a.port ≠ .cell) →
     (∀ rq ∈ s.mar.queue, rq.port ≠ .cell) → s.mar.cellSlot = none → v = min speed s.xhc.config.jogLimit →
     (s.inputs.gateOpen = false → exec (.jog r d speed duration) s = .next (answered .jog r .noClaim .nothing s)) ∧
     (s.inputs.gateOpen = true →
       (s.mar.holder = none → s.mar.active = none → s.mar.queue = [] →
         s.xhc.drive = .disabled ∨ (s.xhc.drive = .holding ∧ atSoftLimit s.xhc d = false) →
         exec (.jog r d speed duration) s =
           .next (answered .jog r .queued (.motion .active (some .holder))
             { s with
               mar := { s.mar with
                 holder := some .cell, active := some { port := .cell, tag := r.tag, job := .jog d v duration } },
               xhc := startedJog duration s.xhc })) ∧
       (s.mar.holder ≠ none → s.mar.active ≠ none ∨ (∀ rq ∈ s.mar.queue, ¬ Eligible s rq) →
         exec (.jog r d speed duration) s =
           .next (answered .jog r .queued (.motion (.queued (s.mar.queue.length + 1)) (some .waiter))
             { s with mar := { s.mar with
               waiter := some .cell,
               queue := s.mar.queue ++ [{ port := .cell, tag := r.tag, job := .jog d speed duration }] } }))))

/-- STOP MOTION cancels the port's queued request, ends its active motion STOPPED, and is refused for a test and without a
request (R96). COLLECT COMPLETION hands over the record of the port's slot (R99). -/
def Obligations.MotionStoppedAndCollected : Prop :=
  ∀ (r : Req) (s : State), r.form = .whole → r.port ≠ .record →
    (∀ rq, s.mar.queue = [rq] → rq.port = r.port →
      exec (.stopMotion r) s =
        .next (answered .stopMotion r .ok .nothing
          (raise r.port .motionDone
            { s with mar :=
              { s.mar with queue := [] }.setSlot r.port (some (ended (jobKind rq.job) rq.tag .cancelled s)) }))) ∧
    (∀ a, s.mar.queue = [] → s.mar.active = some a → a.port = r.port →
      (a.job = .test → exec (.stopMotion r) s = .next (answered .stopMotion r .wrongState .nothing s)) ∧
      (a.job ≠ .test → s.xhc.config.holdTime ≠ 0 →
        exec (.stopMotion r) s =
          .next (answered .stopMotion r .ok .nothing
            (raise r.port .motionDone
              { s with
                mar := { s.mar with active := none }.setSlot r.port (some (ended (activeKind a.job) a.tag .stopped s)),
                xhc := holdingDrive s.xhc })))) ∧
    (s.mar.queue = [] → s.mar.active = none →
      exec (.stopMotion r) s = .next (answered .stopMotion r .wrongState .nothing s)) ∧
    (s.mar.slot r.port = none →
      exec (.collectCompletion r) s = .next (answered .collectCompletion r .empty .nothing s)) ∧
    (∀ c, s.mar.slot r.port = some c →
      exec (.collectCompletion r) s =
        .next (answered .collectCompletion r .ok (.completion c) { s with mar := s.mar.setSlot r.port none }))

/-! ### The cell's requests (R10 to R14, R49, R57, R58) -/

/-- SPECIMEN MOUNTED takes a queued record into the EMPTY slot with the measured dimensions in place of the nominal ones and
the area of R9, and raises QUEUE_EMPTY with the last record (R10 to R12). SPECIMEN UNMOUNTED returns an untested record to
position 1 in band RETURNED, or drops it when the queue is full (R13), empties a TESTED slot, and is refused for a TESTING and
an EMPTY one (R14). -/
def Obligations.SpecimenMountedAndUnmounted : Prop :=
  (∀ (r : Req) (id : Text) (w t d : Option Int) (before after : List QueuedSpecimen) (q : QueuedSpecimen) (used : Dims)
     (s : State),
     r.form = .whole → r.port = .cell → textForm 1 12 id = true → (∀ x ∈ w, 200 ≤ x ∧ x ≤ 100000) →
     (∀ x ∈ t, 200 ≤ x ∧ x ≤ 100000) → (∀ x ∈ d, 200 ≤ x ∧ x ≤ 100000) → s.spt.slot = none →
     s.spt.queue = before ++ q :: after → q.specimen.id = id → (∀ x ∈ before, x.specimen.id ≠ id) →
     ((∃ w0 t0, q.specimen.dims = .flat w0 t0 ∧ d = none ∧ used = .flat (w.getD w0) (t.getD t0)) ∨
       (∃ d0, q.specimen.dims = .round d0 ∧ w = none ∧ t = none ∧ used = .round (d.getD d0))) →
     (¬ (100 ≤ areaOf used ∧ areaOf used ≤ 5000000) →
       exec (.specimenMounted r id w t d) s = .next (answered .specimenMounted r .badGeometry .nothing s)) ∧
     (100 ≤ areaOf used → areaOf used ≤ 5000000 → ∀ u : State,
       u = { s with spt :=
         { queue := before ++ after,
           slot := some
             { state := .mounted, specimen := q.specimen, used := used,
               measured := { width := w.isSome, thickness := t.isSome, diameter := d.isSome }, area := areaOf used } } } →
       exec (.specimenMounted r id w t d) s =
         .next (answered .specimenMounted r .ok .nothing
           (if before ++ after = [] then raise .record .queueEmpty u else u)))) ∧
  (∀ (r : Req) (s : State), r.form = .whole → r.port = .cell →
     (s.spt.slot = none → exec (.specimenUnmounted r) s = .next (answered .specimenUnmounted r .wrongState .nothing s)) ∧
     (∀ m, s.spt.slot = some m →
       (m.state = .testing →
         exec (.specimenUnmounted r) s = .next (answered .specimenUnmounted r .testInProgress .nothing s)) ∧
       (m.state = .tested →
         exec (.specimenUnmounted r) s =
           .next (answered .specimenUnmounted r .ok .nothing { s with spt := { s.spt with slot := none } })) ∧
       (m.state = .mounted → s.spt.queue.length < 16 →
         exec (.specimenUnmounted r) s =
           .next (answered .specimenUnmounted r .ok .nothing
             { s with spt := { queue := { specimen := m.specimen, band := .returned } :: s.spt.queue, slot := none } })) ∧
       (m.state = .mounted → 16 ≤ s.spt.queue.length →
         exec (.specimenUnmounted r) s =
           .next (answered .specimenUnmounted r .dropped .nothing { s with spt := { s.spt with slot := none } }))))

/-- EXTENSOMETER PLACED (R49): PARKED with no test becomes ATTACHED; asked for in PLACING it stops the timer, zeroes count and
reference, and the test leaves for stage 1 with the loop PENDING (R48, R114, R136). EXTENSOMETER REMOVED (R57): ATTACHED
becomes PARKED. EXTENSOMETER REMOVED in REMOVE_REQUESTED or FAULT parks the arms and releases a test HELD for it (R57, R122);
in ACTIVE it is an unannounced removal: a handover at the last valid sample, EXT_UNANNOUNCED and the handover mark set (R58), the
evaluator taking it so in TAIL too by the model's choice (log entry 39). -/
def Obligations.ExtensometerArmsAnswered : Prop :=
  (∀ (r : Req) (s : State), r.form = .whole → r.port = .cell →
     (s.exc.state = .parked → s.tex.test = none →
       exec (.extensometerPlaced r) s =
         .next (answered .extensometerPlaced r .ok .nothing { s with exc := { s.exc with state := .attached } })) ∧
     (s.exc.state = .parked → s.tex.test ≠ none →
       exec (.extensometerPlaced r) s = .next (answered .extensometerPlaced r .wrongState .nothing s)) ∧
     (∀ t b d, s.exc.state = .placeRequested → s.tex.test = some t → t.phase = .placing → s.exc.basis = some b →
       s.ldc.conversion = none → stageAt t.plan 1 = some d →
       exec (.extensometerPlaced r) s =
         .next (answered .extensometerPlaced r .ok .nothing
           { s with
             exc := { s.exc with
               state := .active, count := 0, placement := none, tracker := none,
               lastActive := some { ext := 0, xh := 0, number := none },
               basis := some { b with p0 := s.xhc.position } },
             tex := { s.tex with
               test := some (({ t with
                 phase := .running,
                 stage := some { index := 1, rate := d.rate, elapsed := 0, endLogged := false, timeoutLogged := false } }
                   : TestContext).logEvent ⟨.stage, sampleNumber t.arrivals, 1⟩) },
             rlp := { mode := loopModeOf d.mode, rate := some d.rate, target := none, seed := .pending, setPoint := 0 },
             cps := eventMarked s.cps })) ∧
     (s.exc.state = .attached →
       exec (.extensometerRemoved r) s =
         .next (answered .extensometerRemoved r .ok .nothing { s with exc := { s.exc with state := .parked } })) ∧
     (s.exc.state = .parked ∨ s.exc.state = .placeRequested →
       exec (.extensometerRemoved r) s = .next (answered .extensometerRemoved r .wrongState .nothing s))) ∧
  (∀ (r : Req) (s : State) (t : TestContext), r.form = .whole → r.port = .cell → s.tex.test = some t →
     (s.exc.state = .removeRequested ∨ s.exc.state = .fault → t.phase = .held .extRemoval .running →
       exec (.extensometerRemoved r) s =
         .next (answered .extensometerRemoved r .ok .nothing
           { s with
             exc := { s.exc with state := .parked, removal := none },
             tex := { s.tex with
               test := some (({ t with phase := .running } : TestContext).logEvent
                 ⟨.resume, sampleNumber t.arrivals, 3⟩) },
             rlp := { s.rlp with target := none, seed := .pending, setPoint := 0 }, cps := eventMarked s.cps })) ∧
     (∀ a b n, s.exc.state = .active → s.exc.lastActive = some a → s.exc.basis = some b → a.number = some n →
       exec (.extensometerRemoved r) s =
         .next (answered .extensometerRemoved r .ok .nothing
           { s with
             exc := { s.exc with state := .parked, basis := some { b with h := a.ext - a.xh } },
             tex := { s.tex with
               test := some
                 { (({ t with flags := { t.flags with extUnannounced := true } } : TestContext).logEvent
                     ⟨.handover, n, a.ext - a.xh⟩) with
                   handoverMark := true, rev := evaluationLeaves t.rev } },
             cps := eventMarked s.cps })))

/-! ### The quality station's requests (R5, R6, R185, R192 to R196, R210 to R212) -/

/-- ENQUEUE SPECIMEN queues a record in form with a new identifier, RUSH ahead of every NORMAL record and NORMAL at the end; it
is refused with DUPLICATE and QUEUE_FULL (R4, R5). CANCEL SPECIMEN takes a queued record out, those behind it closing up; it is
refused with MOUNTED for the slot's record and with UNKNOWN_SPECIMEN for no record (R6). -/
def Obligations.SpecimenEnqueuedAndCancelled : Prop :=
  (∀ (r : Req) (p : SpecimenParams) (x : SpecimenRecord) (s : State), r.form = .whole → r.port = .record → specimenOf p = some x →
     ((∃ q ∈ s.spt.queue, q.specimen.id = x.id) ∨ (∃ m, s.spt.slot = some m ∧ m.specimen.id = x.id) →
       exec (.enqueueSpecimen r p) s = .next (answered .enqueueSpecimen r .duplicate .nothing s)) ∧
     ((∀ q ∈ s.spt.queue, q.specimen.id ≠ x.id) → (∀ m, s.spt.slot = some m → m.specimen.id ≠ x.id) →
       (16 ≤ s.spt.queue.length →
         exec (.enqueueSpecimen r p) s = .next (answered .enqueueSpecimen r .queueFull .nothing s)) ∧
       (s.spt.queue.length < 16 → x.rush = false →
         exec (.enqueueSpecimen r p) s =
           .next (answered .enqueueSpecimen r .ok .nothing
             { s with spt := { s.spt with queue := s.spt.queue ++ [{ specimen := x, band := .normal }] } })) ∧
       (∀ early normal, s.spt.queue.length < 16 → x.rush = true → s.spt.queue = early ++ normal →
         (∀ q ∈ early, q.band ≠ .normal) → (∀ q ∈ normal, q.band = .normal) →
         exec (.enqueueSpecimen r p) s =
           .next (answered .enqueueSpecimen r .ok .nothing
             { s with spt := { s.spt with queue := early ++ { specimen := x, band := .rush } :: normal } })))) ∧
  (∀ (r : Req) (id : Text) (s : State), r.form = .whole → r.port = .record →
     (textForm 1 12 id = false →
       exec (.cancelSpecimen r id) s = .next (answered .cancelSpecimen r .badParameter .nothing s)) ∧
     (textForm 1 12 id = true →
       (∀ before q after, s.spt.queue = before ++ q :: after → q.specimen.id = id → (∀ x ∈ before, x.specimen.id ≠ id) →
         exec (.cancelSpecimen r id) s =
           .next (answered .cancelSpecimen r .ok .nothing { s with spt := { s.spt with queue := before ++ after } })) ∧
       ((∀ q ∈ s.spt.queue, q.specimen.id ≠ id) →
         (∀ m, s.spt.slot = some m → m.specimen.id = id →
           exec (.cancelSpecimen r id) s = .next (answered .cancelSpecimen r .mounted .nothing s)) ∧
         ((∀ m, s.spt.slot = some m → m.specimen.id ≠ id) →
           exec (.cancelSpecimen r id) s = .next (answered .cancelSpecimen r .unknownSpecimen .nothing s)))))

/-- SET GRADE LIMITS makes a grade's entry UNDEFINED or DEFINED with six bounds that are ANY or in range, minima not above
maxima (R195). -/
def Obligations.GradeLimitsSet : Prop :=
  ∀ (r : Req) (g : Fin 32) (l : Option GradeLimits) (s : State), r.form = .whole → r.port = .record →
    ((∀ x ∈ l, limitsForm x = true) →
      exec (.setGradeLimits r g.val l) s =
        .next (answered .setGradeLimits r .ok .nothing
          { s with rsl := { s.rsl with limits := s.rsl.limits.set g.val l g.isLt } })) ∧
    ((∃ x ∈ l, limitsForm x = false) →
      exec (.setGradeLimits r g.val l) s = .next (answered .setGradeLimits r .badParameter .nothing s))

/-- READ GRADE LIMITS: a code outside 0..31 is refused with BAD_PARAMETER, an UNDEFINED entry answered EMPTY, a DEFINED one OK
with its six bounds; nothing else changes (R196). -/
def Obligations.ReadGradeLimitsReportsTheEntry : Prop :=
  ∀ (r : Req) (g : Int) (s : State), r.form = .whole →
    (r.port ≠ .record →
      exec (.readGradeLimits r g) s = .next (answered .readGradeLimits r .notPermitted .nothing s)) ∧
    (r.port = .record →
      (¬ (0 ≤ g ∧ g ≤ 31) →
        exec (.readGradeLimits r g) s = .next (answered .readGradeLimits r .badParameter .nothing s)) ∧
      (∀ i : Fin 32, (i.val : Int) = g →
        (s.rsl.limits[i] = none →
          exec (.readGradeLimits r g) s = .next (answered .readGradeLimits r .empty .nothing s)) ∧
        (∀ l, s.rsl.limits[i] = some l →
          exec (.readGradeLimits r g) s = .next (answered .readGradeLimits r .ok (.limits l) s))))

/-- The result evaluator keeps the results in progress at each arrival in a test: the saturation flag (R148) and the last valid
sample (R149). At an evaluated sample, a good one in RUNNING with the gate closed (R147), at which no handover is made, the
modulus fit (R150 to R155), the offset-yield search (R155 to R157) and the yield tracker (R160 to R163) take it, and RP_FOUND,
YIELD_DROP and YIELD_END are entered (R159, R161 to R163). COLLECT RESULT takes the head record off the results list (R192); PEEK
RESULT reads it and leaves the list (R193); both are answered EMPTY on an empty list. -/
def Obligations.ResultsCollectedAndPeeked : Prop :=
  (∀ (s : State) (t : TestContext) (m : MountedSpecimen) (b : StrainBasis) (range : LoadRange) (l : Latch) (code : Int),
     ArrivalInTest s t m b range l →
     ∃ u y, exec (.sampleArrival code) s = .next u ∧ u.ldc.latest = some y ∧
       ∀ t', u.tex.test = some t' → ∀ point : SamplePoint,
         point = { number := y.number.getD 0, force := y.force, stress := y.stress.getD 0, strain := y.strain,
                   source := y.source } →
         t'.rev.saturated = (t.rev.saturated || y.saturated) ∧
         t'.rev.lastValid = (if y.invalid then t.rev.lastValid else some point) ∧
         (t.phase = .running → GoodSample s range code → Unbroken s t.plan (netForce s range code) →
           s.inputs.gateOpen = false → (s.exc.state = .active → u.exc.state = .active) → ∀ v v' : Evaluation,
           v = t.rev → v' = t'.rev →
           FitEvaluates t.plan point v v' ∧ SearchEvaluates t.plan point v v' ∧
           TrackerEvaluates t.plan (v.search.state = .searching ∧ v'.search.state = .found) point v.tracker v'.tracker ∧
           (HasRoom t →
             (∀ q, v.search.state = .searching → v'.search.state = .found → v'.search.rp = some q →
               ⟨.rpFound, y.number.getD 0, roundToResolution t.plan.roundMode t.plan.stressRes q.num q.den⟩ ∈ t'.events) ∧
             (∀ h, v.tracker.state = .rising → v'.tracker.state = .inPhase → v'.tracker.reH = some h →
               ⟨.yieldDrop, y.number.getD 0, h⟩ ∈ t'.events) ∧
             (v.tracker.state = .rising → v'.tracker.state = .ended → ⟨.yieldEnd, y.number.getD 0, 0⟩ ∈ t'.events) ∧
             (∀ h, v.tracker.state = .inPhase → v'.tracker.state = .ended → v'.tracker.reL = some h →
               ⟨.yieldEnd, y.number.getD 0, h⟩ ∈ t'.events)))) ∧
  ∀ (r : Req) (s : State), r.form = .whole → r.port = .record →
    (s.rsl.results = [] →
      exec (.collectResult r) s = .next (answered .collectResult r .empty .nothing s) ∧
      exec (.peekResult r) s = .next (answered .peekResult r .empty .nothing s)) ∧
    (∀ x rest, s.rsl.results = x :: rest →
      exec (.collectResult r) s =
        .next (answered .collectResult r .ok (.result x) { s with rsl := { s.rsl with results := rest } }) ∧
      exec (.peekResult r) s = .next (answered .peekResult r .ok (.result x) s))

/-- Each arrival in a test is taken by the capture store (R176, R177): a sample whose number is no multiple of the thinning factor
and that carries no EVENT is thinned (R179); a kept one is written into the FILLING page, whose 256th entry makes it FULL (R180,
R181), or into a page opened for it, or is lost (R182). READ PAGE hands out the head page, which becomes FREE; while CAPTURING the
level falls to that of the new free count, with no event and no notice (R185, R178). -/
def Obligations.PageReadAndFreed : Prop :=
  (∀ (s : State) (t : TestContext) (m : MountedSpecimen) (b : StrainBasis) (range : LoadRange) (l : Latch) (code : Int)
     (c : CaptureContext),
     ArrivalInTest s t m b range l → s.cps.capture = some c → PortsSound s → HasRoom t →
     ∃ u y, exec (.sampleArrival code) s = .next u ∧ u.ldc.latest = some y ∧
       ∀ t' c', u.tex.test = some t' → u.cps.capture = some c' →
         c'.serial = c.serial ∧ c'.taken = c.taken + 1 ∧ c'.pendingEvent = false ∧
         ∀ (event kept : Prop) (e : CaptureEntry),
           (event ↔ c.pendingEvent = true ∨ u.ldc.peak ≠ s.ldc.peak ∨ t'.events ≠ t.events) →
           (kept ↔ ((y.number.getD 0 : Nat) : Int) % (t.plan.divisor * 2 ^ c.level) = 0 ∨ event) →
           e = { number := y.number.getD 0, force := y.force, stress := y.stress.getD 0, strain := y.strain,
                 extCount := y.extCount, position := y.position, setPoint := u.xhc.word, invalid := y.invalid,
                 saturated := y.saturated, strainXh := y.source == .xh, held := u.isHeld, event := e.event } →
           (e.event = true ↔ event) →
           (¬ kept → c'.thinned = c.thinned + 1 ∧ c'.stored = c.stored ∧ c'.lost = c.lost ∧ c'.filling = c.filling ∧
             u.cps.full = s.cps.full) ∧
           (kept → c'.thinned = c.thinned ∧
             (∀ p, c.filling = some p → c'.stored = c.stored + 1 ∧ c'.lost = c.lost ∧ c'.lossRun = false ∧
               (p.entries.length + 1 < 256 →
                 c'.filling = some { p with entries := p.entries ++ [e] } ∧ u.cps.full = s.cps.full) ∧
               (256 ≤ p.entries.length + 1 →
                 c'.filling = none ∧ u.cps.full = s.cps.full ++ [{ p with entries := p.entries ++ [e] }] ∧
                 u.flag .record .pageReady = .raised)) ∧
             (c.filling = none → s.cps.full.length < 128 →
               c'.stored = c.stored + 1 ∧ c'.lost = c.lost ∧ c'.lossRun = false ∧ c'.nextIndex = c.nextIndex + 1 ∧
               c'.level = levelOf (127 - s.cps.full.length) ∧ u.cps.full = s.cps.full ∧
               c'.filling = some
                 { serial := c.serial, index := c.nextIndex, first := y.number.getD 0, last := false, entries := [e],
                   own := true } ∧
               (c.level < c'.level →
                 u.flag .record .capturePressure = .raised ∧
                 ⟨.captureThin, y.number.getD 0, c'.level⟩ ∈ t'.events)) ∧
             (c.filling = none → 128 ≤ s.cps.full.length →
               c'.lost = c.lost + 1 ∧ c'.stored = c.stored ∧ c'.lossRun = true ∧ c'.filling = none ∧
               u.cps.full = s.cps.full ∧ t'.flags.captureGap = true ∧
               (c.lossRun = false → ⟨.captureLoss, y.number.getD 0, c.lost + 1⟩ ∈ t'.events)))) ∧
  ∀ (r : Req) (s : State), r.form = .whole → r.port = .record → CaptureSound s →
    (s.cps.full = [] → exec (.readPage r) s = .next (answered .readPage r .empty .nothing s)) ∧
    (∀ p rest, s.cps.full = p :: rest →
      exec (.readPage r) s =
        .next (answered .readPage r .ok (.page p)
          { s with cps :=
            { full := rest,
              capture := s.cps.capture.map fun c =>
                { c with level := levelOf (128 - rest.length - fillingCount s.cps) } } }))

/-- WRITE SITE CALIBRATION begins programming a range's site table (R210); at the programming completion a table read back as
written is VALID and active, another is INVALID, the factory table active and CAL_VERIFY entered; tare becomes 0 and CAL_DONE
is raised (R211, R30). Two details are the model's choice (log entry 18): the points of the table before stay in it while it is
PROGRAMMING, and a table that failed its verification holds the points read back. -/
def Obligations.SiteCalibrationProgrammed : Prop :=
  (∀ (r : Req) (x : LoadRange) (points : List CalPoint) (s : State), r.form = .whole → r.port = .record →
    s.tex.test = none → s.cal.inFlight = none →
    exec (.writeSiteCalibration r .factory (rangeNumber x) points) s =
      .next (answered .writeSiteCalibration r .isProtected .nothing s) ∧
    (tableForm points = false →
      exec (.writeSiteCalibration r .site (rangeNumber x) points) s =
        .next (answered .writeSiteCalibration r .badTable .nothing s)) ∧
    (tableForm points = true →
      exec (.writeSiteCalibration r .site (rangeNumber x) points) s =
        .next (answered .writeSiteCalibration r .ok .nothing
          { s with cal := { s.cal with
            site := s.cal.site.put x { validity := .programming, points := (s.cal.site.get x).points },
            inFlight := some { range := x, points := points } } }))) ∧
  (∀ (w : CalWrite) (read : List CalPoint) (s : State), s.cal.inFlight = some w →
    (read = w.points →
      exec (.calProgrammingCompletion read) s =
        .next (raise .record .calDone
          { s with
            cal := { s.cal with site := s.cal.site.put w.range { validity := .valid, points := read }, inFlight := none },
            ldc := { s.ldc with active := s.ldc.active.put w.range { source := .site, points := read }, tare := 0 } })) ∧
    (read ≠ w.points →
      exec (.calProgrammingCompletion read) s =
        .next (raise .record .calDone (enterFault .calVerify
          { s with
            cal := { s.cal with site := s.cal.site.put w.range { validity := .invalid, points := read }, inFlight := none },
            ldc := { s.ldc with
              active := s.ldc.active.put w.range { source := .factory, points := s.cal.factory.get w.range },
              tare := 0 } }))))

/-- READ CALIBRATION is answered OK with, for each range, the factory table and full scale, the site table with its validity
(without points while PROGRAMMING), and which is active; it changes nothing (R212). -/
def Obligations.ReadCalibrationReportsTheStore : Prop :=
  ∀ (r : Req) (s : State), r.form = .whole →
    (r.port ≠ .record →
      exec (.readCalibration r) s = .next (answered .readCalibration r .notPermitted .nothing s)) ∧
    (r.port = .record →
      ∃ c : PerRange RangeCalibration,
        exec (.readCalibration r) s = .next (answered .readCalibration r .ok (.calibration c) s) ∧
        ∀ x : LoadRange,
          (c.get x).factory = s.cal.factory.get x ∧
          (c.get x).fullScale =
            (match x with
             | .r1 => some s.cal.fullScale1
             | .r2 => some s.cal.fullScale2
             | .r3 => some s.cal.fullScale3
             | .r4 => none) ∧
          (c.get x).validity = (s.cal.site.get x).validity ∧
          ((s.cal.site.get x).validity = .programming → (c.get x).points = none) ∧
          ((s.cal.site.get x).validity ≠ .programming → (c.get x).points = some (s.cal.site.get x).points) ∧
          (c.get x).active = (s.ldc.active.get x).source)

/-! ### Resets -/

/-- A power-on reset leaves every block as its chapter says, and keeps the calibration store (R18, R40, R63, R84, R102, R130,
R145, R187, R199, R213). A warm reset keeps the queue (R18), the configuration and the position (R84), the plans and the serial
(R130), the FULL pages of earlier tests (R187), the results and the grade limits (R199), the site tables and full scales (R213)
and the active tables, a range whose programming it cuts short apart (R25), and discards the test, the slot, the claim, the motions
and the last valid gross force (R40). The model's choices in it: the inputs stand as they were (log entry 3), nothing has been
shifted out (`resetPorts`, log entry 6), and which pages are a discarded test's is told by their mark (log entry 18). -/
def Obligations.ResetsLeave : Prop :=
  (∀ s : State, ∃ u, exec .powerOnReset s = .next u ∧
     u.spt = { queue := [], slot := none } ∧ u.mar = resetArbiter ∧ u.exc = resetExtensometer ∧
     u.xhc = { config := powerOnConfig, locked := false, position := 0, referenceValid := false, drive := .disabled,
               brakeTimer := none, holdTimer := none, jogTimer := none, searchTravel := 0, word := 0 } ∧
     (∀ i : Fin 8, u.tex.plans[i] = none) ∧ u.tex.serial = 0 ∧ u.tex.test = none ∧ u.rlp = idleLoop ∧
     u.cps = { full := [], capture := none } ∧ u.rsl.results = [] ∧ u.rsl.reserved = false ∧
     (∀ g : Fin 32, u.rsl.limits[g] = none) ∧ u.pif = resetPorts ∧
     u.cal.factory = s.cal.factory ∧ u.cal.fullScale1 = s.cal.fullScale1 ∧ u.cal.fullScale2 = s.cal.fullScale2 ∧
     u.cal.fullScale3 = s.cal.fullScale3 ∧ u.cal.inFlight = none ∧
     (∀ x : LoadRange,
       ((s.cal.site.get x).validity = .programming → (u.cal.site.get x).validity = .invalid) ∧
       ((s.cal.site.get x).validity ≠ .programming → u.cal.site.get x = s.cal.site.get x) ∧
       u.ldc.active.get x =
         (if (s.cal.site.get x).validity = .valid then ⟨.site, (s.cal.site.get x).points⟩
          else ⟨.factory, s.cal.factory.get x⟩)) ∧
     u.ldc.sampleInterval = 1000 ∧ u.ldc.range = .r4 ∧ u.ldc.settle = 4 ∧ u.ldc.tare = 0 ∧ u.ldc.latest = none ∧
     u.ldc.conversion = none ∧ u.ldc.missCount = 0 ∧ u.ldc.loadFault = false ∧ u.ldc.overload = false ∧
     u.ldc.lastValidGross = none ∧ u.ldc.peak = none ∧ u.inputs = s.inputs) ∧
  (∀ s : State, ∃ u, exec .warmReset s = .next u ∧
     u.spt = { queue := s.spt.queue, slot := none } ∧ u.mar = resetArbiter ∧ u.exc = resetExtensometer ∧
     u.xhc = { config := s.xhc.config, locked := false, position := s.xhc.position, referenceValid := false,
               drive := .disabled, brakeTimer := none, holdTimer := none, jogTimer := none, searchTravel := 0, word := 0 } ∧
     u.tex = { plans := s.tex.plans, serial := s.tex.serial, test := none } ∧ u.rlp = idleLoop ∧
     u.cps = { full := s.cps.full.filter (fun p => !p.own), capture := none } ∧
     u.rsl = { results := s.rsl.results, reserved := false, limits := s.rsl.limits } ∧ u.pif = resetPorts ∧
     u.cal.factory = s.cal.factory ∧ u.cal.fullScale1 = s.cal.fullScale1 ∧ u.cal.fullScale2 = s.cal.fullScale2 ∧
     u.cal.fullScale3 = s.cal.fullScale3 ∧ u.cal.inFlight = none ∧
     (∀ x : LoadRange,
       ((s.cal.site.get x).validity = .programming →
         (u.cal.site.get x).validity = .invalid ∧ u.ldc.active.get x = ⟨.factory, s.cal.factory.get x⟩) ∧
       ((s.cal.site.get x).validity ≠ .programming →
         u.cal.site.get x = s.cal.site.get x ∧ u.ldc.active.get x = s.ldc.active.get x)) ∧
     u.ldc.sampleInterval = s.xhc.config.sampleInterval ∧ u.ldc.range = .r4 ∧ u.ldc.settle = 4 ∧ u.ldc.tare = 0 ∧
     u.ldc.latest = none ∧ u.ldc.conversion = none ∧ u.ldc.missCount = 0 ∧ u.ldc.loadFault = false ∧
     u.ldc.overload = false ∧ u.ldc.lastValidGross = none ∧ u.ldc.peak = none ∧ u.inputs = s.inputs)

/-! ### Sampling (R19 to R24, R50, R56, R118, R125) -/

/-- A sample timer expiry outside a test starts the next conversion on the current range and counts a miss when the previous
conversion has not arrived (R21, R31); at the fourth miss a load fault is declared: the state active, the fault entered, the
zero word (R22). That LOAD_FAULT_DECLARATION is this expiry whole is the model's choice (log entry 19). The conversion-end strobe
latches the extensometer count and the position into the conversion in flight, and is ignored with none (R20); that a second strobe
of one conversion latches nothing is the model's choice (log entry 15). In a test an expiry that declares no load fault advances the
stage's elapsed time by the sample interval in RUNNING, whether or not its conversion arrives, and in no other state (R118). -/
def Obligations.ExpiryAndStrobe : Prop :=
  (∀ (s : State) (t : TestContext) (x : StageRun), s.tex.test = some t → t.stage = some x → s.ldc.loadFault = false →
     s.exc.placement = none → s.ldc.conversion = none ∨ s.ldc.missCount ≠ 3 →
     ∃ u t', exec .sampleTimerExpiry s = .next u ∧ u.tex.test = some t' ∧
       (t.phase = .running → t'.phase = .running ∧
         t'.stage = some { x with elapsed := x.elapsed + s.ldc.sampleInterval }) ∧
       (t.phase ≠ .running → t'.stage = some x) ∧
       u.ldc.conversion = some { range := s.ldc.range, latch := none } ∧ u.rlp = s.rlp ∧ u.xhc = s.xhc ∧ u.mar = s.mar) ∧
  (∀ s : State, s.tex.test = none → s.mar.active = none → s.ldc.loadFault = false →
     (s.ldc.conversion = none →
       exec .sampleTimerExpiry s =
         .next { s with ldc := { s.ldc with conversion := some { range := s.ldc.range, latch := none } } }) ∧
     (∀ c, s.ldc.conversion = some c → s.ldc.missCount < 3 →
       exec .sampleTimerExpiry s =
         .next { s with ldc := { s.ldc with
           conversion := some { range := s.ldc.range, latch := none }, missCount := s.ldc.missCount + 1 } }) ∧
     (∀ c, s.ldc.conversion = some c → s.ldc.missCount = 3 →
       exec .loadFaultDeclaration s = exec .sampleTimerExpiry s ∧
       exec .loadFaultDeclaration s =
         .next (enterFault .loadFault
           { s with
             ldc := { s.ldc with
               conversion := some { range := s.ldc.range, latch := none }, missCount := 4, loadFault := true },
             xhc := { s.xhc with word := 0 } }))) ∧
  (∀ s : State,
     (s.ldc.conversion = none → exec .conversionEndStrobe s = .next s) ∧
     (∀ range l, s.ldc.conversion = some { range := range, latch := some l } → exec .conversionEndStrobe s = .next s) ∧
     (∀ range, s.ldc.conversion = some { range := range, latch := none } →
       exec .conversionEndStrobe s =
         .next { s with ldc := { s.ldc with
           conversion := some
             { range := range, latch := some { extCount := s.exc.count, position := s.xhc.position } } } }))

/-- The placement timeout in PLACING parks the arms, sets EXT_NOT_PLACED and the handover mark, and the test leaves for stage 1
(R50, R53, R114). The removal timeout in HOLD mode turns a hold for removal into EXT_LATE and tells the sequencer (R56, R120).
That these two rows are their expiry whole is the model's choice (log entry 19), and so is that a stage entered at an expiry
starts with no elapsed time (log entry 14). At a good sample in ACTIVE, RUNNING or HELD: slip hands over to the crosshead at the
tracker's sample, with EXT_SLIP and FAULT (R59, R60); else a removal criterion hands over at this sample, which keeps its
extensometer strain (R51, R52); else the sample is the last valid one in ACTIVE (R46). In HOLD mode a handover holds a RUNNING test
(R54). -/
def Obligations.ExtensometerTimeouts : Prop :=
  (∀ (s : State) (t : TestContext) (m : MountedSpecimen) (b : StrainBasis) (range : LoadRange) (l : Latch)
     (code force le ext xh : Int),
     ArrivalInTest s t m b range l → PortsSound s → s.exc.state = .active → t.phase = .running ∨ (∃ c ret, t.phase = .held c ret) →
     s.inputs.gateOpen = false → GoodSample s range code → force = netForce s range code → Unbroken s t.plan force →
     HasRoom t → b.le = some le → ext = roundNearest (l.extCount.toInt * 100000) le →
     xh = roundNearest ((l.position - b.p0) * 1000000) b.lc →
     ∃ u y, exec (.sampleArrival code) s = .next u ∧ u.ldc.latest = some y ∧
       ∀ (slips : SlipRecord → Prop) (removes handover : Prop),
         (∀ k, slips k ↔ s.exc.tracker = some k ∧ ext < k.ext - t.plan.slipThreshold ∧ k.force ≤ force) →
         (removes ↔ (∀ k, ¬ slips k) ∧
           ((t.plan.removalStrain ≠ 0 ∧ t.plan.removalStrain ≤ y.strain) ∨
             (t.plan.removalDrop ≠ 0 ∧ ∃ k, u.ldc.peak = some k ∧ t.plan.fractureFloor ≤ k.force ∧
               force * 1000 < k.force * (1000 - t.plan.removalDrop)))) →
         (handover ↔ removes ∨ ∃ k, slips k) →
         (∀ k, slips k →
           y.source = .xh ∧ y.strain = clampTo (-1000000) 1000000 (xh + (k.ext - k.xh)) ∧
           u.exc.basis = some { b with h := k.ext - k.xh } ∧ u.pif.faults.extSlip = true ∧
           ∀ t', u.tex.test = some t' → u.exc.state = .fault ∧ t'.flags.extSlip = true ∧
             ⟨.handover, k.number, k.ext - k.xh⟩ ∈ t'.events) ∧
         ((∀ k, ¬ slips k) → y.source = .ext ∧ y.strain = clampTo (-1000000) 1000000 ext) ∧
         (removes →
           u.exc.basis = some { b with h := ext - xh } ∧
           ∀ t', u.tex.test = some t' → u.exc.state = .removeRequested ∧
             ⟨.handover, sampleNumber t.arrivals, ext - xh⟩ ∈ t'.events) ∧
         (handover →
           u.flag .cell .extRemoveReq = .raised ∧
           ∀ t', u.tex.test = some t' → u.exc.removal = some 0 ∧ t'.handoverMark = true ∧
             (t.plan.removalMode = .hold → t.phase = .running →
               t'.phase = .held .extRemoval .running ∧ u.rlp.setPoint = 0 ∧
               ⟨.hold, sampleNumber t.arrivals, 3⟩ ∈ t'.events) ∧
             (t.phase ≠ .running → t'.phase = t.phase) ∧
             (t.plan.removalMode = .goOn → t.phase = .running → t'.phase = .running)) ∧
         (¬ handover → ∀ t', u.tex.test = some t' →
           u.exc.state = .active ∧ u.exc.basis = some b ∧ t'.handoverMark = t.handoverMark ∧
           u.exc.lastActive = some { ext := ext, xh := xh, number := y.number } ∧
           u.exc.tracker = some
             (match s.exc.tracker with
              | some k =>
                if k.ext < ext then { ext := ext, number := sampleNumber t.arrivals, force := force, xh := xh } else k
              | none => { ext := ext, number := sampleNumber t.arrivals, force := force, xh := xh }))) ∧
  ∀ (s : State) (t : TestContext) (e : Int), s.tex.test = some t → s.ldc.conversion = none → s.ldc.loadFault = false →
    (∀ d, t.phase = .placing → s.exc.placement = some e → s.exc.removal = none →
      t.plan.placementTimeout * 1000000 ≤ e + s.ldc.sampleInterval → stageAt t.plan 1 = some d →
      exec .placementTimeout s =
        .next { s with
          ldc := { s.ldc with conversion := some { range := s.ldc.range, latch := none } },
          exc := { s.exc with state := .parked, placement := none },
          tex := { s.tex with
            test := some (({ t with
              phase := .running, flags := { t.flags with extNotPlaced := true }, handoverMark := true,
              stage := some { index := 1, rate := d.rate, elapsed := 0, endLogged := false, timeoutLogged := false } }
                : TestContext).logEvent ⟨.stage, sampleNumber t.arrivals, 1⟩) },
          rlp := { mode := loopModeOf d.mode, rate := some d.rate, target := none, seed := .pending, setPoint := 0 },
          cps := eventMarked s.cps }) ∧
    (∀ ret, t.phase = .held .extRemoval ret → s.exc.placement = none → s.exc.removal = some e →
      t.plan.removalMode = .hold → t.plan.removalTimeout * 1000000 ≤ e + s.ldc.sampleInterval →
      exec .removalTimeout s =
        .next (raise .sequencer .extLate
          { s with
            ldc := { s.ldc with conversion := some { range := s.ldc.range, latch := none } },
            exc := { s.exc with removal := none },
            tex := { s.tex with
              test := some (({ t with
                phase := .held .extLate ret, flags := { t.flags with extLate := true } } : TestContext).logEvent
                  ⟨.hold, sampleNumber t.arrivals, 4⟩) },
            cps := eventMarked s.cps }))

/-- A sample arrival outside a test, with no motion active and no strain basis, forms its sample set from the active table,
tare and area and publishes it (R24 to R28), counts the settling down (R32), clears miss count and load fault (R21, R23), sets
the overload state and enters OVERLOAD at its onset (R36, R37), and sends the zero word (R70). In a test the set is numbered
(R24), its strain that of the crosshead while the extensometer is not ACTIVE (R44, R45); a valid sample above the test peak
replaces it (R38); and a sample that triggers auto step-up raises the range, restarts the settling and enters RANGE_UP (R35). With
another motion MOVING, an arrival that is not overloaded ends a MOVE TO or RETRACT whose latched position is in band DONE or
DONE_CLAMPED, gives it its profile value by the approach distance otherwise (R75), and sends the motion's word (R70), which at a soft
limit is the soft-limit event (R79); an overloaded one ends the motion OVERLOAD, but a JOG (R36), within the band too by the model's
choice (log entry 30). -/
def Obligations.ArrivalPublishesASample : Prop :=
  (∀ (s : State) (code : Int) (range : LoadRange) (l : Latch) (port : Port) (tag : Tag) (j : ActiveJob) (overloaded : Prop),
     s.tex.test = none → s.mar.active = some { port := port, tag := tag, job := j } → j ≠ .test → s.xhc.drive = .moving →
     s.mar.queue = [] → s.xhc.config.holdTime ≠ 0 → s.ldc.conversion = some { range := range, latch := some l } →
     (overloaded ↔ s.xhc.config.fcap * 105 < (netForce s range code).natAbs * 100 ∨
       ((8000000 ≤ code ∨ code ≤ -8000000) ∧ range = .r4)) →
     ∃ u, exec (.sampleArrival code) s = .next u ∧ u.tex = s.tex ∧ u.rlp = s.rlp ∧ u.inputs = s.inputs ∧
       (overloaded → (∀ d v n, j ≠ .jog d v n) →
         u.xhc = holdingDrive s.xhc ∧
         u.mar = { s.mar with active := none }.setSlot port (some (ended (activeKind j) tag .overload s))) ∧
       (¬ overloaded → ∀ w speed q clamped,
         (j = .move w speed clamped q ∨ (j = .retract w speed q ∧ clamped = false)) →
         ((w - l.position).natAbs : Int) ≤ s.xhc.config.band →
         u.xhc = holdingDrive s.xhc ∧
         u.mar = { s.mar with active := none }.setSlot port
           (some (ended (activeKind j) tag (if clamped then .doneClamped else .done) s))) ∧
       (∀ (j' : ActiveJob) (v : Int),
         (¬ overloaded ∧ ∃ w speed clamped q, j = .move w speed clamped q ∧
             s.xhc.config.band < ((w - l.position).natAbs : Int) ∧ v = profileAt s.xhc.config speed (w - l.position) ∧
             j' = .move w speed clamped v) ∨
           (¬ overloaded ∧ ∃ w speed q, j = .retract w speed q ∧ s.xhc.config.band < ((w - l.position).natAbs : Int) ∧
             v = profileAt s.xhc.config speed (w - l.position) ∧ j' = .retract w speed v) ∨
           (∃ d speed n, j = .jog d speed n ∧ j' = j ∧ v = speed * (match d with | .up => 1000 | .down => -1000)) ∨
           (¬ overloaded ∧ ∃ ph, j = .search ph ∧ j' = j ∧ s.xhc.referenceValid = false ∧
             v = s.xhc.config.searchRate * (match ph with | .waiting => 0 | .upward => 1000 | .downward => -1000)) →
         (towardSoftLimit s.xhc v = false →
           u.xhc = { s.xhc with word := wordFor s port v } ∧
           u.mar = { s.mar with active := some { port := port, tag := tag, job := j' } }) ∧
         (towardSoftLimit s.xhc v = true →
           u.xhc = holdingDrive s.xhc ∧
           u.mar = { s.mar with active := none }.setSlot port (some (ended (activeKind j) tag .stoppedLimit s))))) ∧
  (∀ (s : State) (t : TestContext) (m : MountedSpecimen) (b : StrainBasis) (range : LoadRange) (l : Latch) (code : Int)
     (overRange : Prop),
     ArrivalInTest s t m b range l → (overRange ↔ 8000000 ≤ code ∨ code ≤ -8000000) →
     ∃ u x, exec (.sampleArrival code) s = .next u ∧ u.ldc.latest = some x ∧
       x.number = some (sampleNumber t.arrivals) ∧ x.range = range ∧ x.code = code ∧
       x.gross = grossForce (s.ldc.active.get range).points code ∧ x.force = netForce s range code ∧
       x.stress = some (clampTo (-40000) 40000 (roundNearest (x.force * 1000) m.area)) ∧
       (x.invalid = true ↔ 0 < s.ldc.settle ∨ (overRange ∧ range ≠ .r4)) ∧ x.extCount = l.extCount ∧ x.position = l.position ∧
       (s.exc.state ≠ .active →
         x.source = .xh ∧
         x.strain = clampTo (-1000000) 1000000 (roundNearest ((l.position - b.p0) * 1000000) b.lc + b.h)) ∧
       (x.invalid = false ∧ (∀ k ∈ s.ldc.peak, k.force < x.force) →
         u.ldc.peak = some
           { force := x.force, number := sampleNumber t.arrivals, stress := x.stress.getD 0, strain := x.strain }) ∧
       (x.invalid = true ∨ (∃ k ∈ s.ldc.peak, x.force ≤ k.force) → u.ldc.peak = s.ldc.peak) ∧
       ∀ t', u.tex.test = some t' → ∀ steps : Prop,
         (steps ↔ t.plan.autoRange = true ∧ s.ldc.settle = 0 ∧ s.ldc.range ≠ .r4 ∧
           (fullScale s range * 9 < (x.gross.natAbs : Int) * 10 ∨ overRange)) →
         (steps →
           u.ldc.range = nextRange s.ldc.range ∧ u.ldc.settle = t.plan.settleSamples.toNat ∧ t'.flags.rangeStepped = true ∧
           (HasRoom t → ⟨.rangeUp, sampleNumber t.arrivals, rangeNumber (nextRange s.ldc.range)⟩ ∈ t'.events)) ∧
         (¬ steps →
           u.ldc.range = s.ldc.range ∧ u.ldc.settle = s.ldc.settle - 1 ∧ t'.flags.rangeStepped = t.flags.rangeStepped)) ∧
  ∀ (s : State) (code : Int) (range : LoadRange) (l : Latch) (net force : Int) (stress : Option Int) (x : SampleSet)
    (o : Bool) (u : State),
    s.tex.test = none → s.mar.active = none → s.mar.queue = [] → s.exc.basis = none →
    s.ldc.conversion = some { range := range, latch := some l } →
    net = grossForce (s.ldc.active.get range).points code - s.ldc.tare → force = clampTo (-2000000) 2000000 net →
    stress =
      (match s.spt.slot with
       | some m => if m.state = .tested then none else some (roundNearest (force * 1000) m.area)
       | none => none) →
    x =
      { number := none, range := range, code := code, overRange := decide (8000000 ≤ code ∨ code ≤ -8000000),
        gross := grossForce (s.ldc.active.get range).points code, force := force,
        stress := stress.map (clampTo (-40000) 40000),
        invalid := decide (0 < s.ldc.settle ∨ ((8000000 ≤ code ∨ code ≤ -8000000) ∧ range ≠ .r4)),
        saturated := decide (net < -2000000 ∨ 2000000 < net ∨ ∃ y ∈ stress, y < -40000 ∨ 40000 < y),
        extCount := l.extCount, position := l.position, strain := 0, source := .away } →
    o = decide (s.xhc.config.fcap * 105 < (force.natAbs : Int) * 100 ∨
      ((8000000 ≤ code ∨ code ≤ -8000000) ∧ range = .r4)) →
    u = { s with
          ldc := { s.ldc with
            conversion := none, missCount := 0, loadFault := false, settle := s.ldc.settle - 1, overload := o,
            latest := some x, lastValidGross := if x.invalid then s.ldc.lastValidGross else some x.gross },
          xhc := { s.xhc with word := 0 } } →
    exec (.sampleArrival code) s = .next (if o && !s.ldc.overload then enterFault .overload u else u)

/-- At a good sample in RUNNING the current stage is judged: its end condition first (R116), and where that is not met its timeout
(R118). Either leads to the successor, entered at this sample with its own rate and mode (R115, R117); a successor beyond the last
stage leaves the stage running, with STAGE_END and the end-logged mark (R117) or the timeout-logged mark (R118). A timeout whose action
is ABORT closes the test ABORTED with cause STAGE_TIMEOUT (R118, R127, R128). In TAIL the arrival that brings the tail count to the
plan's tail samples, not being overloaded, closes the test COMPLETE (R125, R128). Three things in it are the
model's choice: the end-logged mark stops the judgement of the end condition only, so that the timeout is judged while it is set (log
entry 13); a stage entered at a sample whose HOLD-mode handover also holds the test loads its rate and mode there (log entry 12); and
STAGE_TIMEOUT and END_OF_TAIL are their arrival whole (log entry 19). A good sample outside TAIL that fulfils the fracture criterion sends the test into
TAIL, with the last valid sample before it as the fracture sample, the extensometer's timers stopped and the set-point 0 (R61, R124,
R149); three things in it are the model's choice: it does so with the gate open too (log entry 11), the loop rate becomes absent
(log entry 16), and EXT_ON_AT_FRACTURE goes by the extensometer state at this sample alone (log entry 40). -/
def Obligations.ArrivalJudgesTheTest : Prop :=
  (∀ (s : State) (t : TestContext) (m : MountedSpecimen) (b : StrainBasis) (range : LoadRange) (l : Latch) (code : Int)
     (x : StageRun) (d : StageDef),
     ArrivalInTest s t m b range l → t.phase = .running → t.stage = some x → stageAt t.plan x.index = some d →
     s.inputs.gateOpen = false → GoodSample s range code → Unbroken s t.plan (netForce s range code) →
     ∃ u y, exec (.sampleArrival code) s = .next u ∧ u.ldc.latest = some y ∧
       ∀ t', u.tex.test = some t' → ∀ met timeout : Prop,
         (met ↔ x.endLogged = false ∧ EndReached x d y t'.rev.tracker.state t'.handoverMark) →
         (timeout ↔ ¬ met ∧ d.timeoutMs ≠ 0 ∧ x.timeoutLogged = false ∧ d.timeoutMs * 1000 ≤ x.elapsed) →
         (timeout → d.timeoutAction = .successor ∧
           (HasRoom t → ⟨.stageTimeout, sampleNumber t.arrivals, x.index⟩ ∈ t'.events)) ∧
         (met ∨ timeout → ∀ j e, successorStage t.plan x d = some (j, e) →
           t'.stage = some (enteredStage j e) ∧ u.rlp.mode = loopModeOf e.mode ∧ u.rlp.rate = some e.rate ∧
           (HasRoom t → ⟨.stage, sampleNumber t.arrivals, j⟩ ∈ t'.events)) ∧
         (met → successorStage t.plan x d = none →
           t'.stage = some { x with endLogged := true } ∧
           (HasRoom t → ⟨.stageEnd, sampleNumber t.arrivals, x.index⟩ ∈ t'.events)) ∧
         (timeout → successorStage t.plan x d = none → t'.stage = some { x with timeoutLogged := true }) ∧
         (¬ met → ¬ timeout → t'.stage = some x ∧ u.rlp.mode = s.rlp.mode ∧ u.rlp.rate = s.rlp.rate)) ∧
  (∀ (s : State) (t : TestContext) (m : MountedSpecimen) (b : StrainBasis) (range : LoadRange) (l : Latch) (code force : Int)
     (k : Peak) (y : SamplePoint),
     ArrivalInTest s t m b range l → (∀ n, t.phase ≠ .tail n) → GoodSample s range code → force = netForce s range code →
     s.ldc.peak = some k → force ≤ k.force → t.plan.fractureFloor ≤ k.force →
     force * 100 < k.force * t.plan.fractureFraction → t.plan.tailSamples ≠ 0 → t.rev.lastValid = some y → HasRoom t →
     ∃ u t', exec (.sampleArrival code) s = .next u ∧ u.tex.test = some t' ∧ t'.phase = .tail 0 ∧
       t'.fractureNumber = some y.number ∧ t'.rev.fracture = some y ∧ ⟨.fracture, y.number, y.force⟩ ∈ t'.events ∧
       u.rlp = { s.rlp with mode := .off, rate := none, target := none, setPoint := 0 } ∧ u.xhc.word = 0 ∧
       u.exc.state = s.exc.state ∧ u.exc.placement = none ∧ u.exc.removal = none ∧ u.ldc.peak = s.ldc.peak ∧
       t'.flags.extOnAtFracture =
         (t.flags.extOnAtFracture || decide (s.exc.state = .active ∨ s.exc.state = .removeRequested ∨ s.exc.state = .fault))) ∧
  (∀ (s : State) (t : TestContext) (m : MountedSpecimen) (x : StageRun) (d : StageDef) (code : Int) (range : LoadRange)
     (l : Latch) (tag : Tag),
     s.tex.test = some t → t.phase = .running → t.stage = some x → stageAt t.plan x.index = some d →
     (∀ a t', a = arrivalForExecutive code range l s → a.s.tex.test = some t' →
       x.endLogged = true ∨ ¬ EndReached x d a.set t'.rev.tracker.state t'.handoverMark) →
     d.timeoutAction = .abort → d.timeoutMs ≠ 0 → x.timeoutLogged = false → d.timeoutMs * 1000 ≤ x.elapsed →
     s.spt.slot = some m → s.mar.active = some { port := .sequencer, tag := tag, job := .test } → s.mar.queue = [] →
     s.inputs.gateOpen = false → s.ldc.settle = 0 → s.ldc.conversion = some { range := range, latch := some l } →
     -8000000 < code → code < 8000000 → sampleOverloaded s.xhc.config.fcap (loadSample code range l s) = false →
     fractures s (loadSample code range l s) = false →
     ∃ u rec, exec (.stageTimeout code) s = .next u ∧ exec (.sampleArrival code) s = .next u ∧ u.tex.test = none ∧
       u.rsl.results = s.rsl.results ++ [rec] ∧ rec.serial = t.serial ∧ rec.closure = .aborted .stageTimeout ∧
       Judged s.rsl.limits[m.specimen.grade] rec ∧
       u.spt.slot = some { m with state := .tested } ∧ u.mar.active = none ∧ u.xhc.word = 0) ∧
  (∀ (s : State) (t : TestContext) (m : MountedSpecimen) (n : Int) (code : Int) (range : LoadRange) (l : Latch) (tag : Tag),
     s.tex.test = some t → t.phase = .tail n → t.plan.tailSamples ≤ n + 1 → s.spt.slot = some m →
     s.mar.active = some { port := .sequencer, tag := tag, job := .test } → s.mar.queue = [] →
     s.ldc.conversion = some { range := range, latch := some l } →
     sampleOverloaded s.xhc.config.fcap (loadSample code range l s) = false →
     ∃ u rec, exec (.endOfTail code) s = .next u ∧ exec (.sampleArrival code) s = .next u ∧ u.tex.test = none ∧
       u.rsl.results = s.rsl.results ++ [rec] ∧ rec.serial = t.serial ∧ rec.closure = .complete ∧
       Judged s.rsl.limits[m.specimen.grade] rec ∧
       u.spt.slot = some { m with state := .tested } ∧ u.mar.active = none ∧ u.xhc.word = 0)

/-! ### The drive and the position (R41, R67 to R77, R94) -/

/-- The brake release expiry makes the drive MOVING and the motion's own work begin (R69): a search chooses its phase by the
switch (R71), a jog starts its duration timer, or ends STOPPED_LIMIT at the soft limit in its direction (R77). The hold timer's expiry makes the drive DISABLED (R69), and the jog
duration's expiry ends the jog DONE (R77). -/
def Obligations.DriveTimersExpire : Prop :=
  ∀ (s : State) (a : ActiveMotion),
    (s.xhc.drive = .holding →
      exec .holdTimerExpiry s = .next { s with xhc := { s.xhc with drive := .disabled, holdTimer := none } }) ∧
    (s.xhc.drive = .releasing → s.mar.active = some a →
      (a.job = .test ∨ (∃ w v c q, a.job = .move w v c q) ∨ (∃ w v q, a.job = .retract w v q) →
        exec .brakeReleaseExpiry s = .next { s with xhc := { s.xhc with drive := .moving, brakeTimer := none } }) ∧
      (∀ ph, a.job = .search ph →
        exec .brakeReleaseExpiry s =
          .next { s with
            xhc := { s.xhc with drive := .moving, brakeTimer := none },
            mar := { s.mar with
              active := some { a with job := .search (if s.inputs.referenceSwitch then .upward else .downward) } } }) ∧
      (∀ d v n, a.job = .jog d v n →
        (atSoftLimit s.xhc d = false →
          exec .brakeReleaseExpiry s =
            .next { s with xhc := { s.xhc with drive := .moving, brakeTimer := none, jogTimer := some n } }) ∧
        (atSoftLimit s.xhc d = true → s.mar.queue = [] → s.xhc.config.holdTime ≠ 0 →
          exec .brakeReleaseExpiry s =
            .next (raise a.port .motionDone
              { s with
                mar := { s.mar with active := none }.setSlot a.port (some (ended .jog a.tag .stoppedLimit s)),
                xhc := holdingDrive s.xhc })))) ∧
    (∀ d v n, s.mar.active = some a → a.job = .jog d v n → s.xhc.jogTimer ≠ none → s.mar.queue = [] →
      s.xhc.config.holdTime ≠ 0 →
      exec .jogDurationExpiry s =
        .next (raise a.port .motionDone
          { s with
            mar := { s.mar with active := none }.setSlot a.port (some (ended .jog a.tag .done s)),
            xhc := holdingDrive s.xhc }))

/-- An attempt at activation does nothing with a motion active or no request eligible; otherwise it takes the first eligible request,
whatever stands ahead of it, and starts it by R69 (R94), through RELEASING from DISABLED and in MOVING at once from HOLDING: MOVE TO
(R74), RETRACT (R76), JOG, also away from an active hard-limit switch (R77, R81, R95), REFERENCE SEARCH with its phase by the switch
(R71), START TEST (R111). A JOG that enters MOVING at the soft limit in its direction ends STOPPED_LIMIT (R77). A request that fails
its recheck ends at once with drive and word unchanged: at a hard limit, without a reference, at an open gate, by a start condition,
or already in band (R95). That a started move's profile value is 0 until its first arrival is the model's choice (log entry 32). -/
def Obligations.ActivationTakesTheFirstEligible : Prop :=
  (∀ s : State, s.mar.active ≠ none ∨ (∀ rq ∈ s.mar.queue, ¬ Eligible s rq) → exec .activation s = .next s) ∧
  (∀ (s : State) (before after : List MotionRequest) (rq : MotionRequest), s.mar.active = none →
     s.mar.queue = before ++ rq :: after → (∀ x ∈ before, ¬ Eligible s x) → Eligible s rq →
     (s.xhc.drive = .disabled ∨ s.xhc.drive = .holding →
       (LimitsClear s → ∀ x : Crosshead, x = startedDrive s.xhc →
         (∀ w clamped speed, s.xhc.referenceValid = true → s.xhc.config.band < ((w - s.xhc.position).natAbs : Int) →
           (∀ target, rq.job = .moveTo target speed → (rq.port = .sequencer → s.inputs.gateOpen = false) →
             w = clampTo s.xhc.config.lowerSoft s.xhc.config.upperSoft target → clamped = (w != target) →
             exec .activation s =
               .next { s with
                 mar := { s.mar with
                   queue := before ++ after,
                   active := some { port := rq.port, tag := rq.tag, job := .move w speed clamped 0 } },
                 xhc := x }) ∧
           (rq.job = .retract → speed = s.xhc.config.vmax →
             w = clampTo s.xhc.config.lowerSoft s.xhc.config.upperSoft s.xhc.config.retractPosition →
             exec .activation s =
               .next { s with
                 mar := { s.mar with
                   queue := before ++ after, active := some { port := rq.port, tag := rq.tag, job := .retract w speed 0 } },
                 xhc := x })) ∧
         (rq.job = .referenceSearch → (rq.port = .sequencer → s.inputs.gateOpen = false) →
           exec .activation s =
             .next { s with
               mar := { s.mar with
                 queue := before ++ after,
                 active := some { port := rq.port, tag := rq.tag, job := .search (startedSearch s) } },
               xhc := { x with referenceValid := false, searchTravel := 0 } }) ∧
         (rq.job = .startTest → startRefusal s = none → ∀ m p, s.spt.slot = some m → s.tex.plans[m.specimen.plan] = some p →
           ∃ u t, exec .activation s = .next u ∧
             u.mar = { s.mar with
               queue := before ++ after, active := some { port := rq.port, tag := rq.tag, job := .test } } ∧
             u.xhc = x ∧ u.tex = { plans := s.tex.plans, serial := s.tex.serial + 1, test := some t } ∧
             t.serial = s.tex.serial + 1 ∧ t.phase = .preload ∧ t.plan = p ∧
             u.spt = { s.spt with slot := some { m with state := .testing } })) ∧
       (∀ d speed duration, rq.job = .jog d speed duration → ¬ limitAhead s.inputs d →
         (s.xhc.drive = .disabled ∨ atSoftLimit s.xhc d = false →
           exec .activation s =
             .next { s with
               mar := { s.mar with
                 queue := before ++ after,
                 active := some
                   { port := rq.port, tag := rq.tag, job := .jog d (min speed s.xhc.config.jogLimit) duration } },
               xhc := startedJog duration s.xhc }) ∧
         (s.xhc.drive = .holding → atSoftLimit s.xhc d = true → s.xhc.config.holdTime ≠ 0 → (∀ x ∈ after, ¬ Eligible s x) →
           exec .activation s =
             .next { endedAtOnce rq (before ++ after) .stoppedLimit none s with xhc := holdingDrive s.xhc }))) ∧
     ((∀ x ∈ after, ¬ Eligible s x) →
       ((s.inputs.upperLimit = true ∨ s.inputs.lowerLimit = true) →
         (∀ d v n, rq.job = .jog d v n → limitAhead s.inputs d) →
         exec .activation s =
           .next (endedAtOnce rq (before ++ after) .notStarted (some (.refusal .atLimit)) s)) ∧
       (LimitsClear s →
         ((rq.job = .retract ∨ ∃ target speed, rq.job = .moveTo target speed) → s.xhc.referenceValid = false →
           exec .activation s =
             .next (endedAtOnce rq (before ++ after) .notStarted (some (.refusal .noReference)) s)) ∧
         (((∃ target speed, rq.job = .moveTo target speed ∧ s.xhc.referenceValid = true) ∨ rq.job = .referenceSearch) →
           rq.port = .sequencer → s.inputs.gateOpen = true →
           exec .activation s = .next (endedAtOnce rq (before ++ after) .stoppedGate none s)) ∧
         (∀ o, rq.job = .startTest → startRefusal s = some o →
           exec .activation s = .next (endedAtOnce rq (before ++ after) .notStarted (some (.refusal o)) s)) ∧
         (∀ w, s.xhc.referenceValid = true → ((w - s.xhc.position).natAbs : Int) ≤ s.xhc.config.band →
           (∀ target speed, rq.job = .moveTo target speed → (rq.port = .sequencer → s.inputs.gateOpen = false) →
             w = clampTo s.xhc.config.lowerSoft s.xhc.config.upperSoft target →
             exec .activation s =
               .next (endedAtOnce rq (before ++ after) (if w = target then .done else .doneClamped) none s)) ∧
           (rq.job = .retract →
             w = clampTo s.xhc.config.lowerSoft s.xhc.config.upperSoft s.xhc.config.retractPosition →
             exec .activation s = .next (endedAtOnce rq (before ++ after) .done none s))))))

/-- An encoder edge within the counter's bound moves the position by 1 µm in every drive state (R67), and adds 1 to the travel of an
active search (R71). When the position it reaches lies at or beyond the soft limit that the word in force points at, the reference
being VALID (`towardSoftLimit`), it is a soft-limit event: the zero word, an active JOG, MOVE TO or RETRACT ends STOPPED_LIMIT, a test
at the upper limit is aborted SOFT_LIMIT, and nothing enters the fault word (R79). Beyond the counter's bound the edge is not counted
and the reference becomes INVALID, entering EQUIPMENT_CHECK when it was VALID, ending an active motion EQUIPMENT_CHECK and aborting a
test with that cause (R67). A quadrature edge adds or subtracts one count, wrapping (R41). The edge at which an active search's
travel exceeds its limit ends it EQUIPMENT_CHECK: the fault entered, the zero word, the drive HOLDING (R71, R73). The model's choices
in it: a search met by the counter's bound, its reference INVALID, adds no entry to the fault word (log entry 16), which input leads
is the command's operand (log entry 18), and SEARCH_TRAVEL_LIMIT is this edge whole (log entry 19). -/
def Obligations.EdgesCountedAndSearchBounded : Prop :=
  (∀ (s : State) (d : Direction) (step : Int), step = (match d with | .up => 1 | .down => -1) →
     (-2000000 ≤ s.xhc.position + step → s.xhc.position + step ≤ 2000000 → ∀ x : Crosshead,
       x = { s.xhc with position := s.xhc.position + step } → (∀ a, s.mar.active = some a → ∀ ph, a.job ≠ .search ph) →
       (towardSoftLimit x x.word = false → exec (.encoderEdge d) s = .next { s with xhc := x }) ∧
       (towardSoftLimit x x.word = true → ∀ a, s.mar.active = some a →
         (a.job ≠ .test → s.mar.queue = [] → s.xhc.config.holdTime ≠ 0 →
           exec (.encoderEdge d) s =
             .next (raise a.port .motionDone
               { s with
                 mar := { s.mar with active := none }.setSlot a.port
                   (some (ended (activeKind a.job) a.tag .stoppedLimit { s with xhc := x })),
                 xhc := holdingDrive x })) ∧
         (a.job = .test → x.word < 0 → exec (.encoderEdge d) s = .next { s with xhc := { x with word := 0 } }) ∧
         (a.job = .test → 0 < x.word → s.mar.queue = [] → s.xhc.config.holdTime ≠ 0 → ∀ t m, s.tex.test = some t →
           s.spt.slot = some m →
           ∃ u rec, exec (.encoderEdge d) s = .next u ∧ u.tex.test = none ∧ u.mar.active = none ∧
             u.rsl.results = s.rsl.results ++ [rec] ∧ rec.serial = t.serial ∧ rec.closure = .aborted .softLimit ∧
             u.spt.slot = some { m with state := .tested } ∧ u.xhc = holdingDrive x ∧ u.pif.faults = s.pif.faults))) ∧
     (s.xhc.position + step < -2000000 ∨ 2000000 < s.xhc.position + step → ∀ (x : Crosshead) (check : State → State),
       x = { s.xhc with referenceValid := false } →
       check = (if s.xhc.referenceValid then enterFault .equipmentCheck else id) →
       (s.mar.active = none → s.tex.test = none → exec (.encoderEdge d) s = .next (check { s with xhc := x })) ∧
       (s.mar.queue = [] → s.xhc.config.holdTime ≠ 0 → ∀ a, s.mar.active = some a →
         (a.job ≠ .test → s.tex.test = none →
           exec (.encoderEdge d) s =
             .next (raise a.port .motionDone (check
               { s with
                 mar := { s.mar with active := none }.setSlot a.port
                   (some (ended (activeKind a.job) a.tag .equipmentCheck { s with xhc := x })),
                 xhc := holdingDrive x }))) ∧
         (a.job = .test → ∀ t m, s.tex.test = some t → s.spt.slot = some m →
           ∃ u rec, exec (.encoderEdge d) s = .next u ∧ u.tex.test = none ∧ u.mar.active = none ∧
             u.rsl.results = s.rsl.results ++ [rec] ∧ rec.serial = t.serial ∧
             rec.closure = .aborted .equipmentCheck ∧
             u.spt.slot = some { m with state := .tested } ∧ u.xhc = holdingDrive x ∧
             (s.xhc.referenceValid = true → u.pif.faults.equipmentCheck = true)))) ∧
     exec (.extQuadratureEdge d) s =
       .next { s with exc := { s.exc with count := s.exc.count + (match d with | .up => 1 | .down => -1) } }) ∧
  (∀ (s : State) (d : Direction) (step : Int) (a : ActiveMotion) (ph : SearchPhase) (x : Crosshead),
     step = (match d with | .up => 1 | .down => -1) → -2000000 ≤ s.xhc.position + step →
     s.xhc.position + step ≤ 2000000 → s.mar.active = some a → a.job = .search ph →
     x = { s.xhc with position := s.xhc.position + step, searchTravel := s.xhc.searchTravel + 1 } →
     (x.searchTravel ≤ x.config.searchLimit → towardSoftLimit x x.word = false →
       exec (.searchTravelLimit d) s = .next s ∧ exec (.encoderEdge d) s = .next { s with xhc := x }) ∧
     (x.config.searchLimit < x.searchTravel → s.mar.queue = [] → s.xhc.config.holdTime ≠ 0 →
       exec (.searchTravelLimit d) s = exec (.encoderEdge d) s ∧
       exec (.searchTravelLimit d) s =
         .next (raise a.port .motionDone (enterFault .equipmentCheck
           { s with
             mar := { s.mar with active := none }.setSlot a.port
               (some (ended .referenceSearch a.tag .equipmentCheck { s with xhc := x })),
             xhc := holdingDrive x }))))

/-! ### The direct lines (R71, R72, R80 to R83) -/

/-- The reference switch becoming active in a search's downward phase ends it DONE with the position, the reference and the
lock set (R72); becoming inactive in the upward phase turns the search down (R71); otherwise only the input changes. -/
def Obligations.ReferenceSwitchChanges : Prop :=
  ∀ s : State,
    (s.inputs.referenceSwitch = false → (∀ a, s.mar.active = some a → a.job ≠ .search .downward) →
      exec .referenceSwitchEvent s = .next { s with inputs := { s.inputs with referenceSwitch := true } }) ∧
    (∀ a x, s.inputs.referenceSwitch = false → s.mar.active = some a → a.job = .search .downward → s.mar.queue = [] →
      s.xhc.config.holdTime ≠ 0 →
      x = { s.xhc with position := s.xhc.config.referencePosition, referenceValid := true, locked := true } →
      exec .referenceSwitchEvent s =
        .next (raise a.port .motionDone
          { s with
            inputs := { s.inputs with referenceSwitch := true },
            mar := { s.mar with active := none }.setSlot a.port
              (some (ended .referenceSearch a.tag .done { s with xhc := x })),
            xhc := holdingDrive x })) ∧
    (s.inputs.referenceSwitch = true → (∀ a, s.mar.active = some a → a.job ≠ .search .upward) →
      exec .referenceSwitchRelease s = .next { s with inputs := { s.inputs with referenceSwitch := false } }) ∧
    (∀ a, s.inputs.referenceSwitch = true → s.mar.active = some a → a.job = .search .upward →
      exec .referenceSwitchRelease s =
        .next { s with
          inputs := { s.inputs with referenceSwitch := false },
          mar := { s.mar with active := some { a with job := .search .downward } } })

/-- A hard-limit switch event disables the drive at once, ends a MOVE TO, JOG or RETRACT STOPPED_LIMIT, and enters HARD_LIMIT (R81). A
reference search it ends EQUIPMENT_CHECK, entering that kind too (R73). A test it aborts with cause HARD_LIMIT, and the drive is left
DISABLED through the closure (R81, R69, R127). A release changes only the input (R80). -/
def Obligations.HardLimitDisables : Prop :=
  ∀ (s : State) (side : LimitSide) (on off : Inputs),
    (on = match side with | .upper => { s.inputs with upperLimit := true } | .lower => { s.inputs with lowerLimit := true }) →
    (off = match side with | .upper => { s.inputs with upperLimit := false } | .lower => { s.inputs with lowerLimit := false }) →
    exec (.hardLimitSwitchRelease side) s = .next { s with inputs := off } ∧
    (s.inputs ≠ on → s.tex.test = none →
      (s.mar.active = none →
        exec (.hardLimitSwitchEvent side) s =
          .next (enterFault .hardLimit { s with inputs := on, xhc := disabledDrive s.xhc })) ∧
      (∀ a, s.mar.active = some a → s.mar.queue = [] →
        ((∀ ph, a.job ≠ .search ph) → a.job ≠ .test →
          exec (.hardLimitSwitchEvent side) s =
            .next (enterFault .hardLimit (raise a.port .motionDone
              { s with
                inputs := on, xhc := disabledDrive s.xhc,
                mar := { s.mar with active := none }.setSlot a.port
                  (some (ended (activeKind a.job) a.tag .stoppedLimit s)) }))) ∧
        (∀ ph, a.job = .search ph →
          exec (.hardLimitSwitchEvent side) s =
            .next (enterFault .hardLimit (raise a.port .motionDone (enterFault .equipmentCheck
              { s with
                inputs := on, xhc := disabledDrive s.xhc,
                mar := { s.mar with active := none }.setSlot a.port
                  (some (ended .referenceSearch a.tag .equipmentCheck s)) })))))) ∧
    (∀ t m tag, s.inputs ≠ on → s.tex.test = some t → s.spt.slot = some m → s.mar.queue = [] →
      s.mar.active = some { port := .sequencer, tag := tag, job := .test } →
      ∃ u rec, exec (.hardLimitSwitchEvent side) s = .next u ∧ u.tex = { s.tex with test := none } ∧
        u.rsl = { s.rsl with results := s.rsl.results ++ [rec], reserved := false } ∧ rec.serial = t.serial ∧
        rec.specimen = m.specimen ∧ rec.closure = .aborted .hardLimit ∧ Judged s.rsl.limits[m.specimen.grade] rec ∧
        u.spt = { s.spt with slot := some { m with state := .tested } } ∧ u.xhc = disabledDrive s.xhc ∧ u.inputs = on ∧
        u.rlp = idleLoop ∧ u.pif.faults = { s.pif.faults with hardLimit := true } ∧
        u.mar = { s.mar with
          active := none,
          seqSlot := some
            { kind := .startTest, tag := tag, outcome := .testAborted, reason := some (.abort .hardLimit),
              position := if s.xhc.referenceValid then some s.xhc.position else none, serial := some t.serial } })

/-- The gate's opening ends a sequencer move or search STOPPED_GATE, holds a RUNNING, PRELOAD or PLACING test with cause GATE and the
word 0, lets a cell motion go on with its word at no more than the jog limit (R70; toward a soft limit reached it ends by R79), and raises
GATE on the sequencer and cell ports; its closing raises GATE again and resumes nothing (R82). -/
def Obligations.GateOpensAndCloses : Prop :=
  ∀ s : State,
    (s.inputs.gateOpen = true →
      exec .gateClosing s =
        .next (raise .cell .gate (raise .sequencer .gate { s with inputs := { s.inputs with gateOpen := false } }))) ∧
    (s.inputs.gateOpen = false → s.tex.test = none →
      (s.mar.active = none →
        exec .gateOpening s =
          .next (raise .cell .gate (raise .sequencer .gate
            { s with inputs := { s.inputs with gateOpen := true }, xhc := { s.xhc with word := 0 } }))) ∧
      (∀ tag w v c q, s.mar.active = some { port := .sequencer, tag := tag, job := .move w v c q } → s.mar.queue = [] →
        s.xhc.config.holdTime ≠ 0 →
        exec .gateOpening s =
          .next (raise .cell .gate (raise .sequencer .gate (raise .sequencer .motionDone
            { s with
              inputs := { s.inputs with gateOpen := true },
              mar := { s.mar with active := none, seqSlot := some (ended .moveTo tag .stoppedGate s) },
              xhc := holdingDrive s.xhc })))) ∧
      (∀ tag ph, s.mar.active = some { port := .sequencer, tag := tag, job := .search ph } → s.mar.queue = [] →
        s.xhc.config.holdTime ≠ 0 →
        exec .gateOpening s =
          .next (raise .cell .gate (raise .sequencer .gate (raise .sequencer .motionDone
            { s with
              inputs := { s.inputs with gateOpen := true },
              mar := { s.mar with active := none, seqSlot := some (ended .referenceSearch tag .stoppedGate s) },
              xhc := holdingDrive s.xhc })))) ∧
      (∀ (tag : Tag) (j : ActiveJob) (v : Int) (o : State), s.mar.active = some { port := .cell, tag := tag, job := j } →
        (∃ d speed n, j = .jog d speed n ∧ v = speed * (match d with | .up => 1000 | .down => -1000)) ∨
          (∃ w speed c, j = .move w speed c v) ∨ (∃ w speed, j = .retract w speed v) →
        o = { s with inputs := { s.inputs with gateOpen := true } } →
        (s.xhc.drive ≠ .moving →
          exec .gateOpening s =
            .next (raise .cell .gate (raise .sequencer .gate { o with xhc := { s.xhc with word := 0 } }))) ∧
        (s.xhc.drive = .moving → towardSoftLimit s.xhc v = false →
          exec .gateOpening s =
            .next (raise .cell .gate (raise .sequencer .gate { o with xhc := { s.xhc with word := wordFor o .cell v } }))) ∧
        (s.xhc.drive = .moving → towardSoftLimit s.xhc v = true → s.mar.queue = [] → s.xhc.config.holdTime ≠ 0 →
          exec .gateOpening s =
            .next (raise .cell .gate (raise .sequencer .gate (raise .cell .motionDone
              { o with
                mar := { s.mar with active := none, cellSlot := some (ended (activeKind j) tag .stoppedLimit s) },
                xhc := holdingDrive s.xhc })))))) ∧
    (∀ t tag ret, s.inputs.gateOpen = false → s.tex.test = some t →
      s.mar.active = some { port := .sequencer, tag := tag, job := .test } →
      (t.phase = .preload ∧ ret = .preload) ∨ (t.phase = .placing ∧ ret = .placing) ∨
        (t.phase = .running ∧ ret = .running) →
      exec .gateOpening s =
        .next (raise .cell .gate (raise .sequencer .gate
          { s with
            inputs := { s.inputs with gateOpen := true },
            tex := { s.tex with
              test := some (({ t with phase := .held .gate ret } : TestContext).logEvent
                ⟨.hold, sampleNumber t.arrivals, 2⟩) },
            rlp := { s.rlp with setPoint := 0 }, cps := eventMarked s.cps, xhc := { s.xhc with word := 0 } })))

/-- The emergency stop's assertion disables the drive, ends every queued and active motion and the test, raises ESTOP on every
port, and leaves the claim, the reference, the position, the configuration and the fault word; its release restarts nothing
(R83). While the emergency stop is asserted every motion request in form is refused with ESTOP_ACTIVE (R83, R91). -/
def Obligations.EmergencyStopStopsAndRefuses : Prop :=
  (∀ s : State,
     exec .emergencyStopRelease s = .next { s with inputs := { s.inputs with estop := false } } ∧
     (s.inputs.estop = false → OneTest s → PortsSound s →
       ∃ u, exec .emergencyStopAssertion s = .next u ∧ u.inputs = { s.inputs with estop := true } ∧
         u.xhc = disabledDrive s.xhc ∧ u.mar.active = none ∧ u.mar.queue = [] ∧ u.mar.holder = s.mar.holder ∧
         u.mar.waiter = s.mar.waiter ∧ u.tex = { s.tex with test := none } ∧ u.rlp = idleLoop ∧
         u.cps.capture = none ∧ u.rsl.reserved = false ∧
         (∀ rq ∈ s.mar.queue, motionPort rq.port = true → ∃ c, u.mar.slot rq.port = some c ∧ c.outcome = .estop) ∧
         (∀ p, u.flag p .estop = .raised) ∧ u.pif.faults = s.pif.faults)) ∧
  (∀ (r : Req) (s : State), r.form = .whole → s.inputs.estop = true →
     (r.port = .sequencer →
       exec (.referenceSearch r) s = .next (answered .referenceSearch r .estopActive .nothing s) ∧
       exec (.startTest r) s = .next (answered .startTest r .estopActive .nothing s)) ∧
     (r.port ≠ .record → ∀ target speed, -2000000 ≤ target → target ≤ 2000000 → 1 ≤ speed → speed ≤ s.xhc.config.vmax →
       exec (.moveTo r target speed) s = .next (answered .moveTo r .estopActive .nothing s)) ∧
     (r.port = .cell →
       exec (.retract r) s = .next (answered .retract r .estopActive .nothing s) ∧
       ∀ d speed duration, 1 ≤ speed → speed ≤ 20000 → 1 ≤ duration → duration ≤ 2000 →
         exec (.jog r d speed duration) s = .next (answered .jog r .estopActive .nothing s)))

/-! ### Standing conditions

Each holds after every step from every state in which it holds, together with the conditions it is stated to lean on. -/

/-- A power-on reset of the part as manufactured leaves every standing condition true. -/
def Obligations.ResetMeetsEveryCondition : Prop :=
  OneTest State.reset ∧ ClaimOrdered State.reset ∧ OneRequestPerPort State.reset ∧ DriveSound State.reset ∧
  EstopHolds State.reset ∧ WordAllowed State.reset ∧ ConfigSound State.reset ∧ PositionSound State.reset ∧
  TimersSound State.reset ∧ PlansSound State.reset ∧ SetPointBounded State.reset ∧ SpecimensOrdered State.reset ∧
  ResultsFit State.reset ∧ CaptureSound State.reset ∧ EventsFit State.reset ∧ MissCountBounded State.reset ∧
  PortsSound State.reset

/-- Every step keeps that at most one test is in progress and that all blocks take part in the same one (R108, R128). -/
def Obligations.OneTestKeptByEveryStep : Prop :=
  ∀ s t : State, OneTest s → step s = .next t → OneTest t

/-- Every step keeps the claim's order (R85) and that each port has at most one motion request, queued, active or filed (R90). -/
def Obligations.ClaimAndRequestsKeptByEveryStep : Prop :=
  ∀ s t : State, ClaimOrdered s → OneRequestPerPort s → step s = .next t → ClaimOrdered t ∧ OneRequestPerPort t

/-- Every step keeps the drive states, their timers and the active motion in agreement (R68, R69). -/
def Obligations.DriveKeptByEveryStep : Prop :=
  ∀ s t : State, OneTest s → ConfigSound s → DriveSound s → step s = .next t → DriveSound t

/-- Every step keeps the set-point word one that R70 and R79 allow: clamped or 0 with the gate open, never toward an active hard-limit
switch, never toward a soft limit that the position has reached. -/
def Obligations.WordKeptByEveryStep : Prop :=
  ∀ s t : State, OneTest s → ConfigSound s → DriveSound s → WordAllowed s → step s = .next t → WordAllowed t

/-- While the emergency stop is asserted the drive stays DISABLED, no motion is queued or active and the test state is IDLE (R83),
whatever command comes. -/
def Obligations.EmergencyStopKeptByEveryStep : Prop :=
  ∀ s t : State, OneTest s → EstopHolds s → step s = .next t → EstopHolds t

/-- Every step keeps the frame configuration in its ranges (R64), the position in its bounds (R67), and the configuration locked
while the reference is VALID (R66). -/
def Obligations.FrameAndPositionKeptByEveryStep : Prop :=
  ∀ s t : State, ConfigSound s → PositionSound s → step s = .next t → ConfigSound t ∧ PositionSound t

/-- Every step keeps the placement and removal timers to the extensometer states they belong to, and to a test before its fracture
(R50, R56, R61, R62). -/
def Obligations.ExtensometerTimersKeptByEveryStep : Prop :=
  ∀ s t : State, TimersSound s → step s = .next t → TimersSound t

/-- Every step keeps the defined plans in form (R103, R104) and the plan of the test in progress as defined and within the frame
(R105, R107). -/
def Obligations.PlansKeptByEveryStep : Prop :=
  ∀ s t : State, OneTest s → PlansSound s → step s = .next t → PlansSound t

/-- Every step keeps the rate loop's set-point within 0..vmax × 1000 (R133, R140). -/
def Obligations.SetPointKeptByEveryStep : Prop :=
  ∀ s t : State, OneTest s → ConfigSound s → PlansSound s → SetPointBounded s → step s = .next t → SetPointBounded t

/-- Every step keeps the specimen queue within 16, in the order of its bands, and every identifier single (R3, R4). -/
def Obligations.SpecimensKeptByEveryStep : Prop :=
  ∀ s t : State, SpecimensOrdered s → step s = .next t → SpecimensOrdered t

/-- Every step keeps the results list within 8, the place of a running test counted (R188, R189). -/
def Obligations.ResultsKeptByEveryStep : Prop :=
  ∀ s t : State, OneTest s → ResultsFit s → step s = .next t → ResultsFit t

/-- Every step keeps the capture store within its pages, its counters in balance and its thinning level that of the free count
(R173, R178 to R183). -/
def Obligations.CaptureKeptByEveryStep : Prop :=
  ∀ s t : State, CaptureSound s → step s = .next t → CaptureSound t

/-- Every step keeps the event list within 24 entries with its dropped count within 65,535 (R129), and the miss count within 4
(R21). -/
def Obligations.CountsKeptByEveryStep : Prop :=
  ∀ s t : State, EventsFit s → MissCountBounded s → step s = .next t → EventsFit t ∧ MissCountBounded t

/-- Every step keeps each port's flags its own, its enable set among them and its promoted kind enabled (R203, R205). -/
def Obligations.PortsKeptByEveryStep : Prop :=
  ∀ s t : State, PortsSound s → step s = .next t → PortsSound t
end

