-- ==== Sys2Proof/Laws/Frames.lean ====
section
/-! SUPPORT. The frame of every shared operation: the fields of the state it leaves as they are. -/

namespace Sys2Proof.Machine

/-! ### Notices and faults (R204, R207) -/

@[simp] theorem setPort_frame (s : State) (p : Port) (v : PortState) :
    (s.setPort p v).spt = s.spt ∧ (s.setPort p v).ldc = s.ldc ∧ (s.setPort p v).exc = s.exc ∧ (s.setPort p v).xhc = s.xhc ∧ (s.setPort p v).mar = s.mar ∧ (s.setPort p v).tex = s.tex ∧ (s.setPort p v).rlp = s.rlp ∧ (s.setPort p v).cps = s.cps ∧ (s.setPort p v).rsl = s.rsl ∧ (s.setPort p v).cal = s.cal ∧ (s.setPort p v).inputs = s.inputs ∧ (s.setPort p v).freeDraws = s.freeDraws ∧ (s.setPort p v).pending = s.pending := by
  cases p <;> simp [State.setPort]

@[simp] theorem raise_frame (p : Port) (n : Notice) (s : State) :
    (raise p n s).spt = s.spt ∧ (raise p n s).ldc = s.ldc ∧ (raise p n s).exc = s.exc ∧ (raise p n s).xhc = s.xhc ∧ (raise p n s).mar = s.mar ∧ (raise p n s).tex = s.tex ∧ (raise p n s).rlp = s.rlp ∧ (raise p n s).cps = s.cps ∧ (raise p n s).rsl = s.rsl ∧ (raise p n s).cal = s.cal ∧ (raise p n s).inputs = s.inputs ∧ (raise p n s).freeDraws = s.freeDraws ∧ (raise p n s).pending = s.pending := by
  simp [raise]

@[simp] theorem raiseAll_frame (n : Notice) (s : State) :
    (raiseAll n s).spt = s.spt ∧ (raiseAll n s).ldc = s.ldc ∧ (raiseAll n s).exc = s.exc ∧ (raiseAll n s).xhc = s.xhc ∧ (raiseAll n s).mar = s.mar ∧ (raiseAll n s).tex = s.tex ∧ (raiseAll n s).rlp = s.rlp ∧ (raiseAll n s).cps = s.cps ∧ (raiseAll n s).rsl = s.rsl ∧ (raiseAll n s).cal = s.cal ∧ (raiseAll n s).inputs = s.inputs ∧ (raiseAll n s).freeDraws = s.freeDraws ∧ (raiseAll n s).pending = s.pending := by
  simp [raiseAll]

@[simp] theorem enterFault_frame (k : FaultKind) (s : State) :
    (enterFault k s).spt = s.spt ∧ (enterFault k s).ldc = s.ldc ∧ (enterFault k s).exc = s.exc ∧ (enterFault k s).xhc = s.xhc ∧ (enterFault k s).mar = s.mar ∧ (enterFault k s).tex = s.tex ∧ (enterFault k s).rlp = s.rlp ∧ (enterFault k s).cps = s.cps ∧ (enterFault k s).rsl = s.rsl ∧ (enterFault k s).cal = s.cal ∧ (enterFault k s).inputs = s.inputs ∧ (enterFault k s).freeDraws = s.freeDraws ∧ (enterFault k s).pending = s.pending := by
  simp [enterFault]

/-! ### The test context and its event list (R108, R129) -/

@[simp] theorem updateTest_frame (f : TestContext → TestContext) (s : State) :
    (updateTest f s).spt = s.spt ∧ (updateTest f s).ldc = s.ldc ∧ (updateTest f s).exc = s.exc ∧ (updateTest f s).xhc = s.xhc ∧ (updateTest f s).mar = s.mar ∧ (updateTest f s).rlp = s.rlp ∧ (updateTest f s).cps = s.cps ∧ (updateTest f s).rsl = s.rsl ∧ (updateTest f s).pif = s.pif ∧ (updateTest f s).cal = s.cal ∧ (updateTest f s).inputs = s.inputs ∧ (updateTest f s).freeDraws = s.freeDraws ∧ (updateTest f s).pending = s.pending := by
  simp [updateTest]

@[simp] theorem markEvent_frame  (s : State) :
    (markEvent s).spt = s.spt ∧ (markEvent s).ldc = s.ldc ∧ (markEvent s).exc = s.exc ∧ (markEvent s).xhc = s.xhc ∧ (markEvent s).mar = s.mar ∧ (markEvent s).tex = s.tex ∧ (markEvent s).rlp = s.rlp ∧ (markEvent s).rsl = s.rsl ∧ (markEvent s).pif = s.pif ∧ (markEvent s).cal = s.cal ∧ (markEvent s).inputs = s.inputs ∧ (markEvent s).freeDraws = s.freeDraws ∧ (markEvent s).pending = s.pending := by
  simp [markEvent]

@[simp] theorem addEventAt_frame (k : EventKind) (n : Nat) (v : Int) (s : State) :
    (addEventAt k n v s).spt = s.spt ∧ (addEventAt k n v s).ldc = s.ldc ∧ (addEventAt k n v s).exc = s.exc ∧ (addEventAt k n v s).xhc = s.xhc ∧ (addEventAt k n v s).mar = s.mar ∧ (addEventAt k n v s).rlp = s.rlp ∧ (addEventAt k n v s).rsl = s.rsl ∧ (addEventAt k n v s).pif = s.pif ∧ (addEventAt k n v s).cal = s.cal ∧ (addEventAt k n v s).inputs = s.inputs ∧ (addEventAt k n v s).freeDraws = s.freeDraws ∧ (addEventAt k n v s).pending = s.pending := by
  unfold addEventAt; split <;> simp

@[simp] theorem addEvent_frame (k : EventKind) (v : Int) (s : State) :
    (addEvent k v s).spt = s.spt ∧ (addEvent k v s).ldc = s.ldc ∧ (addEvent k v s).exc = s.exc ∧ (addEvent k v s).xhc = s.xhc ∧ (addEvent k v s).mar = s.mar ∧ (addEvent k v s).rlp = s.rlp ∧ (addEvent k v s).rsl = s.rsl ∧ (addEvent k v s).pif = s.pif ∧ (addEvent k v s).cal = s.cal ∧ (addEvent k v s).inputs = s.inputs ∧ (addEvent k v s).freeDraws = s.freeDraws ∧ (addEvent k v s).pending = s.pending := by
  unfold addEvent; split <;> simp

@[simp] theorem setTestFlags_frame (f : TestFlags → TestFlags) (s : State) :
    (setTestFlags f s).spt = s.spt ∧ (setTestFlags f s).ldc = s.ldc ∧ (setTestFlags f s).exc = s.exc ∧ (setTestFlags f s).xhc = s.xhc ∧ (setTestFlags f s).mar = s.mar ∧ (setTestFlags f s).rlp = s.rlp ∧ (setTestFlags f s).cps = s.cps ∧ (setTestFlags f s).rsl = s.rsl ∧ (setTestFlags f s).pif = s.pif ∧ (setTestFlags f s).cal = s.cal ∧ (setTestFlags f s).inputs = s.inputs ∧ (setTestFlags f s).freeDraws = s.freeDraws ∧ (setTestFlags f s).pending = s.pending := by
  simp [setTestFlags]

@[simp] theorem updateEvaluation_frame (f : Evaluation → Evaluation) (s : State) :
    (updateEvaluation f s).spt = s.spt ∧ (updateEvaluation f s).ldc = s.ldc ∧ (updateEvaluation f s).exc = s.exc ∧ (updateEvaluation f s).xhc = s.xhc ∧ (updateEvaluation f s).mar = s.mar ∧ (updateEvaluation f s).rlp = s.rlp ∧ (updateEvaluation f s).cps = s.cps ∧ (updateEvaluation f s).rsl = s.rsl ∧ (updateEvaluation f s).pif = s.pif ∧ (updateEvaluation f s).cal = s.cal ∧ (updateEvaluation f s).inputs = s.inputs ∧ (updateEvaluation f s).freeDraws = s.freeDraws ∧ (updateEvaluation f s).pending = s.pending := by
  simp [updateEvaluation]

@[simp] theorem setPhase_frame (p : TestPhase) (s : State) :
    (setPhase p s).spt = s.spt ∧ (setPhase p s).ldc = s.ldc ∧ (setPhase p s).exc = s.exc ∧ (setPhase p s).xhc = s.xhc ∧ (setPhase p s).mar = s.mar ∧ (setPhase p s).rlp = s.rlp ∧ (setPhase p s).cps = s.cps ∧ (setPhase p s).rsl = s.rsl ∧ (setPhase p s).pif = s.pif ∧ (setPhase p s).cal = s.cal ∧ (setPhase p s).inputs = s.inputs ∧ (setPhase p s).freeDraws = s.freeDraws ∧ (setPhase p s).pending = s.pending := by
  simp [setPhase]

/-! ### Completions and the load range (R98, R32) -/

@[simp] theorem fileCompletion_frame (p : Port) (c : Completion) (s : State) :
    (fileCompletion p c s).spt = s.spt ∧ (fileCompletion p c s).ldc = s.ldc ∧ (fileCompletion p c s).exc = s.exc ∧ (fileCompletion p c s).xhc = s.xhc ∧ (fileCompletion p c s).tex = s.tex ∧ (fileCompletion p c s).rlp = s.rlp ∧ (fileCompletion p c s).cps = s.cps ∧ (fileCompletion p c s).rsl = s.rsl ∧ (fileCompletion p c s).cal = s.cal ∧ (fileCompletion p c s).inputs = s.inputs ∧ (fileCompletion p c s).freeDraws = s.freeDraws ∧ (fileCompletion p c s).pending = s.pending := by
  simp [fileCompletion]

@[simp] theorem fileRequestEnd_frame (rq : MotionRequest) (o : MotionOutcome) (r : Option Reason) (s : State) :
    (fileRequestEnd rq o r s).spt = s.spt ∧ (fileRequestEnd rq o r s).ldc = s.ldc ∧ (fileRequestEnd rq o r s).exc = s.exc ∧ (fileRequestEnd rq o r s).xhc = s.xhc ∧ (fileRequestEnd rq o r s).tex = s.tex ∧ (fileRequestEnd rq o r s).rlp = s.rlp ∧ (fileRequestEnd rq o r s).cps = s.cps ∧ (fileRequestEnd rq o r s).rsl = s.rsl ∧ (fileRequestEnd rq o r s).cal = s.cal ∧ (fileRequestEnd rq o r s).inputs = s.inputs ∧ (fileRequestEnd rq o r s).freeDraws = s.freeDraws ∧ (fileRequestEnd rq o r s).pending = s.pending := by
  simp [fileRequestEnd]

@[simp] theorem fileActiveEnd_frame (a : ActiveMotion) (o : MotionOutcome) (s : State) :
    (fileActiveEnd a o s).spt = s.spt ∧ (fileActiveEnd a o s).ldc = s.ldc ∧ (fileActiveEnd a o s).exc = s.exc ∧ (fileActiveEnd a o s).xhc = s.xhc ∧ (fileActiveEnd a o s).tex = s.tex ∧ (fileActiveEnd a o s).rlp = s.rlp ∧ (fileActiveEnd a o s).cps = s.cps ∧ (fileActiveEnd a o s).rsl = s.rsl ∧ (fileActiveEnd a o s).cal = s.cal ∧ (fileActiveEnd a o s).inputs = s.inputs ∧ (fileActiveEnd a o s).freeDraws = s.freeDraws ∧ (fileActiveEnd a o s).pending = s.pending := by
  simp [fileActiveEnd]

@[simp] theorem clearActive_frame  (s : State) :
    (clearActive s).spt = s.spt ∧ (clearActive s).ldc = s.ldc ∧ (clearActive s).exc = s.exc ∧ (clearActive s).xhc = s.xhc ∧ (clearActive s).tex = s.tex ∧ (clearActive s).rlp = s.rlp ∧ (clearActive s).cps = s.cps ∧ (clearActive s).rsl = s.rsl ∧ (clearActive s).pif = s.pif ∧ (clearActive s).cal = s.cal ∧ (clearActive s).inputs = s.inputs ∧ (clearActive s).freeDraws = s.freeDraws ∧ (clearActive s).pending = s.pending := by
  simp [clearActive]

@[simp] theorem clearActive_mar (s : State) :
    (clearActive s).mar.active = none ∧ (clearActive s).mar.queue = s.mar.queue ∧ (clearActive s).mar.holder = s.mar.holder ∧
      (clearActive s).mar.waiter = s.mar.waiter ∧ (clearActive s).mar.seqSlot = s.mar.seqSlot ∧
      (clearActive s).mar.cellSlot = s.mar.cellSlot ∧ (clearActive s).mar.slot = s.mar.slot := by
  simp [clearActive]; funext p; cases p <;> rfl

@[simp] theorem setSlot_fields (m : Arbiter) (p : Port) (c : Option Completion) :
    (m.setSlot p c).active = m.active ∧ (m.setSlot p c).queue = m.queue ∧ (m.setSlot p c).holder = m.holder ∧
      (m.setSlot p c).waiter = m.waiter := by
  cases p <;> simp [Arbiter.setSlot]

@[simp] theorem fileCompletion_mar (p : Port) (c : Completion) (s : State) :
    (fileCompletion p c s).mar = s.mar.setSlot p (some c) := by
  simp [fileCompletion]

@[simp] theorem selectRange_frame (r : LoadRange) (n : Nat) (s : State) :
    (selectRange r n s).spt = s.spt ∧ (selectRange r n s).exc = s.exc ∧ (selectRange r n s).xhc = s.xhc ∧ (selectRange r n s).mar = s.mar ∧ (selectRange r n s).tex = s.tex ∧ (selectRange r n s).rlp = s.rlp ∧ (selectRange r n s).cps = s.cps ∧ (selectRange r n s).rsl = s.rsl ∧ (selectRange r n s).pif = s.pif ∧ (selectRange r n s).cal = s.cal ∧ (selectRange r n s).inputs = s.inputs ∧ (selectRange r n s).freeDraws = s.freeDraws ∧ (selectRange r n s).pending = s.pending := by
  unfold selectRange; split <;> simp

/-! ### The rate loop and the test state (R120, R122, R131, R133) -/

@[simp] theorem setSetPoint_frame (v : Int) (s : State) :
    (setSetPoint v s).spt = s.spt ∧ (setSetPoint v s).ldc = s.ldc ∧ (setSetPoint v s).exc = s.exc ∧ (setSetPoint v s).xhc = s.xhc ∧ (setSetPoint v s).mar = s.mar ∧ (setSetPoint v s).tex = s.tex ∧ (setSetPoint v s).cps = s.cps ∧ (setSetPoint v s).rsl = s.rsl ∧ (setSetPoint v s).pif = s.pif ∧ (setSetPoint v s).cal = s.cal ∧ (setSetPoint v s).inputs = s.inputs ∧ (setSetPoint v s).freeDraws = s.freeDraws ∧ (setSetPoint v s).pending = s.pending := by
  simp [setSetPoint]

@[simp] theorem loopTail_frame  (s : State) :
    (loopTail s).spt = s.spt ∧ (loopTail s).ldc = s.ldc ∧ (loopTail s).exc = s.exc ∧ (loopTail s).xhc = s.xhc ∧ (loopTail s).mar = s.mar ∧ (loopTail s).tex = s.tex ∧ (loopTail s).cps = s.cps ∧ (loopTail s).rsl = s.rsl ∧ (loopTail s).pif = s.pif ∧ (loopTail s).cal = s.cal ∧ (loopTail s).inputs = s.inputs ∧ (loopTail s).freeDraws = s.freeDraws ∧ (loopTail s).pending = s.pending := by
  simp [loopTail]

@[simp] theorem loopEnterPending_frame (d : StageDef) (s : State) :
    (loopEnterPending d s).spt = s.spt ∧ (loopEnterPending d s).ldc = s.ldc ∧ (loopEnterPending d s).exc = s.exc ∧ (loopEnterPending d s).xhc = s.xhc ∧ (loopEnterPending d s).mar = s.mar ∧ (loopEnterPending d s).tex = s.tex ∧ (loopEnterPending d s).cps = s.cps ∧ (loopEnterPending d s).rsl = s.rsl ∧ (loopEnterPending d s).pif = s.pif ∧ (loopEnterPending d s).cal = s.cal ∧ (loopEnterPending d s).inputs = s.inputs ∧ (loopEnterPending d s).freeDraws = s.freeDraws ∧ (loopEnterPending d s).pending = s.pending := by
  simp [loopEnterPending]

@[simp] theorem loopLoad_frame (d : StageDef) (s : State) :
    (loopLoad d s).spt = s.spt ∧ (loopLoad d s).ldc = s.ldc ∧ (loopLoad d s).exc = s.exc ∧ (loopLoad d s).xhc = s.xhc ∧ (loopLoad d s).mar = s.mar ∧ (loopLoad d s).tex = s.tex ∧ (loopLoad d s).cps = s.cps ∧ (loopLoad d s).rsl = s.rsl ∧ (loopLoad d s).pif = s.pif ∧ (loopLoad d s).cal = s.cal ∧ (loopLoad d s).inputs = s.inputs ∧ (loopLoad d s).freeDraws = s.freeDraws ∧ (loopLoad d s).pending = s.pending := by
  simp [loopLoad]

@[simp] theorem loopRelease_frame  (s : State) :
    (loopRelease s).spt = s.spt ∧ (loopRelease s).ldc = s.ldc ∧ (loopRelease s).exc = s.exc ∧ (loopRelease s).xhc = s.xhc ∧ (loopRelease s).mar = s.mar ∧ (loopRelease s).tex = s.tex ∧ (loopRelease s).cps = s.cps ∧ (loopRelease s).rsl = s.rsl ∧ (loopRelease s).pif = s.pif ∧ (loopRelease s).cal = s.cal ∧ (loopRelease s).inputs = s.inputs ∧ (loopRelease s).freeDraws = s.freeDraws ∧ (loopRelease s).pending = s.pending := by
  simp [loopRelease]

@[simp] theorem loopSetRate_frame (v : Int) (s : State) :
    (loopSetRate v s).spt = s.spt ∧ (loopSetRate v s).ldc = s.ldc ∧ (loopSetRate v s).exc = s.exc ∧ (loopSetRate v s).xhc = s.xhc ∧ (loopSetRate v s).mar = s.mar ∧ (loopSetRate v s).tex = s.tex ∧ (loopSetRate v s).cps = s.cps ∧ (loopSetRate v s).rsl = s.rsl ∧ (loopSetRate v s).pif = s.pif ∧ (loopSetRate v s).cal = s.cal ∧ (loopSetRate v s).inputs = s.inputs ∧ (loopSetRate v s).freeDraws = s.freeDraws ∧ (loopSetRate v s).pending = s.pending := by
  simp [loopSetRate]

@[simp] theorem holdTest_frame (c : HoldCause) (s : State) :
    (holdTest c s).spt = s.spt ∧ (holdTest c s).ldc = s.ldc ∧ (holdTest c s).exc = s.exc ∧ (holdTest c s).xhc = s.xhc ∧ (holdTest c s).mar = s.mar ∧ (holdTest c s).rsl = s.rsl ∧ (holdTest c s).pif = s.pif ∧ (holdTest c s).cal = s.cal ∧ (holdTest c s).inputs = s.inputs ∧ (holdTest c s).freeDraws = s.freeDraws ∧ (holdTest c s).pending = s.pending := by
  unfold holdTest; split <;> simp

@[simp] theorem releaseTest_frame  (s : State) :
    (releaseTest s).spt = s.spt ∧ (releaseTest s).ldc = s.ldc ∧ (releaseTest s).exc = s.exc ∧ (releaseTest s).xhc = s.xhc ∧ (releaseTest s).mar = s.mar ∧ (releaseTest s).rsl = s.rsl ∧ (releaseTest s).pif = s.pif ∧ (releaseTest s).cal = s.cal ∧ (releaseTest s).inputs = s.inputs ∧ (releaseTest s).freeDraws = s.freeDraws ∧ (releaseTest s).pending = s.pending := by
  unfold releaseTest; (repeat' split) <;> simp

@[simp] theorem beginStage_frame (i : Nat) (d : StageDef) (s : State) :
    (beginStage i d s).spt = s.spt ∧ (beginStage i d s).ldc = s.ldc ∧ (beginStage i d s).exc = s.exc ∧ (beginStage i d s).xhc = s.xhc ∧ (beginStage i d s).mar = s.mar ∧ (beginStage i d s).rlp = s.rlp ∧ (beginStage i d s).rsl = s.rsl ∧ (beginStage i d s).pif = s.pif ∧ (beginStage i d s).cal = s.cal ∧ (beginStage i d s).inputs = s.inputs ∧ (beginStage i d s).freeDraws = s.freeDraws ∧ (beginStage i d s).pending = s.pending := by
  simp [beginStage]

@[simp] theorem leavePlacing_frame  (s : State) :
    (leavePlacing s).spt = s.spt ∧ (leavePlacing s).ldc = s.ldc ∧ (leavePlacing s).exc = s.exc ∧ (leavePlacing s).xhc = s.xhc ∧ (leavePlacing s).mar = s.mar ∧ (leavePlacing s).rsl = s.rsl ∧ (leavePlacing s).pif = s.pif ∧ (leavePlacing s).cal = s.cal ∧ (leavePlacing s).inputs = s.inputs ∧ (leavePlacing s).freeDraws = s.freeDraws ∧ (leavePlacing s).pending = s.pending := by
  unfold leavePlacing; (repeat' split) <;> simp

/-! ### The capture store (R176 to R185) -/

@[simp] theorem updateCapture_frame (f : CaptureContext → CaptureContext) (s : State) :
    (updateCapture f s).spt = s.spt ∧ (updateCapture f s).ldc = s.ldc ∧ (updateCapture f s).exc = s.exc ∧ (updateCapture f s).xhc = s.xhc ∧ (updateCapture f s).mar = s.mar ∧ (updateCapture f s).tex = s.tex ∧ (updateCapture f s).rlp = s.rlp ∧ (updateCapture f s).rsl = s.rsl ∧ (updateCapture f s).pif = s.pif ∧ (updateCapture f s).cal = s.cal ∧ (updateCapture f s).inputs = s.inputs ∧ (updateCapture f s).freeDraws = s.freeDraws ∧ (updateCapture f s).pending = s.pending := by
  simp [updateCapture]

@[simp] theorem setLevel_frame  (s : State) :
    (setLevel s).spt = s.spt ∧ (setLevel s).ldc = s.ldc ∧ (setLevel s).exc = s.exc ∧ (setLevel s).xhc = s.xhc ∧ (setLevel s).mar = s.mar ∧ (setLevel s).rlp = s.rlp ∧ (setLevel s).rsl = s.rsl ∧ (setLevel s).cal = s.cal ∧ (setLevel s).inputs = s.inputs ∧ (setLevel s).freeDraws = s.freeDraws ∧ (setLevel s).pending = s.pending := by
  simp only [setLevel]; split; · simp
  · split <;> simp

@[simp] theorem startCapture_frame (n : BitVec 16) (s : State) :
    (startCapture n s).spt = s.spt ∧ (startCapture n s).ldc = s.ldc ∧ (startCapture n s).exc = s.exc ∧ (startCapture n s).xhc = s.xhc ∧ (startCapture n s).mar = s.mar ∧ (startCapture n s).rlp = s.rlp ∧ (startCapture n s).rsl = s.rsl ∧ (startCapture n s).cal = s.cal ∧ (startCapture n s).inputs = s.inputs ∧ (startCapture n s).freeDraws = s.freeDraws ∧ (startCapture n s).pending = s.pending := by
  simp [startCapture]

@[simp] theorem handOver_frame (p : CapturePage) (s : State) :
    (handOver p s).spt = s.spt ∧ (handOver p s).ldc = s.ldc ∧ (handOver p s).exc = s.exc ∧ (handOver p s).xhc = s.xhc ∧ (handOver p s).mar = s.mar ∧ (handOver p s).tex = s.tex ∧ (handOver p s).rlp = s.rlp ∧ (handOver p s).rsl = s.rsl ∧ (handOver p s).cal = s.cal ∧ (handOver p s).inputs = s.inputs ∧ (handOver p s).freeDraws = s.freeDraws ∧ (handOver p s).pending = s.pending := by
  simp [handOver]

@[simp] theorem writeEntry_frame (e : CaptureEntry) (p : CapturePage) (s : State) :
    (writeEntry e p s).spt = s.spt ∧ (writeEntry e p s).ldc = s.ldc ∧ (writeEntry e p s).exc = s.exc ∧ (writeEntry e p s).xhc = s.xhc ∧ (writeEntry e p s).mar = s.mar ∧ (writeEntry e p s).tex = s.tex ∧ (writeEntry e p s).rlp = s.rlp ∧ (writeEntry e p s).rsl = s.rsl ∧ (writeEntry e p s).cal = s.cal ∧ (writeEntry e p s).inputs = s.inputs ∧ (writeEntry e p s).freeDraws = s.freeDraws ∧ (writeEntry e p s).pending = s.pending := by
  simp only [writeEntry]; split <;> simp

@[simp] theorem openPage_frame (c : CaptureContext) (n : Nat) (s : State) :
    (openPage c n s).spt = s.spt ∧ (openPage c n s).ldc = s.ldc ∧ (openPage c n s).exc = s.exc ∧ (openPage c n s).xhc = s.xhc ∧ (openPage c n s).mar = s.mar ∧ (openPage c n s).rlp = s.rlp ∧ (openPage c n s).rsl = s.rsl ∧ (openPage c n s).cal = s.cal ∧ (openPage c n s).inputs = s.inputs ∧ (openPage c n s).freeDraws = s.freeDraws ∧ (openPage c n s).pending = s.pending := by
  simp [openPage]

@[simp] theorem loseSample_frame (c : CaptureContext) (s : State) :
    (loseSample c s).spt = s.spt ∧ (loseSample c s).ldc = s.ldc ∧ (loseSample c s).exc = s.exc ∧ (loseSample c s).xhc = s.xhc ∧ (loseSample c s).mar = s.mar ∧ (loseSample c s).rlp = s.rlp ∧ (loseSample c s).rsl = s.rsl ∧ (loseSample c s).pif = s.pif ∧ (loseSample c s).cal = s.cal ∧ (loseSample c s).inputs = s.inputs ∧ (loseSample c s).freeDraws = s.freeDraws ∧ (loseSample c s).pending = s.pending := by
  simp only [loseSample]; split <;> simp

@[simp] theorem keepSample_frame (e : CaptureEntry) (s : State) :
    (keepSample e s).spt = s.spt ∧ (keepSample e s).ldc = s.ldc ∧ (keepSample e s).exc = s.exc ∧ (keepSample e s).xhc = s.xhc ∧ (keepSample e s).mar = s.mar ∧ (keepSample e s).rlp = s.rlp ∧ (keepSample e s).rsl = s.rsl ∧ (keepSample e s).cal = s.cal ∧ (keepSample e s).inputs = s.inputs ∧ (keepSample e s).freeDraws = s.freeDraws ∧ (keepSample e s).pending = s.pending := by
  simp only [keepSample]; (repeat' split) <;> simp

@[simp] theorem captureSample_frame (d : Int) (b : Bool) (e : CaptureEntry) (s : State) :
    (captureSample d b e s).spt = s.spt ∧ (captureSample d b e s).ldc = s.ldc ∧ (captureSample d b e s).exc = s.exc ∧ (captureSample d b e s).xhc = s.xhc ∧ (captureSample d b e s).mar = s.mar ∧ (captureSample d b e s).rlp = s.rlp ∧ (captureSample d b e s).rsl = s.rsl ∧ (captureSample d b e s).cal = s.cal ∧ (captureSample d b e s).inputs = s.inputs ∧ (captureSample d b e s).freeDraws = s.freeDraws ∧ (captureSample d b e s).pending = s.pending := by
  simp only [captureSample]; (repeat' split) <;> simp

@[simp] theorem closeLastPage_frame (c : CaptureContext) (s : State) :
    (closeLastPage c s).spt = s.spt ∧ (closeLastPage c s).ldc = s.ldc ∧ (closeLastPage c s).exc = s.exc ∧ (closeLastPage c s).xhc = s.xhc ∧ (closeLastPage c s).mar = s.mar ∧ (closeLastPage c s).rlp = s.rlp ∧ (closeLastPage c s).rsl = s.rsl ∧ (closeLastPage c s).cal = s.cal ∧ (closeLastPage c s).inputs = s.inputs ∧ (closeLastPage c s).freeDraws = s.freeDraws ∧ (closeLastPage c s).pending = s.pending := by
  unfold closeLastPage; (repeat' split) <;> simp

@[simp] theorem endCapture_frame  (s : State) :
    (endCapture s).spt = s.spt ∧ (endCapture s).ldc = s.ldc ∧ (endCapture s).exc = s.exc ∧ (endCapture s).xhc = s.xhc ∧ (endCapture s).mar = s.mar ∧ (endCapture s).tex = s.tex ∧ (endCapture s).rlp = s.rlp ∧ (endCapture s).rsl = s.rsl ∧ (endCapture s).pif = s.pif ∧ (endCapture s).cal = s.cal ∧ (endCapture s).inputs = s.inputs ∧ (endCapture s).freeDraws = s.freeDraws ∧ (endCapture s).pending = s.pending := by
  simp [endCapture]

/-! ### The extensometer channel (R42 to R62) -/

@[simp] theorem updateBasis_frame (f : StrainBasis → StrainBasis) (s : State) :
    (updateBasis f s).spt = s.spt ∧ (updateBasis f s).ldc = s.ldc ∧ (updateBasis f s).xhc = s.xhc ∧ (updateBasis f s).mar = s.mar ∧ (updateBasis f s).tex = s.tex ∧ (updateBasis f s).rlp = s.rlp ∧ (updateBasis f s).cps = s.cps ∧ (updateBasis f s).rsl = s.rsl ∧ (updateBasis f s).pif = s.pif ∧ (updateBasis f s).cal = s.cal ∧ (updateBasis f s).inputs = s.inputs ∧ (updateBasis f s).freeDraws = s.freeDraws ∧ (updateBasis f s).pending = s.pending := by
  simp [updateBasis]

@[simp] theorem setP0_frame (x : Int) (s : State) :
    (setP0 x s).spt = s.spt ∧ (setP0 x s).ldc = s.ldc ∧ (setP0 x s).xhc = s.xhc ∧ (setP0 x s).mar = s.mar ∧ (setP0 x s).tex = s.tex ∧ (setP0 x s).rlp = s.rlp ∧ (setP0 x s).cps = s.cps ∧ (setP0 x s).rsl = s.rsl ∧ (setP0 x s).pif = s.pif ∧ (setP0 x s).cal = s.cal ∧ (setP0 x s).inputs = s.inputs ∧ (setP0 x s).freeDraws = s.freeDraws ∧ (setP0 x s).pending = s.pending := by
  simp [setP0]

@[simp] theorem setExtState_frame (e : ExtState) (s : State) :
    (setExtState e s).spt = s.spt ∧ (setExtState e s).ldc = s.ldc ∧ (setExtState e s).xhc = s.xhc ∧ (setExtState e s).mar = s.mar ∧ (setExtState e s).tex = s.tex ∧ (setExtState e s).rlp = s.rlp ∧ (setExtState e s).cps = s.cps ∧ (setExtState e s).rsl = s.rsl ∧ (setExtState e s).pif = s.pif ∧ (setExtState e s).cal = s.cal ∧ (setExtState e s).inputs = s.inputs ∧ (setExtState e s).freeDraws = s.freeDraws ∧ (setExtState e s).pending = s.pending := by
  simp [setExtState]

@[simp] theorem beginActive_frame  (s : State) :
    (beginActive s).spt = s.spt ∧ (beginActive s).ldc = s.ldc ∧ (beginActive s).xhc = s.xhc ∧ (beginActive s).mar = s.mar ∧ (beginActive s).tex = s.tex ∧ (beginActive s).rlp = s.rlp ∧ (beginActive s).cps = s.cps ∧ (beginActive s).rsl = s.rsl ∧ (beginActive s).pif = s.pif ∧ (beginActive s).cal = s.cal ∧ (beginActive s).inputs = s.inputs ∧ (beginActive s).freeDraws = s.freeDraws ∧ (beginActive s).pending = s.pending := by
  simp [beginActive]

@[simp] theorem zeroAtSample_frame (l : Latch) (s : State) :
    (zeroAtSample l s).spt = s.spt ∧ (zeroAtSample l s).ldc = s.ldc ∧ (zeroAtSample l s).xhc = s.xhc ∧ (zeroAtSample l s).mar = s.mar ∧ (zeroAtSample l s).tex = s.tex ∧ (zeroAtSample l s).rlp = s.rlp ∧ (zeroAtSample l s).cps = s.cps ∧ (zeroAtSample l s).rsl = s.rsl ∧ (zeroAtSample l s).pif = s.pif ∧ (zeroAtSample l s).cal = s.cal ∧ (zeroAtSample l s).inputs = s.inputs ∧ (zeroAtSample l s).freeDraws = s.freeDraws ∧ (zeroAtSample l s).pending = s.pending := by
  simp [zeroAtSample]

@[simp] theorem zeroAtRequest_frame  (s : State) :
    (zeroAtRequest s).spt = s.spt ∧ (zeroAtRequest s).xhc = s.xhc ∧ (zeroAtRequest s).mar = s.mar ∧ (zeroAtRequest s).tex = s.tex ∧ (zeroAtRequest s).rlp = s.rlp ∧ (zeroAtRequest s).cps = s.cps ∧ (zeroAtRequest s).rsl = s.rsl ∧ (zeroAtRequest s).pif = s.pif ∧ (zeroAtRequest s).cal = s.cal ∧ (zeroAtRequest s).inputs = s.inputs ∧ (zeroAtRequest s).freeDraws = s.freeDraws ∧ (zeroAtRequest s).pending = s.pending := by
  simp [zeroAtRequest]

@[simp] theorem markHandover_frame  (s : State) :
    (markHandover s).spt = s.spt ∧ (markHandover s).ldc = s.ldc ∧ (markHandover s).exc = s.exc ∧ (markHandover s).xhc = s.xhc ∧ (markHandover s).mar = s.mar ∧ (markHandover s).rlp = s.rlp ∧ (markHandover s).cps = s.cps ∧ (markHandover s).rsl = s.rsl ∧ (markHandover s).pif = s.pif ∧ (markHandover s).cal = s.cal ∧ (markHandover s).inputs = s.inputs ∧ (markHandover s).freeDraws = s.freeDraws ∧ (markHandover s).pending = s.pending := by
  simp [markHandover]

@[simp] theorem handoverEntry_frame (n : Nat) (h : Int) (s : State) :
    (handoverEntry n h s).spt = s.spt ∧ (handoverEntry n h s).ldc = s.ldc ∧ (handoverEntry n h s).xhc = s.xhc ∧ (handoverEntry n h s).mar = s.mar ∧ (handoverEntry n h s).rlp = s.rlp ∧ (handoverEntry n h s).rsl = s.rsl ∧ (handoverEntry n h s).pif = s.pif ∧ (handoverEntry n h s).cal = s.cal ∧ (handoverEntry n h s).inputs = s.inputs ∧ (handoverEntry n h s).freeDraws = s.freeDraws ∧ (handoverEntry n h s).pending = s.pending := by
  simp [handoverEntry]

@[simp] theorem removalHandover_frame (n : Nat) (h : Int) (s : State) :
    (removalHandover n h s).spt = s.spt ∧ (removalHandover n h s).ldc = s.ldc ∧ (removalHandover n h s).xhc = s.xhc ∧ (removalHandover n h s).mar = s.mar ∧ (removalHandover n h s).rlp = s.rlp ∧ (removalHandover n h s).rsl = s.rsl ∧ (removalHandover n h s).cal = s.cal ∧ (removalHandover n h s).inputs = s.inputs ∧ (removalHandover n h s).freeDraws = s.freeDraws ∧ (removalHandover n h s).pending = s.pending := by
  simp [removalHandover]

@[simp] theorem slipHandover_frame (m : SlipRecord) (s : State) :
    (slipHandover m s).spt = s.spt ∧ (slipHandover m s).ldc = s.ldc ∧ (slipHandover m s).xhc = s.xhc ∧ (slipHandover m s).mar = s.mar ∧ (slipHandover m s).rlp = s.rlp ∧ (slipHandover m s).rsl = s.rsl ∧ (slipHandover m s).cal = s.cal ∧ (slipHandover m s).inputs = s.inputs ∧ (slipHandover m s).freeDraws = s.freeDraws ∧ (slipHandover m s).pending = s.pending := by
  simp [slipHandover]

@[simp] theorem unannouncedRemoval_frame  (s : State) :
    (unannouncedRemoval s).spt = s.spt ∧ (unannouncedRemoval s).ldc = s.ldc ∧ (unannouncedRemoval s).xhc = s.xhc ∧ (unannouncedRemoval s).mar = s.mar ∧ (unannouncedRemoval s).rlp = s.rlp ∧ (unannouncedRemoval s).rsl = s.rsl ∧ (unannouncedRemoval s).pif = s.pif ∧ (unannouncedRemoval s).cal = s.cal ∧ (unannouncedRemoval s).inputs = s.inputs ∧ (unannouncedRemoval s).freeDraws = s.freeDraws ∧ (unannouncedRemoval s).pending = s.pending := by
  simp [unannouncedRemoval]

@[simp] theorem removalHold_frame (p : Plan) (s : State) :
    (removalHold p s).spt = s.spt ∧ (removalHold p s).ldc = s.ldc ∧ (removalHold p s).exc = s.exc ∧ (removalHold p s).xhc = s.xhc ∧ (removalHold p s).mar = s.mar ∧ (removalHold p s).rsl = s.rsl ∧ (removalHold p s).pif = s.pif ∧ (removalHold p s).cal = s.cal ∧ (removalHold p s).inputs = s.inputs ∧ (removalHold p s).freeDraws = s.freeDraws ∧ (removalHold p s).pending = s.pending := by
  unfold removalHold; split <;> simp

@[simp] theorem extPreloadEnd_frame (b : Bool) (l : Latch) (s : State) :
    (extPreloadEnd b l s).spt = s.spt ∧ (extPreloadEnd b l s).ldc = s.ldc ∧ (extPreloadEnd b l s).xhc = s.xhc ∧ (extPreloadEnd b l s).mar = s.mar ∧ (extPreloadEnd b l s).rlp = s.rlp ∧ (extPreloadEnd b l s).cps = s.cps ∧ (extPreloadEnd b l s).rsl = s.rsl ∧ (extPreloadEnd b l s).cal = s.cal ∧ (extPreloadEnd b l s).inputs = s.inputs ∧ (extPreloadEnd b l s).freeDraws = s.freeDraws ∧ (extPreloadEnd b l s).pending = s.pending := by
  unfold extPreloadEnd; (repeat' split) <;> simp

@[simp] theorem placementExpires_frame  (s : State) :
    (placementExpires s).spt = s.spt ∧ (placementExpires s).ldc = s.ldc ∧ (placementExpires s).xhc = s.xhc ∧ (placementExpires s).mar = s.mar ∧ (placementExpires s).rsl = s.rsl ∧ (placementExpires s).pif = s.pif ∧ (placementExpires s).cal = s.cal ∧ (placementExpires s).inputs = s.inputs ∧ (placementExpires s).freeDraws = s.freeDraws ∧ (placementExpires s).pending = s.pending := by
  simp [placementExpires]

@[simp] theorem lateHold_frame (r : ReturnState) (s : State) :
    (lateHold r s).spt = s.spt ∧ (lateHold r s).ldc = s.ldc ∧ (lateHold r s).exc = s.exc ∧ (lateHold r s).xhc = s.xhc ∧ (lateHold r s).mar = s.mar ∧ (lateHold r s).rlp = s.rlp ∧ (lateHold r s).rsl = s.rsl ∧ (lateHold r s).pif = s.pif ∧ (lateHold r s).cal = s.cal ∧ (lateHold r s).inputs = s.inputs ∧ (lateHold r s).freeDraws = s.freeDraws ∧ (lateHold r s).pending = s.pending := by
  simp [lateHold]

@[simp] theorem removalExpires_frame (p : Plan) (s : State) :
    (removalExpires p s).spt = s.spt ∧ (removalExpires p s).ldc = s.ldc ∧ (removalExpires p s).xhc = s.xhc ∧ (removalExpires p s).mar = s.mar ∧ (removalExpires p s).rlp = s.rlp ∧ (removalExpires p s).rsl = s.rsl ∧ (removalExpires p s).cal = s.cal ∧ (removalExpires p s).inputs = s.inputs ∧ (removalExpires p s).freeDraws = s.freeDraws ∧ (removalExpires p s).pending = s.pending := by
  simp only [removalExpires]; (repeat' split) <;> simp

@[simp] theorem stopTimers_frame  (s : State) :
    (stopTimers s).spt = s.spt ∧ (stopTimers s).ldc = s.ldc ∧ (stopTimers s).xhc = s.xhc ∧ (stopTimers s).mar = s.mar ∧ (stopTimers s).tex = s.tex ∧ (stopTimers s).rlp = s.rlp ∧ (stopTimers s).cps = s.cps ∧ (stopTimers s).rsl = s.rsl ∧ (stopTimers s).pif = s.pif ∧ (stopTimers s).cal = s.cal ∧ (stopTimers s).inputs = s.inputs ∧ (stopTimers s).freeDraws = s.freeDraws ∧ (stopTimers s).pending = s.pending := by
  simp [stopTimers]

@[simp] theorem extFracture_frame  (s : State) :
    (extFracture s).spt = s.spt ∧ (extFracture s).ldc = s.ldc ∧ (extFracture s).xhc = s.xhc ∧ (extFracture s).mar = s.mar ∧ (extFracture s).rlp = s.rlp ∧ (extFracture s).cps = s.cps ∧ (extFracture s).rsl = s.rsl ∧ (extFracture s).pif = s.pif ∧ (extFracture s).cal = s.cal ∧ (extFracture s).inputs = s.inputs ∧ (extFracture s).freeDraws = s.freeDraws ∧ (extFracture s).pending = s.pending := by
  unfold extFracture; split <;> simp

@[simp] theorem extClosure_frame  (s : State) :
    (extClosure s).spt = s.spt ∧ (extClosure s).ldc = s.ldc ∧ (extClosure s).xhc = s.xhc ∧ (extClosure s).mar = s.mar ∧ (extClosure s).tex = s.tex ∧ (extClosure s).rlp = s.rlp ∧ (extClosure s).cps = s.cps ∧ (extClosure s).rsl = s.rsl ∧ (extClosure s).cal = s.cal ∧ (extClosure s).inputs = s.inputs ∧ (extClosure s).freeDraws = s.freeDraws ∧ (extClosure s).pending = s.pending := by
  simp only [extClosure]; split <;> simp

/-! ### Closure (R69, R98, R128, R189) -/

@[simp] theorem appendResult_frame (r : ResultRecord) (s : State) :
    (appendResult r s).spt = s.spt ∧ (appendResult r s).ldc = s.ldc ∧ (appendResult r s).exc = s.exc ∧ (appendResult r s).xhc = s.xhc ∧ (appendResult r s).mar = s.mar ∧ (appendResult r s).tex = s.tex ∧ (appendResult r s).rlp = s.rlp ∧ (appendResult r s).cps = s.cps ∧ (appendResult r s).pif = s.pif ∧ (appendResult r s).cal = s.cal ∧ (appendResult r s).inputs = s.inputs ∧ (appendResult r s).freeDraws = s.freeDraws ∧ (appendResult r s).pending = s.pending := by
  simp [appendResult]

@[simp] theorem driveHold_frame  (s : State) :
    (driveHold s).spt = s.spt ∧ (driveHold s).ldc = s.ldc ∧ (driveHold s).exc = s.exc ∧ (driveHold s).mar = s.mar ∧ (driveHold s).tex = s.tex ∧ (driveHold s).rlp = s.rlp ∧ (driveHold s).cps = s.cps ∧ (driveHold s).rsl = s.rsl ∧ (driveHold s).pif = s.pif ∧ (driveHold s).cal = s.cal ∧ (driveHold s).inputs = s.inputs ∧ (driveHold s).freeDraws = s.freeDraws ∧ (driveHold s).pending = s.pending := by
  simp only [driveHold]; split <;> simp

@[simp] theorem driveDisable_frame  (s : State) :
    (driveDisable s).spt = s.spt ∧ (driveDisable s).ldc = s.ldc ∧ (driveDisable s).exc = s.exc ∧ (driveDisable s).mar = s.mar ∧ (driveDisable s).tex = s.tex ∧ (driveDisable s).rlp = s.rlp ∧ (driveDisable s).cps = s.cps ∧ (driveDisable s).rsl = s.rsl ∧ (driveDisable s).pif = s.pif ∧ (driveDisable s).cal = s.cal ∧ (driveDisable s).inputs = s.inputs ∧ (driveDisable s).freeDraws = s.freeDraws ∧ (driveDisable s).pending = s.pending := by
  simp [driveDisable]

@[simp] theorem endMotion_frame (o : MotionOutcome) (s : State) :
    (endMotion o s).spt = s.spt ∧ (endMotion o s).ldc = s.ldc ∧ (endMotion o s).exc = s.exc ∧ (endMotion o s).tex = s.tex ∧ (endMotion o s).rlp = s.rlp ∧ (endMotion o s).cps = s.cps ∧ (endMotion o s).rsl = s.rsl ∧ (endMotion o s).cal = s.cal ∧ (endMotion o s).inputs = s.inputs ∧ (endMotion o s).freeDraws = s.freeDraws ∧ (endMotion o s).pending = s.pending := by
  unfold endMotion; split <;> simp

@[simp] theorem fileTestEnd_frame (n : BitVec 16) (c : Closure) (s : State) :
    (fileTestEnd n c s).spt = s.spt ∧ (fileTestEnd n c s).ldc = s.ldc ∧ (fileTestEnd n c s).exc = s.exc ∧ (fileTestEnd n c s).xhc = s.xhc ∧ (fileTestEnd n c s).tex = s.tex ∧ (fileTestEnd n c s).rlp = s.rlp ∧ (fileTestEnd n c s).cps = s.cps ∧ (fileTestEnd n c s).rsl = s.rsl ∧ (fileTestEnd n c s).cal = s.cal ∧ (fileTestEnd n c s).inputs = s.inputs ∧ (fileTestEnd n c s).freeDraws = s.freeDraws ∧ (fileTestEnd n c s).pending = s.pending := by
  unfold fileTestEnd; split <;> simp

@[simp] theorem closureNotices_frame  (s : State) :
    (closureNotices s).spt = s.spt ∧ (closureNotices s).ldc = s.ldc ∧ (closureNotices s).exc = s.exc ∧ (closureNotices s).xhc = s.xhc ∧ (closureNotices s).mar = s.mar ∧ (closureNotices s).tex = s.tex ∧ (closureNotices s).rlp = s.rlp ∧ (closureNotices s).cps = s.cps ∧ (closureNotices s).rsl = s.rsl ∧ (closureNotices s).cal = s.cal ∧ (closureNotices s).inputs = s.inputs ∧ (closureNotices s).freeDraws = s.freeDraws ∧ (closureNotices s).pending = s.pending := by
  simp [closureNotices]

@[simp] theorem slotTested_frame  (s : State) :
    (slotTested s).ldc = s.ldc ∧ (slotTested s).exc = s.exc ∧ (slotTested s).xhc = s.xhc ∧ (slotTested s).mar = s.mar ∧ (slotTested s).tex = s.tex ∧ (slotTested s).rlp = s.rlp ∧ (slotTested s).cps = s.cps ∧ (slotTested s).rsl = s.rsl ∧ (slotTested s).pif = s.pif ∧ (slotTested s).cal = s.cal ∧ (slotTested s).inputs = s.inputs ∧ (slotTested s).freeDraws = s.freeDraws ∧ (slotTested s).pending = s.pending := by
  simp [slotTested]

@[simp] theorem recordTest_frame (t : TestContext) (c : Closure) (k : Nat × Nat × Nat × Nat) (s : State) :
    (recordTest t c k s).spt = s.spt ∧ (recordTest t c k s).ldc = s.ldc ∧ (recordTest t c k s).exc = s.exc ∧ (recordTest t c k s).xhc = s.xhc ∧ (recordTest t c k s).mar = s.mar ∧ (recordTest t c k s).tex = s.tex ∧ (recordTest t c k s).rlp = s.rlp ∧ (recordTest t c k s).cps = s.cps ∧ (recordTest t c k s).pif = s.pif ∧ (recordTest t c k s).cal = s.cal ∧ (recordTest t c k s).inputs = s.inputs ∧ (recordTest t c k s).freeDraws = s.freeDraws ∧ (recordTest t c k s).pending = s.pending := by
  unfold recordTest; split <;> simp

@[simp] theorem closeTest_frame (c : Closure) (s : State) :
    (closeTest c s).cal = s.cal ∧ (closeTest c s).inputs = s.inputs ∧ (closeTest c s).freeDraws = s.freeDraws ∧ (closeTest c s).pending = s.pending := by
  unfold closeTest; split; · simp
  · simp only []; (repeat' split) <;> simp

@[simp] theorem abortTest_frame (c : AbortCause) (s : State) :
    (abortTest c s).cal = s.cal ∧ (abortTest c s).inputs = s.inputs ∧ (abortTest c s).freeDraws = s.freeDraws ∧ (abortTest c s).pending = s.pending := by
  simp [abortTest]

/-! ### Words, motions and activation (R69 to R79, R94, R95, R111) -/

@[simp] theorem sendWordValue_frame (w : Int) (s : State) :
    (sendWordValue w s).spt = s.spt ∧ (sendWordValue w s).ldc = s.ldc ∧ (sendWordValue w s).exc = s.exc ∧ (sendWordValue w s).mar = s.mar ∧ (sendWordValue w s).tex = s.tex ∧ (sendWordValue w s).rlp = s.rlp ∧ (sendWordValue w s).cps = s.cps ∧ (sendWordValue w s).rsl = s.rsl ∧ (sendWordValue w s).pif = s.pif ∧ (sendWordValue w s).cal = s.cal ∧ (sendWordValue w s).inputs = s.inputs ∧ (sendWordValue w s).freeDraws = s.freeDraws ∧ (sendWordValue w s).pending = s.pending := by
  simp [sendWordValue]

@[simp] theorem softLimitEvent_frame (up : Bool) (s : State) :
    (softLimitEvent up s).cal = s.cal ∧ (softLimitEvent up s).inputs = s.inputs ∧ (softLimitEvent up s).freeDraws = s.freeDraws ∧ (softLimitEvent up s).pending = s.pending := by
  unfold softLimitEvent; (repeat' split) <;> simp

@[simp] theorem sendWord_frame  (s : State) :
    (sendWord s).cal = s.cal ∧ (sendWord s).inputs = s.inputs ∧ (sendWord s).freeDraws = s.freeDraws ∧ (sendWord s).pending = s.pending := by
  unfold sendWord; split <;> simp

@[simp] theorem setJob_frame (j : ActiveJob) (s : State) :
    (setJob j s).spt = s.spt ∧ (setJob j s).ldc = s.ldc ∧ (setJob j s).exc = s.exc ∧ (setJob j s).xhc = s.xhc ∧ (setJob j s).tex = s.tex ∧ (setJob j s).rlp = s.rlp ∧ (setJob j s).cps = s.cps ∧ (setJob j s).rsl = s.rsl ∧ (setJob j s).pif = s.pif ∧ (setJob j s).cal = s.cal ∧ (setJob j s).inputs = s.inputs ∧ (setJob j s).freeDraws = s.freeDraws ∧ (setJob j s).pending = s.pending := by
  simp [setJob]

@[simp] theorem beginMotion_frame  (s : State) :
    (beginMotion s).spt = s.spt ∧ (beginMotion s).ldc = s.ldc ∧ (beginMotion s).exc = s.exc ∧ (beginMotion s).tex = s.tex ∧ (beginMotion s).rlp = s.rlp ∧ (beginMotion s).cps = s.cps ∧ (beginMotion s).rsl = s.rsl ∧ (beginMotion s).cal = s.cal ∧ (beginMotion s).inputs = s.inputs ∧ (beginMotion s).freeDraws = s.freeDraws ∧ (beginMotion s).pending = s.pending := by
  unfold beginMotion; (repeat' split) <;> simp

@[simp] theorem startDrive_frame  (s : State) :
    (startDrive s).spt = s.spt ∧ (startDrive s).ldc = s.ldc ∧ (startDrive s).exc = s.exc ∧ (startDrive s).tex = s.tex ∧ (startDrive s).rlp = s.rlp ∧ (startDrive s).cps = s.cps ∧ (startDrive s).rsl = s.rsl ∧ (startDrive s).cal = s.cal ∧ (startDrive s).inputs = s.inputs ∧ (startDrive s).freeDraws = s.freeDraws ∧ (startDrive s).pending = s.pending := by
  unfold startDrive; split <;> simp

@[simp] theorem activateTest_frame (m : MountedSpecimen) (p : Plan) (s : State) :
    (activateTest m p s).xhc = s.xhc ∧ (activateTest m p s).mar = s.mar ∧ (activateTest m p s).cal = s.cal ∧ (activateTest m p s).inputs = s.inputs ∧ (activateTest m p s).freeDraws = s.freeDraws ∧ (activateTest m p s).pending = s.pending := by
  simp [activateTest]

@[simp] theorem endAtOnce_frame (b : Bool) (rq : MotionRequest) (o : MotionOutcome) (r : Option Reason) (s : State) :
    (endAtOnce b rq o r s).spt = s.spt ∧ (endAtOnce b rq o r s).ldc = s.ldc ∧ (endAtOnce b rq o r s).exc = s.exc ∧ (endAtOnce b rq o r s).tex = s.tex ∧ (endAtOnce b rq o r s).rlp = s.rlp ∧ (endAtOnce b rq o r s).cps = s.cps ∧ (endAtOnce b rq o r s).rsl = s.rsl ∧ (endAtOnce b rq o r s).cal = s.cal ∧ (endAtOnce b rq o r s).inputs = s.inputs ∧ (endAtOnce b rq o r s).freeDraws = s.freeDraws ∧ (endAtOnce b rq o r s).pending = s.pending := by
  unfold endAtOnce; simp only []; split <;> simp

@[simp] theorem makeActive_frame (rq : MotionRequest) (j : ActiveJob) (s : State) :
    (makeActive rq j s).spt = s.spt ∧ (makeActive rq j s).ldc = s.ldc ∧ (makeActive rq j s).exc = s.exc ∧ (makeActive rq j s).tex = s.tex ∧ (makeActive rq j s).rlp = s.rlp ∧ (makeActive rq j s).cps = s.cps ∧ (makeActive rq j s).rsl = s.rsl ∧ (makeActive rq j s).cal = s.cal ∧ (makeActive rq j s).inputs = s.inputs ∧ (makeActive rq j s).freeDraws = s.freeDraws ∧ (makeActive rq j s).pending = s.pending := by
  simp [makeActive]

@[simp] theorem startSearch_frame  (s : State) :
    (startSearch s).spt = s.spt ∧ (startSearch s).ldc = s.ldc ∧ (startSearch s).exc = s.exc ∧ (startSearch s).mar = s.mar ∧ (startSearch s).tex = s.tex ∧ (startSearch s).rlp = s.rlp ∧ (startSearch s).cps = s.cps ∧ (startSearch s).rsl = s.rsl ∧ (startSearch s).pif = s.pif ∧ (startSearch s).cal = s.cal ∧ (startSearch s).inputs = s.inputs ∧ (startSearch s).freeDraws = s.freeDraws ∧ (startSearch s).pending = s.pending := by
  simp [startSearch]

@[simp] theorem takeMove_frame (b : Bool) (rq : MotionRequest) (x : Int) (y : Int) (s : State) :
    (takeMove b rq x y s).spt = s.spt ∧ (takeMove b rq x y s).ldc = s.ldc ∧ (takeMove b rq x y s).exc = s.exc ∧ (takeMove b rq x y s).tex = s.tex ∧ (takeMove b rq x y s).rlp = s.rlp ∧ (takeMove b rq x y s).cps = s.cps ∧ (takeMove b rq x y s).rsl = s.rsl ∧ (takeMove b rq x y s).cal = s.cal ∧ (takeMove b rq x y s).inputs = s.inputs ∧ (takeMove b rq x y s).freeDraws = s.freeDraws ∧ (takeMove b rq x y s).pending = s.pending := by
  simp only [takeMove]; (repeat' split) <;> simp

@[simp] theorem takeStartTest_frame (rq : MotionRequest) (s : State) :
    (takeStartTest rq s).cal = s.cal ∧ (takeStartTest rq s).inputs = s.inputs ∧ (takeStartTest rq s).freeDraws = s.freeDraws ∧ (takeStartTest rq s).pending = s.pending := by
  unfold takeStartTest; (repeat' split) <;> simp

@[simp] theorem takeRequest_frame (b : Bool) (rq : MotionRequest) (s : State) :
    (takeRequest b rq s).cal = s.cal ∧ (takeRequest b rq s).inputs = s.inputs ∧ (takeRequest b rq s).freeDraws = s.freeDraws ∧ (takeRequest b rq s).pending = s.pending := by
  unfold takeRequest; (repeat' split) <;> simp

@[simp] theorem unqueue_frame (rq : MotionRequest) (s : State) :
    (unqueue rq s).spt = s.spt ∧ (unqueue rq s).ldc = s.ldc ∧ (unqueue rq s).exc = s.exc ∧ (unqueue rq s).xhc = s.xhc ∧ (unqueue rq s).tex = s.tex ∧ (unqueue rq s).rlp = s.rlp ∧ (unqueue rq s).cps = s.cps ∧ (unqueue rq s).rsl = s.rsl ∧ (unqueue rq s).pif = s.pif ∧ (unqueue rq s).cal = s.cal ∧ (unqueue rq s).inputs = s.inputs ∧ (unqueue rq s).freeDraws = s.freeDraws ∧ (unqueue rq s).pending = s.pending := by
  simp [unqueue]

@[simp] theorem unqueue_mar (rq : MotionRequest) (s : State) :
    (unqueue rq s).mar.active = s.mar.active ∧ (unqueue rq s).mar.queue = s.mar.queue.erase rq ∧
      (unqueue rq s).mar.holder = s.mar.holder ∧ (unqueue rq s).mar.waiter = s.mar.waiter ∧
      (unqueue rq s).mar.slot = s.mar.slot := by
  simp [unqueue]; funext p; cases p <;> rfl

@[simp] theorem activationLoop_frame (n : Nat) (s : State) :
    (activationLoop n s).cal = s.cal ∧ (activationLoop n s).inputs = s.inputs ∧ (activationLoop n s).freeDraws = s.freeDraws ∧ (activationLoop n s).pending = s.pending := by
  induction n generalizing s with
  | zero => simp [activationLoop]
  | succ n ih =>
    unfold activationLoop
    split
    · simp
    · split
      · simp
      · simp [ih]

@[simp] theorem tryActivate_frame  (s : State) :
    (tryActivate s).cal = s.cal ∧ (tryActivate s).inputs = s.inputs ∧ (tryActivate s).freeDraws = s.freeDraws ∧ (tryActivate s).pending = s.pending := by
  simp [tryActivate]

@[simp] theorem activateAfterEnd_frame (b s : State) :
    (activateAfterEnd b s).cal = s.cal ∧ (activateAfterEnd b s).inputs = s.inputs ∧ (activateAfterEnd b s).freeDraws = s.freeDraws ∧ (activateAfterEnd b s).pending = s.pending := by
  unfold activateAfterEnd; split <;> simp

/-! ### The claim and the motion requests (R85 to R99) -/

@[simp] theorem setClaim_frame (h : Option Port) (w : Option Port) (s : State) :
    (setClaim h w s).spt = s.spt ∧ (setClaim h w s).ldc = s.ldc ∧ (setClaim h w s).exc = s.exc ∧ (setClaim h w s).xhc = s.xhc ∧ (setClaim h w s).tex = s.tex ∧ (setClaim h w s).rlp = s.rlp ∧ (setClaim h w s).cps = s.cps ∧ (setClaim h w s).rsl = s.rsl ∧ (setClaim h w s).pif = s.pif ∧ (setClaim h w s).cal = s.cal ∧ (setClaim h w s).inputs = s.inputs ∧ (setClaim h w s).freeDraws = s.freeDraws ∧ (setClaim h w s).pending = s.pending := by
  simp [setClaim]

@[simp] theorem setMotionQueue_frame (q : List MotionRequest) (s : State) :
    (setMotionQueue q s).spt = s.spt ∧ (setMotionQueue q s).ldc = s.ldc ∧ (setMotionQueue q s).exc = s.exc ∧ (setMotionQueue q s).xhc = s.xhc ∧ (setMotionQueue q s).tex = s.tex ∧ (setMotionQueue q s).rlp = s.rlp ∧ (setMotionQueue q s).cps = s.cps ∧ (setMotionQueue q s).rsl = s.rsl ∧ (setMotionQueue q s).pif = s.pif ∧ (setMotionQueue q s).cal = s.cal ∧ (setMotionQueue q s).inputs = s.inputs ∧ (setMotionQueue q s).freeDraws = s.freeDraws ∧ (setMotionQueue q s).pending = s.pending := by
  simp [setMotionQueue]

@[simp] theorem cancelRequest_frame (rq : MotionRequest) (s : State) :
    (cancelRequest rq s).spt = s.spt ∧ (cancelRequest rq s).ldc = s.ldc ∧ (cancelRequest rq s).exc = s.exc ∧ (cancelRequest rq s).xhc = s.xhc ∧ (cancelRequest rq s).tex = s.tex ∧ (cancelRequest rq s).rlp = s.rlp ∧ (cancelRequest rq s).cps = s.cps ∧ (cancelRequest rq s).rsl = s.rsl ∧ (cancelRequest rq s).cal = s.cal ∧ (cancelRequest rq s).inputs = s.inputs ∧ (cancelRequest rq s).freeDraws = s.freeDraws ∧ (cancelRequest rq s).pending = s.pending := by
  simp [cancelRequest]

@[simp] theorem passClaim_frame  (s : State) :
    (passClaim s).cal = s.cal ∧ (passClaim s).inputs = s.inputs ∧ (passClaim s).freeDraws = s.freeDraws ∧ (passClaim s).pending = s.pending := by
  unfold passClaim; split <;> simp [tryActivate]

@[simp] theorem withdrawClaim_frame (p : Port) (s : State) :
    (withdrawClaim p s).spt = s.spt ∧ (withdrawClaim p s).ldc = s.ldc ∧ (withdrawClaim p s).exc = s.exc ∧ (withdrawClaim p s).xhc = s.xhc ∧ (withdrawClaim p s).tex = s.tex ∧ (withdrawClaim p s).rlp = s.rlp ∧ (withdrawClaim p s).cps = s.cps ∧ (withdrawClaim p s).rsl = s.rsl ∧ (withdrawClaim p s).cal = s.cal ∧ (withdrawClaim p s).inputs = s.inputs ∧ (withdrawClaim p s).freeDraws = s.freeDraws ∧ (withdrawClaim p s).pending = s.pending := by
  unfold withdrawClaim; simp only []; (repeat' split) <;> simp

@[simp] theorem claimByJog_frame (p : Port) (s : State) :
    (claimByJog p s).spt = s.spt ∧ (claimByJog p s).ldc = s.ldc ∧ (claimByJog p s).exc = s.exc ∧ (claimByJog p s).xhc = s.xhc ∧ (claimByJog p s).tex = s.tex ∧ (claimByJog p s).rlp = s.rlp ∧ (claimByJog p s).cps = s.cps ∧ (claimByJog p s).rsl = s.rsl ∧ (claimByJog p s).pif = s.pif ∧ (claimByJog p s).cal = s.cal ∧ (claimByJog p s).inputs = s.inputs ∧ (claimByJog p s).freeDraws = s.freeDraws ∧ (claimByJog p s).pending = s.pending := by
  unfold claimByJog; split <;> simp

@[simp] theorem placeRetract_frame (rq : MotionRequest) (s : State) :
    (placeRetract rq s).cal = s.cal ∧ (placeRetract rq s).inputs = s.inputs ∧ (placeRetract rq s).freeDraws = s.freeDraws ∧ (placeRetract rq s).pending = s.pending := by
  unfold placeRetract; split <;> simp

@[simp] theorem placeRequest_frame (rq : MotionRequest) (s : State) :
    (placeRequest rq s).cal = s.cal ∧ (placeRequest rq s).inputs = s.inputs ∧ (placeRequest rq s).freeDraws = s.freeDraws ∧ (placeRequest rq s).pending = s.pending := by
  unfold placeRequest; split <;> simp

@[simp] theorem admitMotion_frame (rq : MotionRequest) (s : State) :
    (admitMotion rq s).cal = s.cal ∧ (admitMotion rq s).inputs = s.inputs ∧ (admitMotion rq s).freeDraws = s.freeDraws ∧ (admitMotion rq s).pending = s.pending := by
  unfold admitMotion; split <;> simp [tryActivate]

@[simp] theorem refreshJog_frame (d : Direction) (x : Int) (y : Int) (s : State) :
    (refreshJog d x y s).cal = s.cal ∧ (refreshJog d x y s).inputs = s.inputs ∧ (refreshJog d x y s).freeDraws = s.freeDraws ∧ (refreshJog d x y s).pending = s.pending := by
  simp only [refreshJog]; (repeat' split) <;> simp

@[simp] theorem emptySlot_frame (p : Port) (s : State) :
    (emptySlot p s).spt = s.spt ∧ (emptySlot p s).ldc = s.ldc ∧ (emptySlot p s).exc = s.exc ∧ (emptySlot p s).xhc = s.xhc ∧ (emptySlot p s).tex = s.tex ∧ (emptySlot p s).rlp = s.rlp ∧ (emptySlot p s).cps = s.cps ∧ (emptySlot p s).rsl = s.rsl ∧ (emptySlot p s).pif = s.pif ∧ (emptySlot p s).cal = s.cal ∧ (emptySlot p s).inputs = s.inputs ∧ (emptySlot p s).freeDraws = s.freeDraws ∧ (emptySlot p s).pending = s.pending := by
  simp [emptySlot]

/-! ### The frame, the specimens and the results -/

@[simp] theorem setConfig_frame (c : FrameConfig) (s : State) :
    (setConfig c s).spt = s.spt ∧ (setConfig c s).exc = s.exc ∧ (setConfig c s).mar = s.mar ∧ (setConfig c s).tex = s.tex ∧ (setConfig c s).rlp = s.rlp ∧ (setConfig c s).cps = s.cps ∧ (setConfig c s).rsl = s.rsl ∧ (setConfig c s).pif = s.pif ∧ (setConfig c s).cal = s.cal ∧ (setConfig c s).inputs = s.inputs ∧ (setConfig c s).freeDraws = s.freeDraws ∧ (setConfig c s).pending = s.pending := by
  simp [setConfig]

@[simp] theorem setTare_frame (x : Int) (s : State) :
    (setTare x s).spt = s.spt ∧ (setTare x s).exc = s.exc ∧ (setTare x s).xhc = s.xhc ∧ (setTare x s).mar = s.mar ∧ (setTare x s).tex = s.tex ∧ (setTare x s).rlp = s.rlp ∧ (setTare x s).cps = s.cps ∧ (setTare x s).rsl = s.rsl ∧ (setTare x s).pif = s.pif ∧ (setTare x s).cal = s.cal ∧ (setTare x s).inputs = s.inputs ∧ (setTare x s).freeDraws = s.freeDraws ∧ (setTare x s).pending = s.pending := by
  simp [setTare]

@[simp] theorem storePlan_frame (i : Fin 8) (p : Plan) (s : State) :
    (storePlan i p s).spt = s.spt ∧ (storePlan i p s).ldc = s.ldc ∧ (storePlan i p s).exc = s.exc ∧ (storePlan i p s).xhc = s.xhc ∧ (storePlan i p s).mar = s.mar ∧ (storePlan i p s).rlp = s.rlp ∧ (storePlan i p s).cps = s.cps ∧ (storePlan i p s).rsl = s.rsl ∧ (storePlan i p s).pif = s.pif ∧ (storePlan i p s).cal = s.cal ∧ (storePlan i p s).inputs = s.inputs ∧ (storePlan i p s).freeDraws = s.freeDraws ∧ (storePlan i p s).pending = s.pending := by
  simp [storePlan]

@[simp] theorem adjustRate_frame (x : Int) (s : State) :
    (adjustRate x s).spt = s.spt ∧ (adjustRate x s).ldc = s.ldc ∧ (adjustRate x s).exc = s.exc ∧ (adjustRate x s).xhc = s.xhc ∧ (adjustRate x s).mar = s.mar ∧ (adjustRate x s).rsl = s.rsl ∧ (adjustRate x s).pif = s.pif ∧ (adjustRate x s).cal = s.cal ∧ (adjustRate x s).inputs = s.inputs ∧ (adjustRate x s).freeDraws = s.freeDraws ∧ (adjustRate x s).pending = s.pending := by
  simp [adjustRate, markStage]

@[simp] theorem setSlotSpecimen_frame (m : Option MountedSpecimen) (s : State) :
    (setSlotSpecimen m s).ldc = s.ldc ∧ (setSlotSpecimen m s).exc = s.exc ∧ (setSlotSpecimen m s).xhc = s.xhc ∧ (setSlotSpecimen m s).mar = s.mar ∧ (setSlotSpecimen m s).tex = s.tex ∧ (setSlotSpecimen m s).rlp = s.rlp ∧ (setSlotSpecimen m s).cps = s.cps ∧ (setSlotSpecimen m s).rsl = s.rsl ∧ (setSlotSpecimen m s).pif = s.pif ∧ (setSlotSpecimen m s).cal = s.cal ∧ (setSlotSpecimen m s).inputs = s.inputs ∧ (setSlotSpecimen m s).freeDraws = s.freeDraws ∧ (setSlotSpecimen m s).pending = s.pending := by
  simp [setSlotSpecimen]

@[simp] theorem setQueue_frame (q : List QueuedSpecimen) (s : State) :
    (setQueue q s).ldc = s.ldc ∧ (setQueue q s).exc = s.exc ∧ (setQueue q s).xhc = s.xhc ∧ (setQueue q s).mar = s.mar ∧ (setQueue q s).tex = s.tex ∧ (setQueue q s).rlp = s.rlp ∧ (setQueue q s).cps = s.cps ∧ (setQueue q s).rsl = s.rsl ∧ (setQueue q s).pif = s.pif ∧ (setQueue q s).cal = s.cal ∧ (setQueue q s).inputs = s.inputs ∧ (setQueue q s).freeDraws = s.freeDraws ∧ (setQueue q s).pending = s.pending := by
  simp [setQueue]

@[simp] theorem mount_frame (id : Text) (m : MountedSpecimen) (s : State) :
    (mount id m s).ldc = s.ldc ∧ (mount id m s).exc = s.exc ∧ (mount id m s).xhc = s.xhc ∧ (mount id m s).mar = s.mar ∧ (mount id m s).tex = s.tex ∧ (mount id m s).rlp = s.rlp ∧ (mount id m s).cps = s.cps ∧ (mount id m s).rsl = s.rsl ∧ (mount id m s).cal = s.cal ∧ (mount id m s).inputs = s.inputs ∧ (mount id m s).freeDraws = s.freeDraws ∧ (mount id m s).pending = s.pending := by
  simp only [mount]; split <;> simp

@[simp] theorem returnSpecimen_frame (m : MountedSpecimen) (s : State) :
    (returnSpecimen m s).ldc = s.ldc ∧ (returnSpecimen m s).exc = s.exc ∧ (returnSpecimen m s).xhc = s.xhc ∧ (returnSpecimen m s).mar = s.mar ∧ (returnSpecimen m s).tex = s.tex ∧ (returnSpecimen m s).rlp = s.rlp ∧ (returnSpecimen m s).cps = s.cps ∧ (returnSpecimen m s).rsl = s.rsl ∧ (returnSpecimen m s).pif = s.pif ∧ (returnSpecimen m s).cal = s.cal ∧ (returnSpecimen m s).inputs = s.inputs ∧ (returnSpecimen m s).freeDraws = s.freeDraws ∧ (returnSpecimen m s).pending = s.pending := by
  simp [returnSpecimen]

@[simp] theorem stopPlacement_frame  (s : State) :
    (stopPlacement s).spt = s.spt ∧ (stopPlacement s).ldc = s.ldc ∧ (stopPlacement s).xhc = s.xhc ∧ (stopPlacement s).mar = s.mar ∧ (stopPlacement s).tex = s.tex ∧ (stopPlacement s).rlp = s.rlp ∧ (stopPlacement s).cps = s.cps ∧ (stopPlacement s).rsl = s.rsl ∧ (stopPlacement s).pif = s.pif ∧ (stopPlacement s).cal = s.cal ∧ (stopPlacement s).inputs = s.inputs ∧ (stopPlacement s).freeDraws = s.freeDraws ∧ (stopPlacement s).pending = s.pending := by
  simp [stopPlacement]

@[simp] theorem stopRemoval_frame  (s : State) :
    (stopRemoval s).spt = s.spt ∧ (stopRemoval s).ldc = s.ldc ∧ (stopRemoval s).xhc = s.xhc ∧ (stopRemoval s).mar = s.mar ∧ (stopRemoval s).tex = s.tex ∧ (stopRemoval s).rlp = s.rlp ∧ (stopRemoval s).cps = s.cps ∧ (stopRemoval s).rsl = s.rsl ∧ (stopRemoval s).pif = s.pif ∧ (stopRemoval s).cal = s.cal ∧ (stopRemoval s).inputs = s.inputs ∧ (stopRemoval s).freeDraws = s.freeDraws ∧ (stopRemoval s).pending = s.pending := by
  simp [stopRemoval]

@[simp] theorem confirmRemoval_frame  (s : State) :
    (confirmRemoval s).spt = s.spt ∧ (confirmRemoval s).ldc = s.ldc ∧ (confirmRemoval s).xhc = s.xhc ∧ (confirmRemoval s).mar = s.mar ∧ (confirmRemoval s).rsl = s.rsl ∧ (confirmRemoval s).pif = s.pif ∧ (confirmRemoval s).cal = s.cal ∧ (confirmRemoval s).inputs = s.inputs ∧ (confirmRemoval s).freeDraws = s.freeDraws ∧ (confirmRemoval s).pending = s.pending := by
  simp only [confirmRemoval]; split <;> simp

@[simp] theorem setLimits_frame (g : Fin 32) (l : Option GradeLimits) (s : State) :
    (setLimits g l s).spt = s.spt ∧ (setLimits g l s).ldc = s.ldc ∧ (setLimits g l s).exc = s.exc ∧ (setLimits g l s).xhc = s.xhc ∧ (setLimits g l s).mar = s.mar ∧ (setLimits g l s).tex = s.tex ∧ (setLimits g l s).rlp = s.rlp ∧ (setLimits g l s).cps = s.cps ∧ (setLimits g l s).pif = s.pif ∧ (setLimits g l s).cal = s.cal ∧ (setLimits g l s).inputs = s.inputs ∧ (setLimits g l s).freeDraws = s.freeDraws ∧ (setLimits g l s).pending = s.pending := by
  simp [setLimits]

@[simp] theorem setResults_frame (l : List ResultRecord) (s : State) :
    (setResults l s).spt = s.spt ∧ (setResults l s).ldc = s.ldc ∧ (setResults l s).exc = s.exc ∧ (setResults l s).xhc = s.xhc ∧ (setResults l s).mar = s.mar ∧ (setResults l s).tex = s.tex ∧ (setResults l s).rlp = s.rlp ∧ (setResults l s).cps = s.cps ∧ (setResults l s).pif = s.pif ∧ (setResults l s).cal = s.cal ∧ (setResults l s).inputs = s.inputs ∧ (setResults l s).freeDraws = s.freeDraws ∧ (setResults l s).pending = s.pending := by
  simp [setResults]

@[simp] theorem freePage_frame (l : List CapturePage) (s : State) :
    (freePage l s).spt = s.spt ∧ (freePage l s).ldc = s.ldc ∧ (freePage l s).exc = s.exc ∧ (freePage l s).xhc = s.xhc ∧ (freePage l s).mar = s.mar ∧ (freePage l s).rlp = s.rlp ∧ (freePage l s).rsl = s.rsl ∧ (freePage l s).cal = s.cal ∧ (freePage l s).inputs = s.inputs ∧ (freePage l s).freeDraws = s.freeDraws ∧ (freePage l s).pending = s.pending := by
  simp [freePage]

@[simp] theorem beginProgramming_frame (r : LoadRange) (l : List CalPoint) (s : State) :
    (beginProgramming r l s).spt = s.spt ∧ (beginProgramming r l s).ldc = s.ldc ∧ (beginProgramming r l s).exc = s.exc ∧ (beginProgramming r l s).xhc = s.xhc ∧ (beginProgramming r l s).mar = s.mar ∧ (beginProgramming r l s).tex = s.tex ∧ (beginProgramming r l s).rlp = s.rlp ∧ (beginProgramming r l s).cps = s.cps ∧ (beginProgramming r l s).rsl = s.rsl ∧ (beginProgramming r l s).pif = s.pif ∧ (beginProgramming r l s).inputs = s.inputs ∧ (beginProgramming r l s).freeDraws = s.freeDraws ∧ (beginProgramming r l s).pending = s.pending := by
  simp [beginProgramming]

@[simp] theorem setFlags_frame (p : Port) (l : List (Notice × FlagState)) (s : State) :
    (setFlags p l s).spt = s.spt ∧ (setFlags p l s).ldc = s.ldc ∧ (setFlags p l s).exc = s.exc ∧ (setFlags p l s).xhc = s.xhc ∧ (setFlags p l s).mar = s.mar ∧ (setFlags p l s).tex = s.tex ∧ (setFlags p l s).rlp = s.rlp ∧ (setFlags p l s).cps = s.cps ∧ (setFlags p l s).rsl = s.rsl ∧ (setFlags p l s).cal = s.cal ∧ (setFlags p l s).inputs = s.inputs ∧ (setFlags p l s).freeDraws = s.freeDraws ∧ (setFlags p l s).pending = s.pending := by
  simp [setFlags]

/-! ### The sample timer, the edges and the lines -/

@[simp] theorem startConversion_frame  (s : State) :
    (startConversion s).spt = s.spt ∧ (startConversion s).exc = s.exc ∧ (startConversion s).xhc = s.xhc ∧ (startConversion s).mar = s.mar ∧ (startConversion s).tex = s.tex ∧ (startConversion s).rlp = s.rlp ∧ (startConversion s).cps = s.cps ∧ (startConversion s).rsl = s.rsl ∧ (startConversion s).pif = s.pif ∧ (startConversion s).cal = s.cal ∧ (startConversion s).inputs = s.inputs ∧ (startConversion s).freeDraws = s.freeDraws ∧ (startConversion s).pending = s.pending := by
  simp [startConversion]

@[simp] theorem markStage_frame (f : StageRun → StageRun) (s : State) :
    (markStage f s).spt = s.spt ∧ (markStage f s).ldc = s.ldc ∧ (markStage f s).exc = s.exc ∧ (markStage f s).xhc = s.xhc ∧ (markStage f s).mar = s.mar ∧ (markStage f s).rlp = s.rlp ∧ (markStage f s).cps = s.cps ∧ (markStage f s).rsl = s.rsl ∧ (markStage f s).pif = s.pif ∧ (markStage f s).cal = s.cal ∧ (markStage f s).inputs = s.inputs ∧ (markStage f s).freeDraws = s.freeDraws ∧ (markStage f s).pending = s.pending := by
  simp [markStage]

@[simp] theorem advanceStage_frame  (s : State) :
    (advanceStage s).spt = s.spt ∧ (advanceStage s).ldc = s.ldc ∧ (advanceStage s).exc = s.exc ∧ (advanceStage s).xhc = s.xhc ∧ (advanceStage s).mar = s.mar ∧ (advanceStage s).rlp = s.rlp ∧ (advanceStage s).cps = s.cps ∧ (advanceStage s).rsl = s.rsl ∧ (advanceStage s).pif = s.pif ∧ (advanceStage s).cal = s.cal ∧ (advanceStage s).inputs = s.inputs ∧ (advanceStage s).freeDraws = s.freeDraws ∧ (advanceStage s).pending = s.pending := by
  unfold advanceStage; split <;> simp

@[simp] theorem declareLoadFault_frame  (s : State) :
    (declareLoadFault s).cal = s.cal ∧ (declareLoadFault s).inputs = s.inputs ∧ (declareLoadFault s).freeDraws = s.freeDraws ∧ (declareLoadFault s).pending = s.pending := by
  simp [declareLoadFault]

@[simp] theorem boundMet_frame  (s : State) :
    (boundMet s).cal = s.cal ∧ (boundMet s).inputs = s.inputs ∧ (boundMet s).freeDraws = s.freeDraws ∧ (boundMet s).pending = s.pending := by
  simp only [boundMet]; split <;> simp

@[simp] theorem countEdge_frame (d : Direction) (s : State) :
    (countEdge d s).spt = s.spt ∧ (countEdge d s).ldc = s.ldc ∧ (countEdge d s).exc = s.exc ∧ (countEdge d s).mar = s.mar ∧ (countEdge d s).tex = s.tex ∧ (countEdge d s).rlp = s.rlp ∧ (countEdge d s).cps = s.cps ∧ (countEdge d s).rsl = s.rsl ∧ (countEdge d s).pif = s.pif ∧ (countEdge d s).cal = s.cal ∧ (countEdge d s).inputs = s.inputs ∧ (countEdge d s).freeDraws = s.freeDraws ∧ (countEdge d s).pending = s.pending := by
  simp [countEdge]

@[simp] theorem softLimitAtEdge_frame  (s : State) :
    (softLimitAtEdge s).cal = s.cal ∧ (softLimitAtEdge s).inputs = s.inputs ∧ (softLimitAtEdge s).freeDraws = s.freeDraws ∧ (softLimitAtEdge s).pending = s.pending := by
  unfold softLimitAtEdge; split <;> simp

@[simp] theorem setInputs_frame (i : Inputs) (s : State) :
    (setInputs i s).spt = s.spt ∧ (setInputs i s).ldc = s.ldc ∧ (setInputs i s).exc = s.exc ∧ (setInputs i s).xhc = s.xhc ∧ (setInputs i s).mar = s.mar ∧ (setInputs i s).tex = s.tex ∧ (setInputs i s).rlp = s.rlp ∧ (setInputs i s).cps = s.cps ∧ (setInputs i s).rsl = s.rsl ∧ (setInputs i s).pif = s.pif ∧ (setInputs i s).cal = s.cal ∧ (setInputs i s).freeDraws = s.freeDraws ∧ (setInputs i s).pending = s.pending := by
  simp [setInputs]

@[simp] theorem referenced_frame  (s : State) :
    (referenced s).spt = s.spt ∧ (referenced s).ldc = s.ldc ∧ (referenced s).exc = s.exc ∧ (referenced s).mar = s.mar ∧ (referenced s).tex = s.tex ∧ (referenced s).rlp = s.rlp ∧ (referenced s).cps = s.cps ∧ (referenced s).rsl = s.rsl ∧ (referenced s).pif = s.pif ∧ (referenced s).cal = s.cal ∧ (referenced s).inputs = s.inputs ∧ (referenced s).freeDraws = s.freeDraws ∧ (referenced s).pending = s.pending := by
  simp [referenced]

@[simp] theorem endMotionDisabled_frame (o : MotionOutcome) (s : State) :
    (endMotionDisabled o s).spt = s.spt ∧ (endMotionDisabled o s).ldc = s.ldc ∧ (endMotionDisabled o s).exc = s.exc ∧ (endMotionDisabled o s).xhc = s.xhc ∧ (endMotionDisabled o s).tex = s.tex ∧ (endMotionDisabled o s).rlp = s.rlp ∧ (endMotionDisabled o s).cps = s.cps ∧ (endMotionDisabled o s).rsl = s.rsl ∧ (endMotionDisabled o s).cal = s.cal ∧ (endMotionDisabled o s).inputs = s.inputs ∧ (endMotionDisabled o s).freeDraws = s.freeDraws ∧ (endMotionDisabled o s).pending = s.pending := by
  unfold endMotionDisabled; split <;> simp

@[simp] theorem limitEndsMotion_frame  (s : State) :
    (limitEndsMotion s).spt = s.spt ∧ (limitEndsMotion s).ldc = s.ldc ∧ (limitEndsMotion s).exc = s.exc ∧ (limitEndsMotion s).xhc = s.xhc ∧ (limitEndsMotion s).tex = s.tex ∧ (limitEndsMotion s).rlp = s.rlp ∧ (limitEndsMotion s).cps = s.cps ∧ (limitEndsMotion s).rsl = s.rsl ∧ (limitEndsMotion s).cal = s.cal ∧ (limitEndsMotion s).inputs = s.inputs ∧ (limitEndsMotion s).freeDraws = s.freeDraws ∧ (limitEndsMotion s).pending = s.pending := by
  unfold limitEndsMotion; split <;> simp

@[simp] theorem raiseGate_frame  (s : State) :
    (raiseGate s).spt = s.spt ∧ (raiseGate s).ldc = s.ldc ∧ (raiseGate s).exc = s.exc ∧ (raiseGate s).xhc = s.xhc ∧ (raiseGate s).mar = s.mar ∧ (raiseGate s).tex = s.tex ∧ (raiseGate s).rlp = s.rlp ∧ (raiseGate s).cps = s.cps ∧ (raiseGate s).rsl = s.rsl ∧ (raiseGate s).cal = s.cal ∧ (raiseGate s).inputs = s.inputs ∧ (raiseGate s).freeDraws = s.freeDraws ∧ (raiseGate s).pending = s.pending := by
  simp [raiseGate]

@[simp] theorem gateEndsMotion_frame  (s : State) :
    (gateEndsMotion s).spt = s.spt ∧ (gateEndsMotion s).ldc = s.ldc ∧ (gateEndsMotion s).exc = s.exc ∧ (gateEndsMotion s).tex = s.tex ∧ (gateEndsMotion s).rlp = s.rlp ∧ (gateEndsMotion s).cps = s.cps ∧ (gateEndsMotion s).rsl = s.rsl ∧ (gateEndsMotion s).cal = s.cal ∧ (gateEndsMotion s).inputs = s.inputs ∧ (gateEndsMotion s).freeDraws = s.freeDraws ∧ (gateEndsMotion s).pending = s.pending := by
  unfold gateEndsMotion; split <;> simp

@[simp] theorem fileEnds_frame (l : List MotionRequest) (o : MotionOutcome) (s : State) :
    (l.foldl (fun s rq => fileRequestEnd rq o none s) s).spt = s.spt ∧ (l.foldl (fun s rq => fileRequestEnd rq o none s) s).ldc = s.ldc ∧ (l.foldl (fun s rq => fileRequestEnd rq o none s) s).exc = s.exc ∧ (l.foldl (fun s rq => fileRequestEnd rq o none s) s).xhc = s.xhc ∧ (l.foldl (fun s rq => fileRequestEnd rq o none s) s).tex = s.tex ∧ (l.foldl (fun s rq => fileRequestEnd rq o none s) s).rlp = s.rlp ∧ (l.foldl (fun s rq => fileRequestEnd rq o none s) s).cps = s.cps ∧ (l.foldl (fun s rq => fileRequestEnd rq o none s) s).rsl = s.rsl ∧ (l.foldl (fun s rq => fileRequestEnd rq o none s) s).cal = s.cal ∧ (l.foldl (fun s rq => fileRequestEnd rq o none s) s).inputs = s.inputs ∧ (l.foldl (fun s rq => fileRequestEnd rq o none s) s).freeDraws = s.freeDraws ∧ (l.foldl (fun s rq => fileRequestEnd rq o none s) s).pending = s.pending := by
  induction l generalizing s with
  | nil => simp
  | cons a l ih => simp [ih]

@[simp] theorem stopQueue_frame  (s : State) :
    (stopQueue s).spt = s.spt ∧ (stopQueue s).ldc = s.ldc ∧ (stopQueue s).exc = s.exc ∧ (stopQueue s).xhc = s.xhc ∧ (stopQueue s).tex = s.tex ∧ (stopQueue s).rlp = s.rlp ∧ (stopQueue s).cps = s.cps ∧ (stopQueue s).rsl = s.rsl ∧ (stopQueue s).cal = s.cal ∧ (stopQueue s).inputs = s.inputs ∧ (stopQueue s).freeDraws = s.freeDraws ∧ (stopQueue s).pending = s.pending := by
  simp [stopQueue]

@[simp] theorem verifyTable_frame (w : CalWrite) (l : List CalPoint) (s : State) :
    (verifyTable w l s).spt = s.spt ∧ (verifyTable w l s).exc = s.exc ∧ (verifyTable w l s).xhc = s.xhc ∧ (verifyTable w l s).mar = s.mar ∧ (verifyTable w l s).tex = s.tex ∧ (verifyTable w l s).rlp = s.rlp ∧ (verifyTable w l s).cps = s.cps ∧ (verifyTable w l s).rsl = s.rsl ∧ (verifyTable w l s).inputs = s.inputs ∧ (verifyTable w l s).freeDraws = s.freeDraws ∧ (verifyTable w l s).pending = s.pending := by
  unfold verifyTable; split <;> simp

end Sys2Proof.Machine
end

