-- ==== Sys2Proof/Laws/Requests.lean ====
section
/-! SUPPORT. What a request does, once for all of them: it is answered, and only its block's body changes anything else. -/

namespace Sys2Proof.Machine

@[simp] theorem Reply.plain_state (s : State) (o : RequestOutcome) : (Reply.plain s o).state = s := rfl
@[simp] theorem Reply.plain_outcome (s : State) (o : RequestOutcome) : (Reply.plain s o).outcome = o := rfl
@[simp] theorem Reply.plain_payload (s : State) (o : RequestOutcome) : (Reply.plain s o).payload = .nothing := rfl

@[simp] theorem portOf_setPort (s : State) (p q : Port) (v : PortState) :
    (s.setPort p v).portOf q = if q = p then v else s.portOf q := by
  cases p <;> cases q <;> simp [State.setPort, State.portOf]

@[simp] theorem setPort_faults (s : State) (p : Port) (v : PortState) : (s.setPort p v).pif.faults = s.pif.faults := by
  cases p <;> rfl

theorem setPort_pif (s : State) (p : Port) (v : PortState) : s.setPort p v = { s with pif := (s.setPort p v).pif } := by
  cases p <;> rfl

/-- A raise leaves all but its port's flags (R204). -/
theorem raise_pif (p : Port) (n : Notice) (s : State) : raise p n s = { s with pif := (raise p n s).pif } :=
  setPort_pif s p _

/-- The state of a flag after a raise (R204): RAISED, if the port has it. -/
theorem flagIn_setFlagIn (l : List (Notice × FlagState)) (n m : Notice) (f : FlagState) :
    flagIn (setFlagIn l n f) m = if m = n ∧ n ∈ l.map (fun e => e.1) then f else flagIn l m := by
  induction l with
  | nil => simp [setFlagIn, flagIn]
  | cons e l ih =>
    obtain ⟨k, g⟩ := e
    by_cases hk : k = n <;> by_cases hm : k = m <;> simp_all [setFlagIn, flagIn] <;> grind

@[simp] theorem setFlagIn_names (l : List (Notice × FlagState)) (n : Notice) (f : FlagState) :
    (setFlagIn l n f).map (fun e => e.1) = l.map (fun e => e.1) := by
  simp only [setFlagIn, List.map_map]
  refine List.map_congr_left fun e _ => ?_
  simp only [Function.comp]
  split <;> rfl

@[simp] theorem placeAnswer_frame (p : Port) (tag : Tag) (k : Byte) (r : Reply) :
    (placeAnswer p tag k r).spt = r.state.spt ∧ (placeAnswer p tag k r).ldc = r.state.ldc ∧
    (placeAnswer p tag k r).exc = r.state.exc ∧ (placeAnswer p tag k r).xhc = r.state.xhc ∧
    (placeAnswer p tag k r).mar = r.state.mar ∧ (placeAnswer p tag k r).tex = r.state.tex ∧
    (placeAnswer p tag k r).rlp = r.state.rlp ∧ (placeAnswer p tag k r).cps = r.state.cps ∧
    (placeAnswer p tag k r).rsl = r.state.rsl ∧ (placeAnswer p tag k r).cal = r.state.cal ∧
    (placeAnswer p tag k r).inputs = r.state.inputs ∧ (placeAnswer p tag k r).freeDraws = r.state.freeDraws ∧
    (placeAnswer p tag k r).pending = r.state.pending := by
  simp [placeAnswer]

/-- The buffer of a port after an answer has been placed (R201). -/
theorem placeAnswer_buffer (p : Port) (tag : Tag) (k : Byte) (r : Reply) :
    ((placeAnswer p tag k r).portOf p).buffer =
      some { tag := tag, kind := k, outcome := r.outcome, overwritten := (r.state.portOf p).buffer.isSome,
             payload := r.payload } := by
  simp [placeAnswer]

/-- A request always answers: its next state (R200, R201). -/
theorem request_next (k : RequestKind) (r : Req) (s : State) (body : State → Reply) :
    request k r s body = .next (placeAnswer r.port r.tag (kindCode k) (checkedReply k r s body)) := rfl

/-- A request that passes the port interface's checks is its block's reply (R202). -/
theorem checkedReply_whole (k : RequestKind) (r : Req) (s : State) (body : State → Reply)
    (hp : permitted k r.port = true) (hf : r.form = .whole) : checkedReply k r s body = body s := by
  simp [checkedReply, hp, hf, layoutRefused]

/-- A request from a port its kind is not permitted on (R202). -/
theorem checkedReply_forbidden (k : RequestKind) (r : Req) (s : State) (body : State → Reply)
    (hp : permitted k r.port = false) : checkedReply k r s body = .plain s .notPermitted := by
  simp [checkedReply, hp]

/-- A permitted request whose length is wrong (R202). -/
theorem checkedReply_badLength (k : RequestKind) (r : Req) (s : State) (body : State → Reply)
    (hp : permitted k r.port = true) (hf : r.form = .badLength) : checkedReply k r s body = .plain s .badParameter := by
  simp [checkedReply, hp, hf]

/-- What a request's checks can answer: a refusal that leaves the state, or the body on a permitted port. -/
theorem checkedReply_cases (k : RequestKind) (r : Req) (s : State) (body : State → Reply) :
    (checkedReply k r s body).state = s ∨ (permitted k r.port = true ∧ checkedReply k r s body = body s) := by
  unfold checkedReply
  cases h : permitted k r.port
  · simp
  · (repeat' split) <;> simp_all

/-- A property that answering cannot touch is kept by a request whose body keeps it. -/
theorem request_keeps {P : State → Prop} {k : RequestKind} {r : Req} {s t : State} {body : State → Reply}
    (answering : ∀ p b u, P u → P (u.setPort p { u.portOf p with buffer := b, dataOut := .zeros }))
    (hbody : permitted k r.port = true → P (body s).state) (hs : P s) (h : request k r s body = .next t) : P t := by
  rw [request_next] at h
  cases h
  refine answering _ _ _ ?_
  rcases checkedReply_cases k r s body with h | ⟨hp, h⟩
  · rw [h]; exact hs
  · rw [h]; exact hbody hp

end Sys2Proof.Machine
end

