-- ==== Sys2Proof/Laws/Arrivals.lean ====
section
/-! SUPPORT. The works of a sample arrival one by one: what each leaves as it is, in the state and in the arrival's own record, and
what the later ones do to the arrival of a test. -/

namespace Sys2Proof.Machine

@[simp] theorem mapState_fields (f : State → State) (a : Arrival) :
    (a.mapState f).s = f a.s ∧ (a.mapState f).latch = a.latch ∧ (a.mapState f).set = a.set ∧
    (a.mapState f).settled = a.settled ∧ (a.mapState f).overloaded = a.overloaded ∧ (a.mapState f).fracture = a.fracture ∧
    (a.mapState f).slip = a.slip ∧ (a.mapState f).handover = a.handover ∧ (a.mapState f).peakRaised = a.peakRaised ∧
    (a.mapState f).entered = a.entered ∧ (a.mapState f).timedOut = a.timedOut ∧ (a.mapState f).tailEnded = a.tailEnded ∧
    (a.mapState f).closing = a.closing := by
  simp [Arrival.mapState]

@[simp] theorem addSampleEvents_frame (es : List SampleEvent) (s : State) :
    (addSampleEvents es s).spt = s.spt ∧ (addSampleEvents es s).ldc = s.ldc ∧ (addSampleEvents es s).exc = s.exc ∧
    (addSampleEvents es s).xhc = s.xhc ∧ (addSampleEvents es s).mar = s.mar ∧ (addSampleEvents es s).rlp = s.rlp ∧
    (addSampleEvents es s).rsl = s.rsl ∧ (addSampleEvents es s).pif = s.pif ∧ (addSampleEvents es s).cal = s.cal ∧
    (addSampleEvents es s).inputs = s.inputs ∧ (addSampleEvents es s).freeDraws = s.freeDraws ∧
    (addSampleEvents es s).pending = s.pending := by
  induction es generalizing s with
  | nil => simp [addSampleEvents]
  | cons e es ih =>
    have := ih (addEvent e.1 e.2 s)
    simp only [addSampleEvents, List.foldl_cons] at this ⊢
    simp [this]

/-- The overload check sets the overload state and, at the onset, the fault entry (R36, R37). -/
@[simp] theorem overloadCheck_frame (a : Arrival) :
    (overloadCheck a).s.spt = a.s.spt ∧ (overloadCheck a).s.exc = a.s.exc ∧ (overloadCheck a).s.xhc = a.s.xhc ∧
    (overloadCheck a).s.mar = a.s.mar ∧ (overloadCheck a).s.tex = a.s.tex ∧ (overloadCheck a).s.rlp = a.s.rlp ∧
    (overloadCheck a).s.cps = a.s.cps ∧ (overloadCheck a).s.rsl = a.s.rsl ∧ (overloadCheck a).s.cal = a.s.cal ∧
    (overloadCheck a).s.inputs = a.s.inputs ∧ (overloadCheck a).s.freeDraws = a.s.freeDraws ∧
    (overloadCheck a).s.pending = a.s.pending ∧ (overloadCheck a).latch = a.latch ∧ (overloadCheck a).set = a.set ∧
    (overloadCheck a).settled = a.settled ∧ (overloadCheck a).fracture = a.fracture ∧ (overloadCheck a).slip = a.slip ∧
    (overloadCheck a).handover = a.handover ∧ (overloadCheck a).peakRaised = a.peakRaised ∧
    (overloadCheck a).entered = a.entered ∧ (overloadCheck a).timedOut = a.timedOut ∧
    (overloadCheck a).tailEnded = a.tailEnded ∧ (overloadCheck a).closing = a.closing := by
  simp only [overloadCheck]; split <;> simp

/-- Auto step-up writes the range with its settle count, and the test context (R35). -/
@[simp] theorem stepUp_frame (a : Arrival) :
    (stepUp a).s.spt = a.s.spt ∧ (stepUp a).s.exc = a.s.exc ∧ (stepUp a).s.xhc = a.s.xhc ∧ (stepUp a).s.mar = a.s.mar ∧
    (stepUp a).s.rlp = a.s.rlp ∧ (stepUp a).s.rsl = a.s.rsl ∧ (stepUp a).s.pif = a.s.pif ∧ (stepUp a).s.cal = a.s.cal ∧
    (stepUp a).s.inputs = a.s.inputs ∧ (stepUp a).s.freeDraws = a.s.freeDraws ∧ (stepUp a).s.pending = a.s.pending ∧
    (stepUp a).latch = a.latch ∧ (stepUp a).set = a.set ∧ (stepUp a).settled = a.settled ∧
    (stepUp a).overloaded = a.overloaded ∧ (stepUp a).fracture = a.fracture ∧ (stepUp a).slip = a.slip ∧
    (stepUp a).handover = a.handover ∧ (stepUp a).peakRaised = a.peakRaised ∧ (stepUp a).entered = a.entered ∧
    (stepUp a).timedOut = a.timedOut ∧ (stepUp a).tailEnded = a.tailEnded ∧ (stepUp a).closing = a.closing := by
  simp only [stepUp]; (repeat' split) <;> simp

/-- The forming of the strain writes the set's strain and the channel's memory of ACTIVE (R45, R46, R59). -/
@[simp] theorem formStrain_frame (a : Arrival) :
    (formStrain a).s.spt = a.s.spt ∧ (formStrain a).s.ldc = a.s.ldc ∧ (formStrain a).s.xhc = a.s.xhc ∧
    (formStrain a).s.mar = a.s.mar ∧ (formStrain a).s.tex = a.s.tex ∧ (formStrain a).s.rlp = a.s.rlp ∧
    (formStrain a).s.cps = a.s.cps ∧ (formStrain a).s.rsl = a.s.rsl ∧ (formStrain a).s.pif = a.s.pif ∧
    (formStrain a).s.cal = a.s.cal ∧ (formStrain a).s.inputs = a.s.inputs ∧ (formStrain a).s.freeDraws = a.s.freeDraws ∧
    (formStrain a).s.pending = a.s.pending ∧ (formStrain a).latch = a.latch ∧ (formStrain a).settled = a.settled ∧
    (formStrain a).overloaded = a.overloaded ∧ (formStrain a).handover = a.handover ∧ (formStrain a).peakRaised = a.peakRaised ∧
    (formStrain a).entered = a.entered ∧ (formStrain a).timedOut = a.timedOut ∧ (formStrain a).tailEnded = a.tailEnded ∧
    (formStrain a).closing = a.closing := by
  unfold formStrain; simp only []; (repeat' split) <;> simp [rememberActive]

/-- The peak's update writes the test peak (R38). -/
@[simp] theorem updatePeak_frame (a : Arrival) :
    (updatePeak a).s.spt = a.s.spt ∧ (updatePeak a).s.exc = a.s.exc ∧ (updatePeak a).s.xhc = a.s.xhc ∧
    (updatePeak a).s.mar = a.s.mar ∧ (updatePeak a).s.tex = a.s.tex ∧ (updatePeak a).s.rlp = a.s.rlp ∧
    (updatePeak a).s.cps = a.s.cps ∧ (updatePeak a).s.rsl = a.s.rsl ∧ (updatePeak a).s.pif = a.s.pif ∧
    (updatePeak a).s.cal = a.s.cal ∧ (updatePeak a).s.inputs = a.s.inputs ∧ (updatePeak a).s.freeDraws = a.s.freeDraws ∧
    (updatePeak a).s.pending = a.s.pending ∧ (updatePeak a).latch = a.latch ∧ (updatePeak a).set = a.set ∧
    (updatePeak a).settled = a.settled ∧ (updatePeak a).overloaded = a.overloaded ∧ (updatePeak a).fracture = a.fracture ∧
    (updatePeak a).slip = a.slip ∧ (updatePeak a).handover = a.handover ∧ (updatePeak a).entered = a.entered ∧
    (updatePeak a).timedOut = a.timedOut ∧ (updatePeak a).tailEnded = a.tailEnded ∧ (updatePeak a).closing = a.closing := by
  unfold updatePeak; split <;> simp

/-- A handover writes the extensometer channel, its events and its notices (R52, R60). -/
@[simp] theorem formHandover_frame (a : Arrival) :
    (formHandover a).s.spt = a.s.spt ∧ (formHandover a).s.ldc = a.s.ldc ∧ (formHandover a).s.xhc = a.s.xhc ∧
    (formHandover a).s.mar = a.s.mar ∧ (formHandover a).s.rlp = a.s.rlp ∧ (formHandover a).s.rsl = a.s.rsl ∧
    (formHandover a).s.cal = a.s.cal ∧ (formHandover a).s.inputs = a.s.inputs ∧ (formHandover a).s.freeDraws = a.s.freeDraws ∧
    (formHandover a).s.pending = a.s.pending ∧ (formHandover a).latch = a.latch ∧ (formHandover a).set = a.set ∧
    (formHandover a).settled = a.settled ∧ (formHandover a).overloaded = a.overloaded ∧ (formHandover a).fracture = a.fracture ∧
    (formHandover a).slip = a.slip ∧ (formHandover a).peakRaised = a.peakRaised ∧ (formHandover a).entered = a.entered ∧
    (formHandover a).timedOut = a.timedOut ∧ (formHandover a).tailEnded = a.tailEnded ∧
    (formHandover a).closing = a.closing := by
  unfold formHandover; (repeat' split) <;> simp

/-- The evaluator writes the results in progress and their events (R147 to R163). -/
@[simp] theorem evaluateArrival_frame (a : Arrival) :
    (evaluateArrival a).s.spt = a.s.spt ∧ (evaluateArrival a).s.ldc = a.s.ldc ∧ (evaluateArrival a).s.exc = a.s.exc ∧
    (evaluateArrival a).s.xhc = a.s.xhc ∧ (evaluateArrival a).s.mar = a.s.mar ∧ (evaluateArrival a).s.rlp = a.s.rlp ∧
    (evaluateArrival a).s.rsl = a.s.rsl ∧ (evaluateArrival a).s.pif = a.s.pif ∧ (evaluateArrival a).s.cal = a.s.cal ∧
    (evaluateArrival a).s.inputs = a.s.inputs ∧ (evaluateArrival a).s.freeDraws = a.s.freeDraws ∧
    (evaluateArrival a).s.pending = a.s.pending ∧ (evaluateArrival a).latch = a.latch ∧ (evaluateArrival a).set = a.set ∧
    (evaluateArrival a).settled = a.settled ∧ (evaluateArrival a).overloaded = a.overloaded ∧
    (evaluateArrival a).fracture = a.fracture ∧ (evaluateArrival a).slip = a.slip ∧ (evaluateArrival a).handover = a.handover ∧
    (evaluateArrival a).peakRaised = a.peakRaised ∧ (evaluateArrival a).entered = a.entered ∧
    (evaluateArrival a).timedOut = a.timedOut ∧ (evaluateArrival a).tailEnded = a.tailEnded ∧
    (evaluateArrival a).closing = a.closing := by
  unfold evaluateArrival; split <;> simp

/-- A detected fracture writes the test's phase, the extensometer's timers and the loop (R124). -/
@[simp] theorem detectFracture_frame (a : Arrival) :
    (detectFracture a).s.spt = a.s.spt ∧ (detectFracture a).s.ldc = a.s.ldc ∧ (detectFracture a).s.xhc = a.s.xhc ∧
    (detectFracture a).s.mar = a.s.mar ∧ (detectFracture a).s.rsl = a.s.rsl ∧ (detectFracture a).s.pif = a.s.pif ∧
    (detectFracture a).s.cal = a.s.cal ∧ (detectFracture a).s.inputs = a.s.inputs ∧
    (detectFracture a).s.freeDraws = a.s.freeDraws ∧ (detectFracture a).s.pending = a.s.pending ∧
    (detectFracture a).latch = a.latch ∧ (detectFracture a).set = a.set ∧ (detectFracture a).settled = a.settled ∧
    (detectFracture a).overloaded = a.overloaded ∧ (detectFracture a).fracture = a.fracture ∧ (detectFracture a).slip = a.slip ∧
    (detectFracture a).handover = a.handover ∧ (detectFracture a).peakRaised = a.peakRaised ∧
    (detectFracture a).entered = a.entered ∧ (detectFracture a).timedOut = a.timedOut ∧
    (detectFracture a).tailEnded = a.tailEnded ∧ (detectFracture a).closing = a.closing := by
  unfold detectFracture; (repeat' split) <;> simp

/-- A stage's entry writes the test context and the loop (R115). -/
@[simp] theorem enterStage_frame (i : Nat) (d : StageDef) (a : Arrival) :
    (enterStage i d a).s.spt = a.s.spt ∧ (enterStage i d a).s.ldc = a.s.ldc ∧ (enterStage i d a).s.exc = a.s.exc ∧
    (enterStage i d a).s.xhc = a.s.xhc ∧ (enterStage i d a).s.mar = a.s.mar ∧ (enterStage i d a).s.rsl = a.s.rsl ∧
    (enterStage i d a).s.pif = a.s.pif ∧ (enterStage i d a).s.cal = a.s.cal ∧ (enterStage i d a).s.inputs = a.s.inputs ∧
    (enterStage i d a).s.freeDraws = a.s.freeDraws ∧ (enterStage i d a).s.pending = a.s.pending ∧
    (enterStage i d a).latch = a.latch ∧ (enterStage i d a).set = a.set ∧ (enterStage i d a).settled = a.settled ∧
    (enterStage i d a).overloaded = a.overloaded ∧ (enterStage i d a).fracture = a.fracture ∧ (enterStage i d a).slip = a.slip ∧
    (enterStage i d a).handover = a.handover ∧ (enterStage i d a).peakRaised = a.peakRaised ∧
    (enterStage i d a).timedOut = a.timedOut ∧ (enterStage i d a).tailEnded = a.tailEnded ∧
    (enterStage i d a).closing = a.closing := by
  simp [enterStage]

/-- The end of preload writes test, extensometer channel and loop (R113, R47). -/
@[simp] theorem endPreload_frame (p : Plan) (a : Arrival) :
    (endPreload p a).s.spt = a.s.spt ∧ (endPreload p a).s.ldc = a.s.ldc ∧ (endPreload p a).s.xhc = a.s.xhc ∧
    (endPreload p a).s.mar = a.s.mar ∧ (endPreload p a).s.rsl = a.s.rsl ∧ (endPreload p a).s.cal = a.s.cal ∧
    (endPreload p a).s.inputs = a.s.inputs ∧ (endPreload p a).s.freeDraws = a.s.freeDraws ∧
    (endPreload p a).s.pending = a.s.pending ∧ (endPreload p a).latch = a.latch ∧ (endPreload p a).set = a.set ∧
    (endPreload p a).settled = a.settled ∧ (endPreload p a).overloaded = a.overloaded ∧ (endPreload p a).fracture = a.fracture ∧
    (endPreload p a).slip = a.slip ∧ (endPreload p a).handover = a.handover ∧ (endPreload p a).peakRaised = a.peakRaised ∧
    (endPreload p a).timedOut = a.timedOut ∧ (endPreload p a).tailEnded = a.tailEnded ∧
    (endPreload p a).closing = a.closing := by
  simp only [endPreload]; (repeat' split) <;> simp

/-- A met end condition writes the test context and the loop (R117). -/
@[simp] theorem takeEnd_frame (p : Plan) (r : StageRun) (d : StageDef) (a : Arrival) :
    (takeEnd p r d a).s.spt = a.s.spt ∧ (takeEnd p r d a).s.ldc = a.s.ldc ∧ (takeEnd p r d a).s.exc = a.s.exc ∧
    (takeEnd p r d a).s.xhc = a.s.xhc ∧ (takeEnd p r d a).s.mar = a.s.mar ∧ (takeEnd p r d a).s.rsl = a.s.rsl ∧
    (takeEnd p r d a).s.pif = a.s.pif ∧ (takeEnd p r d a).s.cal = a.s.cal ∧ (takeEnd p r d a).s.inputs = a.s.inputs ∧
    (takeEnd p r d a).s.freeDraws = a.s.freeDraws ∧ (takeEnd p r d a).s.pending = a.s.pending ∧
    (takeEnd p r d a).latch = a.latch ∧ (takeEnd p r d a).set = a.set ∧ (takeEnd p r d a).settled = a.settled ∧
    (takeEnd p r d a).overloaded = a.overloaded ∧ (takeEnd p r d a).fracture = a.fracture ∧ (takeEnd p r d a).slip = a.slip ∧
    (takeEnd p r d a).handover = a.handover ∧ (takeEnd p r d a).peakRaised = a.peakRaised ∧
    (takeEnd p r d a).timedOut = a.timedOut ∧ (takeEnd p r d a).tailEnded = a.tailEnded ∧
    (takeEnd p r d a).closing = a.closing := by
  unfold takeEnd; split <;> simp

/-- A stage timeout writes the test context and the loop, or closes the test (R118). -/
@[simp] theorem takeTimeout_frame (p : Plan) (r : StageRun) (d : StageDef) (a : Arrival) :
    (takeTimeout p r d a).s.spt = a.s.spt ∧ (takeTimeout p r d a).s.ldc = a.s.ldc ∧ (takeTimeout p r d a).s.exc = a.s.exc ∧
    (takeTimeout p r d a).s.xhc = a.s.xhc ∧ (takeTimeout p r d a).s.mar = a.s.mar ∧ (takeTimeout p r d a).s.rsl = a.s.rsl ∧
    (takeTimeout p r d a).s.pif = a.s.pif ∧ (takeTimeout p r d a).s.cal = a.s.cal ∧
    (takeTimeout p r d a).s.inputs = a.s.inputs ∧ (takeTimeout p r d a).s.freeDraws = a.s.freeDraws ∧
    (takeTimeout p r d a).s.pending = a.s.pending ∧ (takeTimeout p r d a).latch = a.latch ∧ (takeTimeout p r d a).set = a.set ∧
    (takeTimeout p r d a).settled = a.settled ∧ (takeTimeout p r d a).overloaded = a.overloaded ∧
    (takeTimeout p r d a).fracture = a.fracture ∧ (takeTimeout p r d a).slip = a.slip ∧
    (takeTimeout p r d a).handover = a.handover ∧ (takeTimeout p r d a).peakRaised = a.peakRaised ∧
    (takeTimeout p r d a).tailEnded = a.tailEnded := by
  simp only [takeTimeout]; (repeat' split) <;> simp

/-- The judgement of a stage writes the test context and the loop, or closes the test (R116 to R118). -/
@[simp] theorem judgeStage_frame (t : TestContext) (a : Arrival) :
    (judgeStage t a).s.spt = a.s.spt ∧ (judgeStage t a).s.ldc = a.s.ldc ∧ (judgeStage t a).s.exc = a.s.exc ∧
    (judgeStage t a).s.xhc = a.s.xhc ∧ (judgeStage t a).s.mar = a.s.mar ∧ (judgeStage t a).s.rsl = a.s.rsl ∧
    (judgeStage t a).s.pif = a.s.pif ∧ (judgeStage t a).s.cal = a.s.cal ∧ (judgeStage t a).s.inputs = a.s.inputs ∧
    (judgeStage t a).s.freeDraws = a.s.freeDraws ∧ (judgeStage t a).s.pending = a.s.pending ∧ (judgeStage t a).latch = a.latch ∧
    (judgeStage t a).set = a.set ∧ (judgeStage t a).settled = a.settled ∧ (judgeStage t a).overloaded = a.overloaded ∧
    (judgeStage t a).fracture = a.fracture ∧ (judgeStage t a).slip = a.slip ∧ (judgeStage t a).handover = a.handover ∧
    (judgeStage t a).peakRaised = a.peakRaised ∧ (judgeStage t a).tailEnded = a.tailEnded := by
  unfold judgeStage; (repeat' split) <;> simp

/-- The tail count writes the test's phase, or closes the test (R125). -/
@[simp] theorem countTail_frame (p : Plan) (n : Int) (a : Arrival) :
    (countTail p n a).s.spt = a.s.spt ∧ (countTail p n a).s.ldc = a.s.ldc ∧ (countTail p n a).s.exc = a.s.exc ∧
    (countTail p n a).s.xhc = a.s.xhc ∧ (countTail p n a).s.mar = a.s.mar ∧ (countTail p n a).s.rlp = a.s.rlp ∧
    (countTail p n a).s.cps = a.s.cps ∧ (countTail p n a).s.rsl = a.s.rsl ∧ (countTail p n a).s.pif = a.s.pif ∧
    (countTail p n a).s.cal = a.s.cal ∧ (countTail p n a).s.inputs = a.s.inputs ∧
    (countTail p n a).s.freeDraws = a.s.freeDraws ∧ (countTail p n a).s.pending = a.s.pending ∧
    (countTail p n a).latch = a.latch ∧ (countTail p n a).set = a.set ∧ (countTail p n a).settled = a.settled ∧
    (countTail p n a).overloaded = a.overloaded ∧ (countTail p n a).fracture = a.fracture ∧ (countTail p n a).slip = a.slip ∧
    (countTail p n a).handover = a.handover ∧ (countTail p n a).peakRaised = a.peakRaised ∧
    (countTail p n a).entered = a.entered ∧ (countTail p n a).timedOut = a.timedOut := by
  simp only [countTail]; split <;> simp

/-- The judgement of a phase writes test, extensometer channel and loop, or closes the test (R113, R116, R125). -/
@[simp] theorem judgePhase_frame (t : TestContext) (a : Arrival) :
    (judgePhase t a).s.spt = a.s.spt ∧ (judgePhase t a).s.ldc = a.s.ldc ∧ (judgePhase t a).s.xhc = a.s.xhc ∧
    (judgePhase t a).s.mar = a.s.mar ∧ (judgePhase t a).s.rsl = a.s.rsl ∧ (judgePhase t a).s.cal = a.s.cal ∧
    (judgePhase t a).s.inputs = a.s.inputs ∧ (judgePhase t a).s.freeDraws = a.s.freeDraws ∧
    (judgePhase t a).s.pending = a.s.pending ∧ (judgePhase t a).latch = a.latch ∧ (judgePhase t a).set = a.set ∧
    (judgePhase t a).settled = a.settled ∧ (judgePhase t a).overloaded = a.overloaded ∧ (judgePhase t a).fracture = a.fracture ∧
    (judgePhase t a).slip = a.slip ∧ (judgePhase t a).handover = a.handover ∧ (judgePhase t a).peakRaised = a.peakRaised := by
  unfold judgePhase; (repeat' split) <;> simp

/-- The hold of a handover writes the test's phase and the loop (R54). -/
@[simp] theorem handoverHold_frame (p : Plan) (a : Arrival) :
    (handoverHold p a).s.spt = a.s.spt ∧ (handoverHold p a).s.ldc = a.s.ldc ∧ (handoverHold p a).s.exc = a.s.exc ∧
    (handoverHold p a).s.xhc = a.s.xhc ∧ (handoverHold p a).s.mar = a.s.mar ∧ (handoverHold p a).s.rsl = a.s.rsl ∧
    (handoverHold p a).s.pif = a.s.pif ∧ (handoverHold p a).s.cal = a.s.cal ∧ (handoverHold p a).s.inputs = a.s.inputs ∧
    (handoverHold p a).s.freeDraws = a.s.freeDraws ∧ (handoverHold p a).s.pending = a.s.pending ∧
    (handoverHold p a).latch = a.latch ∧ (handoverHold p a).set = a.set ∧ (handoverHold p a).settled = a.settled ∧
    (handoverHold p a).overloaded = a.overloaded ∧ (handoverHold p a).fracture = a.fracture ∧ (handoverHold p a).slip = a.slip ∧
    (handoverHold p a).handover = a.handover ∧ (handoverHold p a).peakRaised = a.peakRaised ∧
    (handoverHold p a).entered = a.entered ∧ (handoverHold p a).timedOut = a.timedOut ∧
    (handoverHold p a).tailEnded = a.tailEnded ∧ (handoverHold p a).closing = a.closing := by
  unfold handoverHold; split <;> simp

/-- The test executive writes test, extensometer channel, loop and notices, or closes the test. -/
@[simp] theorem executiveTakes_frame (a : Arrival) :
    (executiveTakes a).s.spt = a.s.spt ∧ (executiveTakes a).s.ldc = a.s.ldc ∧ (executiveTakes a).s.xhc = a.s.xhc ∧
    (executiveTakes a).s.mar = a.s.mar ∧ (executiveTakes a).s.rsl = a.s.rsl ∧ (executiveTakes a).s.cal = a.s.cal ∧
    (executiveTakes a).s.inputs = a.s.inputs ∧ (executiveTakes a).s.freeDraws = a.s.freeDraws ∧
    (executiveTakes a).s.pending = a.s.pending ∧ (executiveTakes a).latch = a.latch ∧ (executiveTakes a).set = a.set ∧
    (executiveTakes a).settled = a.settled ∧ (executiveTakes a).overloaded = a.overloaded ∧
    (executiveTakes a).fracture = a.fracture ∧ (executiveTakes a).slip = a.slip ∧ (executiveTakes a).handover = a.handover ∧
    (executiveTakes a).peakRaised = a.peakRaised := by
  unfold executiveTakes; simp only []; (repeat' split) <;> simp

/-- The rate loop writes itself (R134). -/
@[simp] theorem loopTakes_frame (a : Arrival) :
    (loopTakes a).s.spt = a.s.spt ∧ (loopTakes a).s.ldc = a.s.ldc ∧ (loopTakes a).s.exc = a.s.exc ∧
    (loopTakes a).s.xhc = a.s.xhc ∧ (loopTakes a).s.mar = a.s.mar ∧ (loopTakes a).s.tex = a.s.tex ∧
    (loopTakes a).s.cps = a.s.cps ∧ (loopTakes a).s.rsl = a.s.rsl ∧ (loopTakes a).s.pif = a.s.pif ∧
    (loopTakes a).s.cal = a.s.cal ∧ (loopTakes a).s.inputs = a.s.inputs ∧ (loopTakes a).s.freeDraws = a.s.freeDraws ∧
    (loopTakes a).s.pending = a.s.pending ∧ (loopTakes a).latch = a.latch ∧ (loopTakes a).set = a.set ∧
    (loopTakes a).settled = a.settled ∧ (loopTakes a).overloaded = a.overloaded ∧ (loopTakes a).fracture = a.fracture ∧
    (loopTakes a).slip = a.slip ∧ (loopTakes a).handover = a.handover ∧ (loopTakes a).peakRaised = a.peakRaised ∧
    (loopTakes a).entered = a.entered ∧ (loopTakes a).timedOut = a.timedOut ∧ (loopTakes a).tailEnded = a.tailEnded ∧
    (loopTakes a).closing = a.closing := by
  unfold loopTakes; (repeat' split) <;> simp

/-- Publication writes the latest set and the last valid gross force (R24, R29). -/
@[simp] theorem publish_frame (a : Arrival) :
    (publish a).s.spt = a.s.spt ∧ (publish a).s.exc = a.s.exc ∧ (publish a).s.xhc = a.s.xhc ∧ (publish a).s.mar = a.s.mar ∧
    (publish a).s.tex = a.s.tex ∧ (publish a).s.rlp = a.s.rlp ∧ (publish a).s.cps = a.s.cps ∧ (publish a).s.rsl = a.s.rsl ∧
    (publish a).s.pif = a.s.pif ∧ (publish a).s.cal = a.s.cal ∧ (publish a).s.inputs = a.s.inputs ∧
    (publish a).s.freeDraws = a.s.freeDraws ∧ (publish a).s.pending = a.s.pending ∧ (publish a).latch = a.latch ∧
    (publish a).set = a.set ∧ (publish a).settled = a.settled ∧ (publish a).overloaded = a.overloaded ∧
    (publish a).fracture = a.fracture ∧ (publish a).slip = a.slip ∧ (publish a).handover = a.handover ∧
    (publish a).peakRaised = a.peakRaised ∧ (publish a).entered = a.entered ∧ (publish a).timedOut = a.timedOut ∧
    (publish a).tailEnded = a.tailEnded ∧ (publish a).closing = a.closing := by
  simp [publish]

/-- The capture store writes itself, the event list and its notices (R176 to R182). -/
@[simp] theorem captureTakes_frame (a : Arrival) :
    (captureTakes a).s.spt = a.s.spt ∧ (captureTakes a).s.ldc = a.s.ldc ∧ (captureTakes a).s.exc = a.s.exc ∧
    (captureTakes a).s.xhc = a.s.xhc ∧ (captureTakes a).s.mar = a.s.mar ∧ (captureTakes a).s.rlp = a.s.rlp ∧
    (captureTakes a).s.rsl = a.s.rsl ∧ (captureTakes a).s.cal = a.s.cal ∧ (captureTakes a).s.inputs = a.s.inputs ∧
    (captureTakes a).s.freeDraws = a.s.freeDraws ∧ (captureTakes a).s.pending = a.s.pending ∧ (captureTakes a).latch = a.latch ∧
    (captureTakes a).set = a.set ∧ (captureTakes a).settled = a.settled ∧ (captureTakes a).overloaded = a.overloaded ∧
    (captureTakes a).fracture = a.fracture ∧ (captureTakes a).slip = a.slip ∧ (captureTakes a).handover = a.handover ∧
    (captureTakes a).peakRaised = a.peakRaised ∧ (captureTakes a).entered = a.entered ∧ (captureTakes a).timedOut = a.timedOut ∧
    (captureTakes a).tailEnded = a.tailEnded ∧ (captureTakes a).closing = a.closing := by
  unfold captureTakes; split <;> simp

/-- An arrival in a test ends no motion and gives none a profile (R36, R75). -/
theorem motionTakes_test (a : Arrival) (h : testIsActive a.s = true) : motionTakes a = a := by
  obtain ⟨p, g, hm⟩ : ∃ p g, a.s.mar.active = some ⟨p, g, .test⟩ := by
    unfold testIsActive at h
    cases hm : a.s.mar.active with
    | none => simp [hm] at h
    | some x =>
      obtain ⟨p, g, j⟩ := x
      simp only [hm, beq_iff_eq] at h
      exact ⟨p, g, by rw [h]⟩
  obtain ⟨s, _, _, _, _, _, _, _, _, _, _, _, _⟩ := a
  simp only at hm
  unfold motionTakes
  split
  · have : activeMotion s = none := by simp only [activeMotion, hm]; rfl
    simp [Arrival.mapState, overloadEnds, endMotion, hm, this]
  · simp only [Arrival.mapState, evaluateMove, hm]
    split <;> rfl

/-- The word of an arrival in a test: only the word changes, and at the upper soft limit the test is to be closed (R70, R79). -/
theorem wordTakes_test (a : Arrival) (h : testIsActive a.s = true) :
    ∃ w, (wordTakes a).s = sendWordValue w a.s ∧ (wordTakes a).set = a.set ∧ (wordTakes a).peakRaised = a.peakRaised ∧
      (wordTakes a).closing =
        (if a.closing = none ∧ towardSoftLimit a.s.xhc (baseValue a.s) = true ∧ 0 < baseValue a.s then some (.aborted .softLimit)
         else a.closing) ∧
      w = (if a.closing ≠ none ∨ towardSoftLimit a.s.xhc (baseValue a.s) = true then 0 else formWord a.s (baseValue a.s)) := by
  unfold wordTakes
  cases hc : a.closing <;> by_cases ht : towardSoftLimit a.s.xhc (baseValue a.s) = true <;> by_cases hb : 0 < baseValue a.s <;>
    simp [ht, hb, h, hc]

/-- The arrival of a test's sample that closes nothing is counted, and nothing else follows it (R24, R94). -/
theorem closeOrCount_counts (a : Arrival) (h : a.closing = none) :
    (closeOrCount a).s = updateTest (fun t => { t with arrivals := t.arrivals + 1 }) a.s := by
  simp [closeOrCount, h]

/-- An arrival in a test, its active motion being the test: no motion is evaluated. -/
theorem workArrival_test (code : Int) (range : LoadRange) (l : Latch) (s : State) (h : testIsActive s = true) :
    workArrival code range l s = closeOrCount (captureTakes (publish (wordTakes (loopTakes (executiveTakes (evaluateArrival
      (formHandover (updatePeak (formStrain (stepUp (overloadCheck (beginArrival code range l s)))))))))))) := by
  unfold workArrival
  rw [motionTakes_test]
  simpa [testIsActive, beginArrival, loadTaken] using h

/-- The arrival of a code whose conversion has had its strobe (R20): its work, and the activation that may follow it (R94). -/
theorem sampleArrival_next (code : Int) (range : LoadRange) (l : Latch) (s : State)
    (h : s.ldc.conversion = some { range := range, latch := some l }) :
    exec (.sampleArrival code) s = .next (activateAfterArrival s (workArrival code range l s).s) := by
  simp [exec, execSampleArrival, arrived, arrive, arriving, h]

/-- No activation follows an arrival that leaves a motion active, or nothing queued (R94). -/
theorem activateAfterArrival_idle (s t : State) (h : t.mar.active.isSome = true ∨ t.mar.queue = []) :
    activateAfterArrival s t = t := by
  have key : tryActivate t = t := by
    unfold tryActivate
    rcases h with h | h
    · cases t.mar.queue.length <;> simp [activationLoop, h]
    · simp [h, activationLoop]
  unfold activateAfterArrival activateAfterEnd
  split
  · exact key
  · split <;> first | exact key | rfl

end Sys2Proof.Machine
end

