-- ==== Sys2Proof/Laws/TestIdentity.lean ====
section
/-! SUPPORT. The operations that leave the test in progress the same test, and the capture the same capture. -/

namespace Sys2Proof.Machine

/-- What stays the same through a test: serial, specimen identifier, plan id and plan (R108). -/
def TestContext.identity (t : TestContext) : BitVec 16 × Text × Fin 8 × Plan :=
  (t.serial, t.specimenId, t.planId, t.plan)

/-! ### The test's identity, the serial counter and the plans -/

theorem updateTest_identity (f : TestContext → TestContext) (hf : ∀ t, (f t).identity = t.identity) (s : State) :
    (updateTest f s).tex.test.map TestContext.identity = s.tex.test.map TestContext.identity ∧
      (updateTest f s).tex.serial = s.tex.serial ∧ (updateTest f s).tex.plans = s.tex.plans := by
  cases h : s.tex.test <;> simp [updateTest, h, hf]

@[simp] theorem logEvent_identity (t : TestContext) (e : Event) : (t.logEvent e).identity = t.identity := by
  unfold TestContext.logEvent; split <;> rfl

@[simp] theorem setTestFlags_identity (f : TestFlags → TestFlags) (s : State) :
    (setTestFlags f s).tex.test.map TestContext.identity = s.tex.test.map TestContext.identity ∧ (setTestFlags f s).tex.serial = s.tex.serial ∧ (setTestFlags f s).tex.plans = s.tex.plans := by
  cases h : s.tex.test <;> simp [setTestFlags, updateTest, h, TestContext.identity]

@[simp] theorem updateEvaluation_identity (f : Evaluation → Evaluation) (s : State) :
    (updateEvaluation f s).tex.test.map TestContext.identity = s.tex.test.map TestContext.identity ∧ (updateEvaluation f s).tex.serial = s.tex.serial ∧ (updateEvaluation f s).tex.plans = s.tex.plans := by
  cases h : s.tex.test <;> simp [updateEvaluation, updateTest, h, TestContext.identity]

@[simp] theorem setPhase_identity (p : TestPhase) (s : State) :
    (setPhase p s).tex.test.map TestContext.identity = s.tex.test.map TestContext.identity ∧ (setPhase p s).tex.serial = s.tex.serial ∧ (setPhase p s).tex.plans = s.tex.plans := by
  cases h : s.tex.test <;> simp [setPhase, updateTest, h, TestContext.identity]

@[simp] theorem markHandover_identity  (s : State) :
    (markHandover s).tex.test.map TestContext.identity = s.tex.test.map TestContext.identity ∧ (markHandover s).tex.serial = s.tex.serial ∧ (markHandover s).tex.plans = s.tex.plans := by
  cases h : s.tex.test <;> simp [markHandover, updateTest, h, TestContext.identity]

@[simp] theorem markStage_identity (f : StageRun → StageRun) (s : State) :
    (markStage f s).tex.test.map TestContext.identity = s.tex.test.map TestContext.identity ∧ (markStage f s).tex.serial = s.tex.serial ∧ (markStage f s).tex.plans = s.tex.plans := by
  cases h : s.tex.test <;> simp [markStage, updateTest, h, TestContext.identity]

@[simp] theorem addEventAt_identity (k : EventKind) (n : Nat) (v : Int) (s : State) :
    (addEventAt k n v s).tex.test.map TestContext.identity = s.tex.test.map TestContext.identity ∧ (addEventAt k n v s).tex.serial = s.tex.serial ∧ (addEventAt k n v s).tex.plans = s.tex.plans := by
  unfold addEventAt; split
  · simp
  · simp only [markEvent_frame]; exact updateTest_identity _ (fun t => logEvent_identity t _) s

@[simp] theorem addEvent_identity (k : EventKind) (v : Int) (s : State) :
    (addEvent k v s).tex.test.map TestContext.identity = s.tex.test.map TestContext.identity ∧ (addEvent k v s).tex.serial = s.tex.serial ∧ (addEvent k v s).tex.plans = s.tex.plans := by
  unfold addEvent; split <;> simp

@[simp] theorem holdTest_identity (c : HoldCause) (s : State) :
    (holdTest c s).tex.test.map TestContext.identity = s.tex.test.map TestContext.identity ∧ (holdTest c s).tex.serial = s.tex.serial ∧ (holdTest c s).tex.plans = s.tex.plans := by
  unfold holdTest; split <;> simp

@[simp] theorem releaseTest_identity  (s : State) :
    (releaseTest s).tex.test.map TestContext.identity = s.tex.test.map TestContext.identity ∧ (releaseTest s).tex.serial = s.tex.serial ∧ (releaseTest s).tex.plans = s.tex.plans := by
  unfold releaseTest; (repeat' split) <;> simp

@[simp] theorem beginStage_identity (i : Nat) (d : StageDef) (s : State) :
    (beginStage i d s).tex.test.map TestContext.identity = s.tex.test.map TestContext.identity ∧ (beginStage i d s).tex.serial = s.tex.serial ∧ (beginStage i d s).tex.plans = s.tex.plans := by
  cases h : s.tex.test <;> simp [beginStage, updateTest, h, TestContext.identity]

@[simp] theorem leavePlacing_identity  (s : State) :
    (leavePlacing s).tex.test.map TestContext.identity = s.tex.test.map TestContext.identity ∧ (leavePlacing s).tex.serial = s.tex.serial ∧ (leavePlacing s).tex.plans = s.tex.plans := by
  unfold leavePlacing; (repeat' split) <;> simp

@[simp] theorem advanceStage_identity  (s : State) :
    (advanceStage s).tex.test.map TestContext.identity = s.tex.test.map TestContext.identity ∧ (advanceStage s).tex.serial = s.tex.serial ∧ (advanceStage s).tex.plans = s.tex.plans := by
  unfold advanceStage; split <;> simp

@[simp] theorem adjustRate_identity (x : Int) (s : State) :
    (adjustRate x s).tex.test.map TestContext.identity = s.tex.test.map TestContext.identity ∧ (adjustRate x s).tex.serial = s.tex.serial ∧ (adjustRate x s).tex.plans = s.tex.plans := by
  simp [adjustRate]

@[simp] theorem setLevel_identity  (s : State) :
    (setLevel s).tex.test.map TestContext.identity = s.tex.test.map TestContext.identity ∧ (setLevel s).tex.serial = s.tex.serial ∧ (setLevel s).tex.plans = s.tex.plans := by
  simp only [setLevel]; split; · simp
  · split <;> simp

@[simp] theorem startCapture_identity (n : BitVec 16) (s : State) :
    (startCapture n s).tex.test.map TestContext.identity = s.tex.test.map TestContext.identity ∧ (startCapture n s).tex.serial = s.tex.serial ∧ (startCapture n s).tex.plans = s.tex.plans := by
  simp [startCapture]

@[simp] theorem openPage_identity (c : CaptureContext) (n : Nat) (s : State) :
    (openPage c n s).tex.test.map TestContext.identity = s.tex.test.map TestContext.identity ∧ (openPage c n s).tex.serial = s.tex.serial ∧ (openPage c n s).tex.plans = s.tex.plans := by
  simp [openPage]

@[simp] theorem loseSample_identity (c : CaptureContext) (s : State) :
    (loseSample c s).tex.test.map TestContext.identity = s.tex.test.map TestContext.identity ∧ (loseSample c s).tex.serial = s.tex.serial ∧ (loseSample c s).tex.plans = s.tex.plans := by
  simp only [loseSample]; split <;> simp

@[simp] theorem keepSample_identity (e : CaptureEntry) (s : State) :
    (keepSample e s).tex.test.map TestContext.identity = s.tex.test.map TestContext.identity ∧ (keepSample e s).tex.serial = s.tex.serial ∧ (keepSample e s).tex.plans = s.tex.plans := by
  simp only [keepSample]; (repeat' split) <;> simp

@[simp] theorem captureSample_identity (d : Int) (b : Bool) (e : CaptureEntry) (s : State) :
    (captureSample d b e s).tex.test.map TestContext.identity = s.tex.test.map TestContext.identity ∧ (captureSample d b e s).tex.serial = s.tex.serial ∧ (captureSample d b e s).tex.plans = s.tex.plans := by
  simp only [captureSample]; (repeat' split) <;> simp

@[simp] theorem closeLastPage_identity (c : CaptureContext) (s : State) :
    (closeLastPage c s).tex.test.map TestContext.identity = s.tex.test.map TestContext.identity ∧ (closeLastPage c s).tex.serial = s.tex.serial ∧ (closeLastPage c s).tex.plans = s.tex.plans := by
  unfold closeLastPage; (repeat' split) <;> simp

@[simp] theorem handoverEntry_identity (n : Nat) (h : Int) (s : State) :
    (handoverEntry n h s).tex.test.map TestContext.identity = s.tex.test.map TestContext.identity ∧ (handoverEntry n h s).tex.serial = s.tex.serial ∧ (handoverEntry n h s).tex.plans = s.tex.plans := by
  simp [handoverEntry]

@[simp] theorem removalHandover_identity (n : Nat) (h : Int) (s : State) :
    (removalHandover n h s).tex.test.map TestContext.identity = s.tex.test.map TestContext.identity ∧ (removalHandover n h s).tex.serial = s.tex.serial ∧ (removalHandover n h s).tex.plans = s.tex.plans := by
  simp [removalHandover]

@[simp] theorem slipHandover_identity (m : SlipRecord) (s : State) :
    (slipHandover m s).tex.test.map TestContext.identity = s.tex.test.map TestContext.identity ∧ (slipHandover m s).tex.serial = s.tex.serial ∧ (slipHandover m s).tex.plans = s.tex.plans := by
  simp [slipHandover]

@[simp] theorem unannouncedRemoval_identity  (s : State) :
    (unannouncedRemoval s).tex.test.map TestContext.identity = s.tex.test.map TestContext.identity ∧ (unannouncedRemoval s).tex.serial = s.tex.serial ∧ (unannouncedRemoval s).tex.plans = s.tex.plans := by
  simp [unannouncedRemoval]

@[simp] theorem placementExpires_identity  (s : State) :
    (placementExpires s).tex.test.map TestContext.identity = s.tex.test.map TestContext.identity ∧ (placementExpires s).tex.serial = s.tex.serial ∧ (placementExpires s).tex.plans = s.tex.plans := by
  simp [placementExpires]

@[simp] theorem lateHold_identity (r : ReturnState) (s : State) :
    (lateHold r s).tex.test.map TestContext.identity = s.tex.test.map TestContext.identity ∧ (lateHold r s).tex.serial = s.tex.serial ∧ (lateHold r s).tex.plans = s.tex.plans := by
  simp [lateHold]

@[simp] theorem removalHold_identity (p : Plan) (s : State) :
    (removalHold p s).tex.test.map TestContext.identity = s.tex.test.map TestContext.identity ∧ (removalHold p s).tex.serial = s.tex.serial ∧ (removalHold p s).tex.plans = s.tex.plans := by
  unfold removalHold; split <;> simp

@[simp] theorem extPreloadEnd_identity (b : Bool) (l : Latch) (s : State) :
    (extPreloadEnd b l s).tex.test.map TestContext.identity = s.tex.test.map TestContext.identity ∧ (extPreloadEnd b l s).tex.serial = s.tex.serial ∧ (extPreloadEnd b l s).tex.plans = s.tex.plans := by
  unfold extPreloadEnd; (repeat' split) <;> simp

@[simp] theorem removalExpires_identity (p : Plan) (s : State) :
    (removalExpires p s).tex.test.map TestContext.identity = s.tex.test.map TestContext.identity ∧ (removalExpires p s).tex.serial = s.tex.serial ∧ (removalExpires p s).tex.plans = s.tex.plans := by
  simp only [removalExpires]; (repeat' split) <;> simp

@[simp] theorem extFracture_identity  (s : State) :
    (extFracture s).tex.test.map TestContext.identity = s.tex.test.map TestContext.identity ∧ (extFracture s).tex.serial = s.tex.serial ∧ (extFracture s).tex.plans = s.tex.plans := by
  unfold extFracture; split <;> simp

@[simp] theorem confirmRemoval_identity  (s : State) :
    (confirmRemoval s).tex.test.map TestContext.identity = s.tex.test.map TestContext.identity ∧ (confirmRemoval s).tex.serial = s.tex.serial ∧ (confirmRemoval s).tex.plans = s.tex.plans := by
  simp only [confirmRemoval]; split <;> simp

@[simp] theorem freePage_identity (l : List CapturePage) (s : State) :
    (freePage l s).tex.test.map TestContext.identity = s.tex.test.map TestContext.identity ∧ (freePage l s).tex.serial = s.tex.serial ∧ (freePage l s).tex.plans = s.tex.plans := by
  simp [freePage]

/-! ### The capture's serial -/

theorem updateCapture_serial (f : CaptureContext → CaptureContext) (hf : ∀ c, (f c).serial = c.serial) (s : State) :
    (updateCapture f s).cps.capture.map CaptureContext.serial = s.cps.capture.map CaptureContext.serial := by
  cases h : s.cps.capture <;> simp [updateCapture, h, hf]

@[simp] theorem markEvent_captureSerial  (s : State) :
    (markEvent s).cps.capture.map CaptureContext.serial = s.cps.capture.map CaptureContext.serial := by
  cases h : s.cps.capture <;> simp [markEvent, h]

@[simp] theorem addEventAt_captureSerial (k : EventKind) (n : Nat) (v : Int) (s : State) :
    (addEventAt k n v s).cps.capture.map CaptureContext.serial = s.cps.capture.map CaptureContext.serial := by
  unfold addEventAt; split <;> simp

@[simp] theorem addEvent_captureSerial (k : EventKind) (v : Int) (s : State) :
    (addEvent k v s).cps.capture.map CaptureContext.serial = s.cps.capture.map CaptureContext.serial := by
  unfold addEvent; split <;> simp

@[simp] theorem holdTest_captureSerial (c : HoldCause) (s : State) :
    (holdTest c s).cps.capture.map CaptureContext.serial = s.cps.capture.map CaptureContext.serial := by
  unfold holdTest; split <;> simp

@[simp] theorem releaseTest_captureSerial  (s : State) :
    (releaseTest s).cps.capture.map CaptureContext.serial = s.cps.capture.map CaptureContext.serial := by
  unfold releaseTest; (repeat' split) <;> simp

@[simp] theorem beginStage_captureSerial (i : Nat) (d : StageDef) (s : State) :
    (beginStage i d s).cps.capture.map CaptureContext.serial = s.cps.capture.map CaptureContext.serial := by
  simp [beginStage]

@[simp] theorem leavePlacing_captureSerial  (s : State) :
    (leavePlacing s).cps.capture.map CaptureContext.serial = s.cps.capture.map CaptureContext.serial := by
  unfold leavePlacing; (repeat' split) <;> simp

@[simp] theorem handoverEntry_captureSerial (n : Nat) (h : Int) (s : State) :
    (handoverEntry n h s).cps.capture.map CaptureContext.serial = s.cps.capture.map CaptureContext.serial := by
  simp [handoverEntry]

@[simp] theorem removalHandover_captureSerial (n : Nat) (h : Int) (s : State) :
    (removalHandover n h s).cps.capture.map CaptureContext.serial = s.cps.capture.map CaptureContext.serial := by
  simp [removalHandover]

@[simp] theorem slipHandover_captureSerial (m : SlipRecord) (s : State) :
    (slipHandover m s).cps.capture.map CaptureContext.serial = s.cps.capture.map CaptureContext.serial := by
  simp [slipHandover]

@[simp] theorem unannouncedRemoval_captureSerial  (s : State) :
    (unannouncedRemoval s).cps.capture.map CaptureContext.serial = s.cps.capture.map CaptureContext.serial := by
  simp [unannouncedRemoval]

@[simp] theorem placementExpires_captureSerial  (s : State) :
    (placementExpires s).cps.capture.map CaptureContext.serial = s.cps.capture.map CaptureContext.serial := by
  simp [placementExpires]

@[simp] theorem lateHold_captureSerial (r : ReturnState) (s : State) :
    (lateHold r s).cps.capture.map CaptureContext.serial = s.cps.capture.map CaptureContext.serial := by
  simp [lateHold]

@[simp] theorem removalHold_captureSerial (p : Plan) (s : State) :
    (removalHold p s).cps.capture.map CaptureContext.serial = s.cps.capture.map CaptureContext.serial := by
  unfold removalHold; split <;> simp

@[simp] theorem removalExpires_captureSerial (p : Plan) (s : State) :
    (removalExpires p s).cps.capture.map CaptureContext.serial = s.cps.capture.map CaptureContext.serial := by
  simp only [removalExpires]; (repeat' split) <;> simp

@[simp] theorem setLevel_captureSerial  (s : State) :
    (setLevel s).cps.capture.map CaptureContext.serial = s.cps.capture.map CaptureContext.serial := by
  cases h : s.cps.capture; · simp [setLevel, h]
  · simp only [setLevel, h]; split <;> simp [updateCapture, h]

@[simp] theorem handOver_captureSerial (p : CapturePage) (s : State) :
    (handOver p s).cps.capture.map CaptureContext.serial = s.cps.capture.map CaptureContext.serial := by
  simp [handOver]

@[simp] theorem writeEntry_captureSerial (e : CaptureEntry) (p : CapturePage) (s : State) :
    (writeEntry e p s).cps.capture.map CaptureContext.serial = s.cps.capture.map CaptureContext.serial := by
  cases h : s.cps.capture <;> simp only [writeEntry] <;> split <;> simp [updateCapture, h]

@[simp] theorem loseSample_captureSerial (c : CaptureContext) (s : State) :
    (loseSample c s).cps.capture.map CaptureContext.serial = s.cps.capture.map CaptureContext.serial := by
  cases h : s.cps.capture <;> simp only [loseSample] <;> split <;> simp [updateCapture, h]

@[simp] theorem adjustRate_captureSerial (x : Int) (s : State) :
    (adjustRate x s).cps.capture.map CaptureContext.serial = s.cps.capture.map CaptureContext.serial := by
  simp [adjustRate]

@[simp] theorem freePage_captureSerial (l : List CapturePage) (s : State) :
    (freePage l s).cps.capture.map CaptureContext.serial = s.cps.capture.map CaptureContext.serial := by
  simp [freePage]

@[simp] theorem confirmRemoval_captureSerial  (s : State) :
    (confirmRemoval s).cps.capture.map CaptureContext.serial = s.cps.capture.map CaptureContext.serial := by
  simp only [confirmRemoval]; split <;> simp

end Sys2Proof.Machine
end

