-- ==== Sys2Proof/Laws/State.lean ====
section
/-! SUPPORT. The named updates of the state, field by field: what each leaves in every field of the part of the state it writes. The
parts an update leaves whole are in Laws/Frames.lean. -/

namespace Sys2Proof.Machine

/-! ### The queue of commands -/

@[simp] theorem withPending_spt (l : List Instr) (s : State) : (s.withPending l).spt = s.spt := rfl
@[simp] theorem push_spt (i : Instr) (s : State) : (s.push i).spt = s.spt := rfl
@[simp] theorem withPending_ldc (l : List Instr) (s : State) : (s.withPending l).ldc = s.ldc := rfl
@[simp] theorem push_ldc (i : Instr) (s : State) : (s.push i).ldc = s.ldc := rfl
@[simp] theorem withPending_exc (l : List Instr) (s : State) : (s.withPending l).exc = s.exc := rfl
@[simp] theorem push_exc (i : Instr) (s : State) : (s.push i).exc = s.exc := rfl
@[simp] theorem withPending_xhc (l : List Instr) (s : State) : (s.withPending l).xhc = s.xhc := rfl
@[simp] theorem push_xhc (i : Instr) (s : State) : (s.push i).xhc = s.xhc := rfl
@[simp] theorem withPending_mar (l : List Instr) (s : State) : (s.withPending l).mar = s.mar := rfl
@[simp] theorem push_mar (i : Instr) (s : State) : (s.push i).mar = s.mar := rfl
@[simp] theorem withPending_tex (l : List Instr) (s : State) : (s.withPending l).tex = s.tex := rfl
@[simp] theorem push_tex (i : Instr) (s : State) : (s.push i).tex = s.tex := rfl
@[simp] theorem withPending_rlp (l : List Instr) (s : State) : (s.withPending l).rlp = s.rlp := rfl
@[simp] theorem push_rlp (i : Instr) (s : State) : (s.push i).rlp = s.rlp := rfl
@[simp] theorem withPending_cps (l : List Instr) (s : State) : (s.withPending l).cps = s.cps := rfl
@[simp] theorem push_cps (i : Instr) (s : State) : (s.push i).cps = s.cps := rfl
@[simp] theorem withPending_rsl (l : List Instr) (s : State) : (s.withPending l).rsl = s.rsl := rfl
@[simp] theorem push_rsl (i : Instr) (s : State) : (s.push i).rsl = s.rsl := rfl
@[simp] theorem withPending_pif (l : List Instr) (s : State) : (s.withPending l).pif = s.pif := rfl
@[simp] theorem push_pif (i : Instr) (s : State) : (s.push i).pif = s.pif := rfl
@[simp] theorem withPending_cal (l : List Instr) (s : State) : (s.withPending l).cal = s.cal := rfl
@[simp] theorem push_cal (i : Instr) (s : State) : (s.push i).cal = s.cal := rfl
@[simp] theorem withPending_inputs (l : List Instr) (s : State) : (s.withPending l).inputs = s.inputs := rfl
@[simp] theorem push_inputs (i : Instr) (s : State) : (s.push i).inputs = s.inputs := rfl
@[simp] theorem withPending_freeDraws (l : List Instr) (s : State) : (s.withPending l).freeDraws = s.freeDraws := rfl
@[simp] theorem push_freeDraws (i : Instr) (s : State) : (s.push i).freeDraws = s.freeDraws := rfl
@[simp] theorem withPending_pending (l : List Instr) (s : State) : (s.withPending l).pending = l := rfl
@[simp] theorem push_pending (i : Instr) (s : State) : (s.push i).pending = i :: s.pending := rfl
@[simp] theorem push_withPending (i : Instr) (l : List Instr) (s : State) : (s.push i).withPending l = s.withPending l := rfl
@[simp] theorem withPending_withPending (k l : List Instr) (s : State) : (s.withPending k).withPending l = s.withPending l := rfl

/-! ### Specimens -/

@[simp] theorem setQueue_spt_queue (q : List QueuedSpecimen) (s : State) :
    (setQueue q s).spt.queue = q := rfl
@[simp] theorem setQueue_spt_slot (q : List QueuedSpecimen) (s : State) :
    (setQueue q s).spt.slot = s.spt.slot := rfl

@[simp] theorem setSlotSpecimen_spt_queue (m : Option MountedSpecimen) (s : State) :
    (setSlotSpecimen m s).spt.queue = s.spt.queue := rfl
@[simp] theorem setSlotSpecimen_spt_slot (m : Option MountedSpecimen) (s : State) :
    (setSlotSpecimen m s).spt.slot = m := rfl

@[simp] theorem returnSpecimen_spt_queue (m : MountedSpecimen) (s : State) :
    (returnSpecimen m s).spt.queue = { specimen := m.specimen, band := .returned } :: s.spt.queue := rfl
@[simp] theorem returnSpecimen_spt_slot (m : MountedSpecimen) (s : State) :
    (returnSpecimen m s).spt.slot = none := rfl

@[simp] theorem slotTested_spt_queue (s : State) :
    (slotTested s).spt.queue = s.spt.queue := rfl
@[simp] theorem slotTested_spt_slot (s : State) :
    (slotTested s).spt.slot = s.spt.slot.map fun m => { m with state := .tested } := rfl

/-! ### Load channel -/

@[simp] theorem setTare_ldc_sampleInterval (t : Int) (s : State) :
    (setTare t s).ldc.sampleInterval = s.ldc.sampleInterval := rfl
@[simp] theorem setTare_ldc_conversion (t : Int) (s : State) :
    (setTare t s).ldc.conversion = s.ldc.conversion := rfl
@[simp] theorem setTare_ldc_missCount (t : Int) (s : State) :
    (setTare t s).ldc.missCount = s.ldc.missCount := rfl
@[simp] theorem setTare_ldc_loadFault (t : Int) (s : State) :
    (setTare t s).ldc.loadFault = s.ldc.loadFault := rfl
@[simp] theorem setTare_ldc_overload (t : Int) (s : State) :
    (setTare t s).ldc.overload = s.ldc.overload := rfl
@[simp] theorem setTare_ldc_range (t : Int) (s : State) :
    (setTare t s).ldc.range = s.ldc.range := rfl
@[simp] theorem setTare_ldc_settle (t : Int) (s : State) :
    (setTare t s).ldc.settle = s.ldc.settle := rfl
@[simp] theorem setTare_ldc_tare (t : Int) (s : State) :
    (setTare t s).ldc.tare = t := rfl
@[simp] theorem setTare_ldc_active (t : Int) (s : State) :
    (setTare t s).ldc.active = s.ldc.active := rfl
@[simp] theorem setTare_ldc_latest (t : Int) (s : State) :
    (setTare t s).ldc.latest = s.ldc.latest := rfl
@[simp] theorem setTare_ldc_lastValidGross (t : Int) (s : State) :
    (setTare t s).ldc.lastValidGross = s.ldc.lastValidGross := rfl
@[simp] theorem setTare_ldc_peak (t : Int) (s : State) :
    (setTare t s).ldc.peak = s.ldc.peak := rfl

@[simp] theorem setConfig_ldc_sampleInterval (c : FrameConfig) (s : State) :
    (setConfig c s).ldc.sampleInterval = c.sampleInterval := rfl
@[simp] theorem setConfig_ldc_conversion (c : FrameConfig) (s : State) :
    (setConfig c s).ldc.conversion = s.ldc.conversion := rfl
@[simp] theorem setConfig_ldc_missCount (c : FrameConfig) (s : State) :
    (setConfig c s).ldc.missCount = s.ldc.missCount := rfl
@[simp] theorem setConfig_ldc_loadFault (c : FrameConfig) (s : State) :
    (setConfig c s).ldc.loadFault = s.ldc.loadFault := rfl
@[simp] theorem setConfig_ldc_overload (c : FrameConfig) (s : State) :
    (setConfig c s).ldc.overload = s.ldc.overload := rfl
@[simp] theorem setConfig_ldc_range (c : FrameConfig) (s : State) :
    (setConfig c s).ldc.range = s.ldc.range := rfl
@[simp] theorem setConfig_ldc_settle (c : FrameConfig) (s : State) :
    (setConfig c s).ldc.settle = s.ldc.settle := rfl
@[simp] theorem setConfig_ldc_tare (c : FrameConfig) (s : State) :
    (setConfig c s).ldc.tare = s.ldc.tare := rfl
@[simp] theorem setConfig_ldc_active (c : FrameConfig) (s : State) :
    (setConfig c s).ldc.active = s.ldc.active := rfl
@[simp] theorem setConfig_ldc_latest (c : FrameConfig) (s : State) :
    (setConfig c s).ldc.latest = s.ldc.latest := rfl
@[simp] theorem setConfig_ldc_lastValidGross (c : FrameConfig) (s : State) :
    (setConfig c s).ldc.lastValidGross = s.ldc.lastValidGross := rfl
@[simp] theorem setConfig_ldc_peak (c : FrameConfig) (s : State) :
    (setConfig c s).ldc.peak = s.ldc.peak := rfl

@[simp] theorem startConversion_ldc_sampleInterval (s : State) :
    (startConversion s).ldc.sampleInterval = s.ldc.sampleInterval := rfl
@[simp] theorem startConversion_ldc_conversion (s : State) :
    (startConversion s).ldc.conversion = some { range := s.ldc.range, latch := none } := rfl
@[simp] theorem startConversion_ldc_missCount (s : State) :
    (startConversion s).ldc.missCount = missCountAfter s := rfl
@[simp] theorem startConversion_ldc_loadFault (s : State) :
    (startConversion s).ldc.loadFault = s.ldc.loadFault := rfl
@[simp] theorem startConversion_ldc_overload (s : State) :
    (startConversion s).ldc.overload = s.ldc.overload := rfl
@[simp] theorem startConversion_ldc_range (s : State) :
    (startConversion s).ldc.range = s.ldc.range := rfl
@[simp] theorem startConversion_ldc_settle (s : State) :
    (startConversion s).ldc.settle = s.ldc.settle := rfl
@[simp] theorem startConversion_ldc_tare (s : State) :
    (startConversion s).ldc.tare = s.ldc.tare := rfl
@[simp] theorem startConversion_ldc_active (s : State) :
    (startConversion s).ldc.active = s.ldc.active := rfl
@[simp] theorem startConversion_ldc_latest (s : State) :
    (startConversion s).ldc.latest = s.ldc.latest := rfl
@[simp] theorem startConversion_ldc_lastValidGross (s : State) :
    (startConversion s).ldc.lastValidGross = s.ldc.lastValidGross := rfl
@[simp] theorem startConversion_ldc_peak (s : State) :
    (startConversion s).ldc.peak = s.ldc.peak := rfl

@[simp] theorem loadTaken_ldc_sampleInterval (s : State) :
    (loadTaken s).ldc.sampleInterval = s.ldc.sampleInterval := rfl
@[simp] theorem loadTaken_ldc_conversion (s : State) :
    (loadTaken s).ldc.conversion = none := rfl
@[simp] theorem loadTaken_ldc_missCount (s : State) :
    (loadTaken s).ldc.missCount = 0 := rfl
@[simp] theorem loadTaken_ldc_loadFault (s : State) :
    (loadTaken s).ldc.loadFault = false := rfl
@[simp] theorem loadTaken_ldc_overload (s : State) :
    (loadTaken s).ldc.overload = s.ldc.overload := rfl
@[simp] theorem loadTaken_ldc_range (s : State) :
    (loadTaken s).ldc.range = s.ldc.range := rfl
@[simp] theorem loadTaken_ldc_settle (s : State) :
    (loadTaken s).ldc.settle = s.ldc.settle - 1 := rfl
@[simp] theorem loadTaken_ldc_tare (s : State) :
    (loadTaken s).ldc.tare = s.ldc.tare := rfl
@[simp] theorem loadTaken_ldc_active (s : State) :
    (loadTaken s).ldc.active = s.ldc.active := rfl
@[simp] theorem loadTaken_ldc_latest (s : State) :
    (loadTaken s).ldc.latest = s.ldc.latest := rfl
@[simp] theorem loadTaken_ldc_lastValidGross (s : State) :
    (loadTaken s).ldc.lastValidGross = s.ldc.lastValidGross := rfl
@[simp] theorem loadTaken_ldc_peak (s : State) :
    (loadTaken s).ldc.peak = s.ldc.peak := rfl

/-! ### Extensometer channel -/

@[simp] theorem setExtState_exc_state (e : ExtState) (s : State) :
    (setExtState e s).exc.state = e := rfl
@[simp] theorem setExtState_exc_count (e : ExtState) (s : State) :
    (setExtState e s).exc.count = s.exc.count := rfl
@[simp] theorem setExtState_exc_basis (e : ExtState) (s : State) :
    (setExtState e s).exc.basis = s.exc.basis := rfl
@[simp] theorem setExtState_exc_placement (e : ExtState) (s : State) :
    (setExtState e s).exc.placement = s.exc.placement := rfl
@[simp] theorem setExtState_exc_removal (e : ExtState) (s : State) :
    (setExtState e s).exc.removal = s.exc.removal := rfl
@[simp] theorem setExtState_exc_tracker (e : ExtState) (s : State) :
    (setExtState e s).exc.tracker = s.exc.tracker := rfl
@[simp] theorem setExtState_exc_lastActive (e : ExtState) (s : State) :
    (setExtState e s).exc.lastActive = s.exc.lastActive := rfl

@[simp] theorem beginActive_exc_state (s : State) :
    (beginActive s).exc.state = .active := rfl
@[simp] theorem beginActive_exc_count (s : State) :
    (beginActive s).exc.count = s.exc.count := rfl
@[simp] theorem beginActive_exc_basis (s : State) :
    (beginActive s).exc.basis = s.exc.basis := rfl
@[simp] theorem beginActive_exc_placement (s : State) :
    (beginActive s).exc.placement = s.exc.placement := rfl
@[simp] theorem beginActive_exc_removal (s : State) :
    (beginActive s).exc.removal = s.exc.removal := rfl
@[simp] theorem beginActive_exc_tracker (s : State) :
    (beginActive s).exc.tracker = none := rfl
@[simp] theorem beginActive_exc_lastActive (s : State) :
    (beginActive s).exc.lastActive = some { ext := 0, xh := 0, number := none } := rfl

@[simp] theorem updateBasis_exc_state (f : StrainBasis → StrainBasis) (s : State) :
    (updateBasis f s).exc.state = s.exc.state := rfl
@[simp] theorem updateBasis_exc_count (f : StrainBasis → StrainBasis) (s : State) :
    (updateBasis f s).exc.count = s.exc.count := rfl
@[simp] theorem updateBasis_exc_basis (f : StrainBasis → StrainBasis) (s : State) :
    (updateBasis f s).exc.basis = s.exc.basis.map f := rfl
@[simp] theorem updateBasis_exc_placement (f : StrainBasis → StrainBasis) (s : State) :
    (updateBasis f s).exc.placement = s.exc.placement := rfl
@[simp] theorem updateBasis_exc_removal (f : StrainBasis → StrainBasis) (s : State) :
    (updateBasis f s).exc.removal = s.exc.removal := rfl
@[simp] theorem updateBasis_exc_tracker (f : StrainBasis → StrainBasis) (s : State) :
    (updateBasis f s).exc.tracker = s.exc.tracker := rfl
@[simp] theorem updateBasis_exc_lastActive (f : StrainBasis → StrainBasis) (s : State) :
    (updateBasis f s).exc.lastActive = s.exc.lastActive := rfl

@[simp] theorem stopPlacement_exc_state (s : State) :
    (stopPlacement s).exc.state = s.exc.state := rfl
@[simp] theorem stopPlacement_exc_count (s : State) :
    (stopPlacement s).exc.count = s.exc.count := rfl
@[simp] theorem stopPlacement_exc_basis (s : State) :
    (stopPlacement s).exc.basis = s.exc.basis := rfl
@[simp] theorem stopPlacement_exc_placement (s : State) :
    (stopPlacement s).exc.placement = none := rfl
@[simp] theorem stopPlacement_exc_removal (s : State) :
    (stopPlacement s).exc.removal = s.exc.removal := rfl
@[simp] theorem stopPlacement_exc_tracker (s : State) :
    (stopPlacement s).exc.tracker = s.exc.tracker := rfl
@[simp] theorem stopPlacement_exc_lastActive (s : State) :
    (stopPlacement s).exc.lastActive = s.exc.lastActive := rfl

@[simp] theorem stopRemoval_exc_state (s : State) :
    (stopRemoval s).exc.state = s.exc.state := rfl
@[simp] theorem stopRemoval_exc_count (s : State) :
    (stopRemoval s).exc.count = s.exc.count := rfl
@[simp] theorem stopRemoval_exc_basis (s : State) :
    (stopRemoval s).exc.basis = s.exc.basis := rfl
@[simp] theorem stopRemoval_exc_placement (s : State) :
    (stopRemoval s).exc.placement = s.exc.placement := rfl
@[simp] theorem stopRemoval_exc_removal (s : State) :
    (stopRemoval s).exc.removal = none := rfl
@[simp] theorem stopRemoval_exc_tracker (s : State) :
    (stopRemoval s).exc.tracker = s.exc.tracker := rfl
@[simp] theorem stopRemoval_exc_lastActive (s : State) :
    (stopRemoval s).exc.lastActive = s.exc.lastActive := rfl

@[simp] theorem stopTimers_exc_state (s : State) :
    (stopTimers s).exc.state = s.exc.state := rfl
@[simp] theorem stopTimers_exc_count (s : State) :
    (stopTimers s).exc.count = s.exc.count := rfl
@[simp] theorem stopTimers_exc_basis (s : State) :
    (stopTimers s).exc.basis = s.exc.basis := rfl
@[simp] theorem stopTimers_exc_placement (s : State) :
    (stopTimers s).exc.placement = none := rfl
@[simp] theorem stopTimers_exc_removal (s : State) :
    (stopTimers s).exc.removal = none := rfl
@[simp] theorem stopTimers_exc_tracker (s : State) :
    (stopTimers s).exc.tracker = s.exc.tracker := rfl
@[simp] theorem stopTimers_exc_lastActive (s : State) :
    (stopTimers s).exc.lastActive = s.exc.lastActive := rfl

/-! ### Crosshead controller -/

@[simp] theorem setConfig_xhc_config (c : FrameConfig) (s : State) :
    (setConfig c s).xhc.config = c := rfl
@[simp] theorem setConfig_xhc_locked (c : FrameConfig) (s : State) :
    (setConfig c s).xhc.locked = s.xhc.locked := rfl
@[simp] theorem setConfig_xhc_position (c : FrameConfig) (s : State) :
    (setConfig c s).xhc.position = s.xhc.position := rfl
@[simp] theorem setConfig_xhc_referenceValid (c : FrameConfig) (s : State) :
    (setConfig c s).xhc.referenceValid = s.xhc.referenceValid := rfl
@[simp] theorem setConfig_xhc_drive (c : FrameConfig) (s : State) :
    (setConfig c s).xhc.drive = s.xhc.drive := rfl
@[simp] theorem setConfig_xhc_brakeTimer (c : FrameConfig) (s : State) :
    (setConfig c s).xhc.brakeTimer = s.xhc.brakeTimer := rfl
@[simp] theorem setConfig_xhc_holdTimer (c : FrameConfig) (s : State) :
    (setConfig c s).xhc.holdTimer = s.xhc.holdTimer := rfl
@[simp] theorem setConfig_xhc_jogTimer (c : FrameConfig) (s : State) :
    (setConfig c s).xhc.jogTimer = s.xhc.jogTimer := rfl
@[simp] theorem setConfig_xhc_searchTravel (c : FrameConfig) (s : State) :
    (setConfig c s).xhc.searchTravel = s.xhc.searchTravel := rfl
@[simp] theorem setConfig_xhc_word (c : FrameConfig) (s : State) :
    (setConfig c s).xhc.word = s.xhc.word := rfl

@[simp] theorem sendWordValue_xhc_config (w : Int) (s : State) :
    (sendWordValue w s).xhc.config = s.xhc.config := rfl
@[simp] theorem sendWordValue_xhc_locked (w : Int) (s : State) :
    (sendWordValue w s).xhc.locked = s.xhc.locked := rfl
@[simp] theorem sendWordValue_xhc_position (w : Int) (s : State) :
    (sendWordValue w s).xhc.position = s.xhc.position := rfl
@[simp] theorem sendWordValue_xhc_referenceValid (w : Int) (s : State) :
    (sendWordValue w s).xhc.referenceValid = s.xhc.referenceValid := rfl
@[simp] theorem sendWordValue_xhc_drive (w : Int) (s : State) :
    (sendWordValue w s).xhc.drive = s.xhc.drive := rfl
@[simp] theorem sendWordValue_xhc_brakeTimer (w : Int) (s : State) :
    (sendWordValue w s).xhc.brakeTimer = s.xhc.brakeTimer := rfl
@[simp] theorem sendWordValue_xhc_holdTimer (w : Int) (s : State) :
    (sendWordValue w s).xhc.holdTimer = s.xhc.holdTimer := rfl
@[simp] theorem sendWordValue_xhc_jogTimer (w : Int) (s : State) :
    (sendWordValue w s).xhc.jogTimer = s.xhc.jogTimer := rfl
@[simp] theorem sendWordValue_xhc_searchTravel (w : Int) (s : State) :
    (sendWordValue w s).xhc.searchTravel = s.xhc.searchTravel := rfl
@[simp] theorem sendWordValue_xhc_word (w : Int) (s : State) :
    (sendWordValue w s).xhc.word = w := rfl

@[simp] theorem driveDisable_xhc_config (s : State) :
    (driveDisable s).xhc.config = s.xhc.config := rfl
@[simp] theorem driveDisable_xhc_locked (s : State) :
    (driveDisable s).xhc.locked = s.xhc.locked := rfl
@[simp] theorem driveDisable_xhc_position (s : State) :
    (driveDisable s).xhc.position = s.xhc.position := rfl
@[simp] theorem driveDisable_xhc_referenceValid (s : State) :
    (driveDisable s).xhc.referenceValid = s.xhc.referenceValid := rfl
@[simp] theorem driveDisable_xhc_drive (s : State) :
    (driveDisable s).xhc.drive = .disabled := rfl
@[simp] theorem driveDisable_xhc_brakeTimer (s : State) :
    (driveDisable s).xhc.brakeTimer = none := rfl
@[simp] theorem driveDisable_xhc_holdTimer (s : State) :
    (driveDisable s).xhc.holdTimer = none := rfl
@[simp] theorem driveDisable_xhc_jogTimer (s : State) :
    (driveDisable s).xhc.jogTimer = none := rfl
@[simp] theorem driveDisable_xhc_searchTravel (s : State) :
    (driveDisable s).xhc.searchTravel = s.xhc.searchTravel := rfl
@[simp] theorem driveDisable_xhc_word (s : State) :
    (driveDisable s).xhc.word = 0 := rfl

@[simp] theorem referenced_xhc_config (s : State) :
    (referenced s).xhc.config = s.xhc.config := rfl
@[simp] theorem referenced_xhc_locked (s : State) :
    (referenced s).xhc.locked = true := rfl
@[simp] theorem referenced_xhc_position (s : State) :
    (referenced s).xhc.position = s.xhc.config.referencePosition := rfl
@[simp] theorem referenced_xhc_referenceValid (s : State) :
    (referenced s).xhc.referenceValid = true := rfl
@[simp] theorem referenced_xhc_drive (s : State) :
    (referenced s).xhc.drive = s.xhc.drive := rfl
@[simp] theorem referenced_xhc_brakeTimer (s : State) :
    (referenced s).xhc.brakeTimer = s.xhc.brakeTimer := rfl
@[simp] theorem referenced_xhc_holdTimer (s : State) :
    (referenced s).xhc.holdTimer = s.xhc.holdTimer := rfl
@[simp] theorem referenced_xhc_jogTimer (s : State) :
    (referenced s).xhc.jogTimer = s.xhc.jogTimer := rfl
@[simp] theorem referenced_xhc_searchTravel (s : State) :
    (referenced s).xhc.searchTravel = s.xhc.searchTravel := rfl
@[simp] theorem referenced_xhc_word (s : State) :
    (referenced s).xhc.word = s.xhc.word := rfl

@[simp] theorem startSearch_xhc_config (s : State) :
    (startSearch s).xhc.config = s.xhc.config := rfl
@[simp] theorem startSearch_xhc_locked (s : State) :
    (startSearch s).xhc.locked = s.xhc.locked := rfl
@[simp] theorem startSearch_xhc_position (s : State) :
    (startSearch s).xhc.position = s.xhc.position := rfl
@[simp] theorem startSearch_xhc_referenceValid (s : State) :
    (startSearch s).xhc.referenceValid = false := rfl
@[simp] theorem startSearch_xhc_drive (s : State) :
    (startSearch s).xhc.drive = s.xhc.drive := rfl
@[simp] theorem startSearch_xhc_brakeTimer (s : State) :
    (startSearch s).xhc.brakeTimer = s.xhc.brakeTimer := rfl
@[simp] theorem startSearch_xhc_holdTimer (s : State) :
    (startSearch s).xhc.holdTimer = s.xhc.holdTimer := rfl
@[simp] theorem startSearch_xhc_jogTimer (s : State) :
    (startSearch s).xhc.jogTimer = s.xhc.jogTimer := rfl
@[simp] theorem startSearch_xhc_searchTravel (s : State) :
    (startSearch s).xhc.searchTravel = 0 := rfl
@[simp] theorem startSearch_xhc_word (s : State) :
    (startSearch s).xhc.word = s.xhc.word := rfl

@[simp] theorem countEdge_xhc_config (d : Direction) (s : State) :
    (countEdge d s).xhc.config = s.xhc.config := rfl
@[simp] theorem countEdge_xhc_locked (d : Direction) (s : State) :
    (countEdge d s).xhc.locked = s.xhc.locked := rfl
@[simp] theorem countEdge_xhc_position (d : Direction) (s : State) :
    (countEdge d s).xhc.position = s.xhc.position + stepOf d := rfl
@[simp] theorem countEdge_xhc_referenceValid (d : Direction) (s : State) :
    (countEdge d s).xhc.referenceValid = s.xhc.referenceValid := rfl
@[simp] theorem countEdge_xhc_drive (d : Direction) (s : State) :
    (countEdge d s).xhc.drive = s.xhc.drive := rfl
@[simp] theorem countEdge_xhc_brakeTimer (d : Direction) (s : State) :
    (countEdge d s).xhc.brakeTimer = s.xhc.brakeTimer := rfl
@[simp] theorem countEdge_xhc_holdTimer (d : Direction) (s : State) :
    (countEdge d s).xhc.holdTimer = s.xhc.holdTimer := rfl
@[simp] theorem countEdge_xhc_jogTimer (d : Direction) (s : State) :
    (countEdge d s).xhc.jogTimer = s.xhc.jogTimer := rfl
@[simp] theorem countEdge_xhc_searchTravel (d : Direction) (s : State) :
    (countEdge d s).xhc.searchTravel = if searchActive s then s.xhc.searchTravel + 1 else s.xhc.searchTravel := rfl
@[simp] theorem countEdge_xhc_word (d : Direction) (s : State) :
    (countEdge d s).xhc.word = s.xhc.word := rfl

/-! ### Motion arbiter -/

@[simp] theorem setClaim_mar_holder (h w : Option Port) (s : State) :
    (setClaim h w s).mar.holder = h := rfl
@[simp] theorem setClaim_mar_waiter (h w : Option Port) (s : State) :
    (setClaim h w s).mar.waiter = w := rfl
@[simp] theorem setClaim_mar_queue (h w : Option Port) (s : State) :
    (setClaim h w s).mar.queue = s.mar.queue := rfl
@[simp] theorem setClaim_mar_active (h w : Option Port) (s : State) :
    (setClaim h w s).mar.active = s.mar.active := rfl
@[simp] theorem setClaim_mar_seqSlot (h w : Option Port) (s : State) :
    (setClaim h w s).mar.seqSlot = s.mar.seqSlot := rfl
@[simp] theorem setClaim_mar_cellSlot (h w : Option Port) (s : State) :
    (setClaim h w s).mar.cellSlot = s.mar.cellSlot := rfl

@[simp] theorem setMotionQueue_mar_holder (q : List MotionRequest) (s : State) :
    (setMotionQueue q s).mar.holder = s.mar.holder := rfl
@[simp] theorem setMotionQueue_mar_waiter (q : List MotionRequest) (s : State) :
    (setMotionQueue q s).mar.waiter = s.mar.waiter := rfl
@[simp] theorem setMotionQueue_mar_queue (q : List MotionRequest) (s : State) :
    (setMotionQueue q s).mar.queue = q := rfl
@[simp] theorem setMotionQueue_mar_active (q : List MotionRequest) (s : State) :
    (setMotionQueue q s).mar.active = s.mar.active := rfl
@[simp] theorem setMotionQueue_mar_seqSlot (q : List MotionRequest) (s : State) :
    (setMotionQueue q s).mar.seqSlot = s.mar.seqSlot := rfl
@[simp] theorem setMotionQueue_mar_cellSlot (q : List MotionRequest) (s : State) :
    (setMotionQueue q s).mar.cellSlot = s.mar.cellSlot := rfl

@[simp] theorem setJob_mar_holder (j : ActiveJob) (s : State) :
    (setJob j s).mar.holder = s.mar.holder := rfl
@[simp] theorem setJob_mar_waiter (j : ActiveJob) (s : State) :
    (setJob j s).mar.waiter = s.mar.waiter := rfl
@[simp] theorem setJob_mar_queue (j : ActiveJob) (s : State) :
    (setJob j s).mar.queue = s.mar.queue := rfl
@[simp] theorem setJob_mar_active (j : ActiveJob) (s : State) :
    (setJob j s).mar.active = s.mar.active.map fun a => { a with job := j } := rfl
@[simp] theorem setJob_mar_seqSlot (j : ActiveJob) (s : State) :
    (setJob j s).mar.seqSlot = s.mar.seqSlot := rfl
@[simp] theorem setJob_mar_cellSlot (j : ActiveJob) (s : State) :
    (setJob j s).mar.cellSlot = s.mar.cellSlot := rfl

/-! ### Test executive -/

@[simp] theorem storePlan_tex_plans (i : Fin 8) (p : Plan) (s : State) :
    (storePlan i p s).tex.plans = s.tex.plans.set i.val (some p) i.isLt := rfl
@[simp] theorem storePlan_tex_serial (i : Fin 8) (p : Plan) (s : State) :
    (storePlan i p s).tex.serial = s.tex.serial := rfl
@[simp] theorem storePlan_tex_test (i : Fin 8) (p : Plan) (s : State) :
    (storePlan i p s).tex.test = s.tex.test := rfl

@[simp] theorem updateTest_tex_plans (f : TestContext → TestContext) (s : State) :
    (updateTest f s).tex.plans = s.tex.plans := rfl
@[simp] theorem updateTest_tex_serial (f : TestContext → TestContext) (s : State) :
    (updateTest f s).tex.serial = s.tex.serial := rfl
@[simp] theorem updateTest_tex_test (f : TestContext → TestContext) (s : State) :
    (updateTest f s).tex.test = s.tex.test.map f := rfl

@[simp] theorem setPhase_tex_plans (p : TestPhase) (s : State) :
    (setPhase p s).tex.plans = s.tex.plans := rfl
@[simp] theorem setPhase_tex_serial (p : TestPhase) (s : State) :
    (setPhase p s).tex.serial = s.tex.serial := rfl
@[simp] theorem setPhase_tex_test (p : TestPhase) (s : State) :
    (setPhase p s).tex.test = s.tex.test.map fun t => { t with phase := p } := rfl

@[simp] theorem setTestFlags_tex_plans (f : TestFlags → TestFlags) (s : State) :
    (setTestFlags f s).tex.plans = s.tex.plans := rfl
@[simp] theorem setTestFlags_tex_serial (f : TestFlags → TestFlags) (s : State) :
    (setTestFlags f s).tex.serial = s.tex.serial := rfl
@[simp] theorem setTestFlags_tex_test (f : TestFlags → TestFlags) (s : State) :
    (setTestFlags f s).tex.test = s.tex.test.map fun t => { t with flags := f t.flags } := rfl

@[simp] theorem updateEvaluation_tex_plans (f : Evaluation → Evaluation) (s : State) :
    (updateEvaluation f s).tex.plans = s.tex.plans := rfl
@[simp] theorem updateEvaluation_tex_serial (f : Evaluation → Evaluation) (s : State) :
    (updateEvaluation f s).tex.serial = s.tex.serial := rfl
@[simp] theorem updateEvaluation_tex_test (f : Evaluation → Evaluation) (s : State) :
    (updateEvaluation f s).tex.test = s.tex.test.map fun t => { t with rev := f t.rev } := rfl

/-! ### Rate loop -/

@[simp] theorem setSetPoint_rlp_mode (v : Int) (s : State) :
    (setSetPoint v s).rlp.mode = s.rlp.mode := rfl
@[simp] theorem setSetPoint_rlp_rate (v : Int) (s : State) :
    (setSetPoint v s).rlp.rate = s.rlp.rate := rfl
@[simp] theorem setSetPoint_rlp_target (v : Int) (s : State) :
    (setSetPoint v s).rlp.target = s.rlp.target := rfl
@[simp] theorem setSetPoint_rlp_seed (v : Int) (s : State) :
    (setSetPoint v s).rlp.seed = s.rlp.seed := rfl
@[simp] theorem setSetPoint_rlp_setPoint (v : Int) (s : State) :
    (setSetPoint v s).rlp.setPoint = v := rfl

@[simp] theorem loopTail_rlp_mode (s : State) :
    (loopTail s).rlp.mode = .off := rfl
@[simp] theorem loopTail_rlp_rate (s : State) :
    (loopTail s).rlp.rate = none := rfl
@[simp] theorem loopTail_rlp_target (s : State) :
    (loopTail s).rlp.target = none := rfl
@[simp] theorem loopTail_rlp_seed (s : State) :
    (loopTail s).rlp.seed = s.rlp.seed := rfl
@[simp] theorem loopTail_rlp_setPoint (s : State) :
    (loopTail s).rlp.setPoint = 0 := rfl

@[simp] theorem loopEnterPending_rlp_mode (d : StageDef) (s : State) :
    (loopEnterPending d s).rlp.mode = loopModeOf d.mode := rfl
@[simp] theorem loopEnterPending_rlp_rate (d : StageDef) (s : State) :
    (loopEnterPending d s).rlp.rate = some d.rate := rfl
@[simp] theorem loopEnterPending_rlp_target (d : StageDef) (s : State) :
    (loopEnterPending d s).rlp.target = none := rfl
@[simp] theorem loopEnterPending_rlp_seed (d : StageDef) (s : State) :
    (loopEnterPending d s).rlp.seed = .pending := rfl
@[simp] theorem loopEnterPending_rlp_setPoint (d : StageDef) (s : State) :
    (loopEnterPending d s).rlp.setPoint = 0 := rfl

@[simp] theorem loopLoad_rlp_mode (d : StageDef) (s : State) : (loopLoad d s).rlp.mode = loopModeOf d.mode := rfl
@[simp] theorem loopLoad_rlp_rate (d : StageDef) (s : State) : (loopLoad d s).rlp.rate = some d.rate := rfl
@[simp] theorem loopLoad_rlp_target (d : StageDef) (s : State) :
    (loopLoad d s).rlp.target = if hasTarget (loopModeOf d.mode) then s.rlp.target else none := rfl
@[simp] theorem loopLoad_rlp_seed (d : StageDef) (s : State) : (loopLoad d s).rlp.seed = s.rlp.seed := rfl
@[simp] theorem loopLoad_rlp_setPoint (d : StageDef) (s : State) : (loopLoad d s).rlp.setPoint = s.rlp.setPoint := rfl

@[simp] theorem loopRelease_rlp_mode (s : State) :
    (loopRelease s).rlp.mode = s.rlp.mode := rfl
@[simp] theorem loopRelease_rlp_rate (s : State) :
    (loopRelease s).rlp.rate = s.rlp.rate := rfl
@[simp] theorem loopRelease_rlp_target (s : State) :
    (loopRelease s).rlp.target = none := rfl
@[simp] theorem loopRelease_rlp_seed (s : State) :
    (loopRelease s).rlp.seed = .pending := rfl
@[simp] theorem loopRelease_rlp_setPoint (s : State) :
    (loopRelease s).rlp.setPoint = 0 := rfl

@[simp] theorem loopSetRate_rlp_mode (r : Int) (s : State) :
    (loopSetRate r s).rlp.mode = s.rlp.mode := rfl
@[simp] theorem loopSetRate_rlp_rate (r : Int) (s : State) :
    (loopSetRate r s).rlp.rate = some r := rfl
@[simp] theorem loopSetRate_rlp_target (r : Int) (s : State) :
    (loopSetRate r s).rlp.target = s.rlp.target := rfl
@[simp] theorem loopSetRate_rlp_seed (r : Int) (s : State) :
    (loopSetRate r s).rlp.seed = s.rlp.seed := rfl
@[simp] theorem loopSetRate_rlp_setPoint (r : Int) (s : State) :
    (loopSetRate r s).rlp.setPoint = s.rlp.setPoint := rfl

/-! ### Capture store -/

@[simp] theorem updateCapture_cps_full (f : CaptureContext → CaptureContext) (s : State) :
    (updateCapture f s).cps.full = s.cps.full := rfl
@[simp] theorem updateCapture_cps_capture (f : CaptureContext → CaptureContext) (s : State) :
    (updateCapture f s).cps.capture = s.cps.capture.map f := rfl

@[simp] theorem markEvent_cps_full (s : State) :
    (markEvent s).cps.full = s.cps.full := rfl
@[simp] theorem markEvent_cps_capture (s : State) :
    (markEvent s).cps.capture = s.cps.capture.map fun c => { c with pendingEvent := true } := rfl

@[simp] theorem endCapture_cps_full (s : State) :
    (endCapture s).cps.full = s.cps.full.map fun p => { p with own := false } := rfl
@[simp] theorem endCapture_cps_capture (s : State) :
    (endCapture s).cps.capture = none := rfl

/-! ### Results -/

@[simp] theorem appendResult_rsl_results (r : ResultRecord) (s : State) :
    (appendResult r s).rsl.results = s.rsl.results ++ [r] := rfl
@[simp] theorem appendResult_rsl_reserved (r : ResultRecord) (s : State) :
    (appendResult r s).rsl.reserved = false := rfl
@[simp] theorem appendResult_rsl_limits (r : ResultRecord) (s : State) :
    (appendResult r s).rsl.limits = s.rsl.limits := rfl

@[simp] theorem setResults_rsl_results (l : List ResultRecord) (s : State) :
    (setResults l s).rsl.results = l := rfl
@[simp] theorem setResults_rsl_reserved (l : List ResultRecord) (s : State) :
    (setResults l s).rsl.reserved = s.rsl.reserved := rfl
@[simp] theorem setResults_rsl_limits (l : List ResultRecord) (s : State) :
    (setResults l s).rsl.limits = s.rsl.limits := rfl

@[simp] theorem setLimits_rsl_results (g : Fin 32) (l : Option GradeLimits) (s : State) :
    (setLimits g l s).rsl.results = s.rsl.results := rfl
@[simp] theorem setLimits_rsl_reserved (g : Fin 32) (l : Option GradeLimits) (s : State) :
    (setLimits g l s).rsl.reserved = s.rsl.reserved := rfl
@[simp] theorem setLimits_rsl_limits (g : Fin 32) (l : Option GradeLimits) (s : State) :
    (setLimits g l s).rsl.limits = s.rsl.limits.set g.val l g.isLt := rfl

/-! ### Calibration store and inputs -/

@[simp] theorem beginProgramming_cal_factory (x : LoadRange) (l : List CalPoint) (s : State) :
    (beginProgramming x l s).cal.factory = s.cal.factory := rfl
@[simp] theorem beginProgramming_cal_fullScale1 (x : LoadRange) (l : List CalPoint) (s : State) :
    (beginProgramming x l s).cal.fullScale1 = s.cal.fullScale1 := rfl
@[simp] theorem beginProgramming_cal_fullScale2 (x : LoadRange) (l : List CalPoint) (s : State) :
    (beginProgramming x l s).cal.fullScale2 = s.cal.fullScale2 := rfl
@[simp] theorem beginProgramming_cal_fullScale3 (x : LoadRange) (l : List CalPoint) (s : State) :
    (beginProgramming x l s).cal.fullScale3 = s.cal.fullScale3 := rfl
@[simp] theorem beginProgramming_cal_site (x : LoadRange) (l : List CalPoint) (s : State) :
    (beginProgramming x l s).cal.site = s.cal.site.put x { validity := .programming, points := (s.cal.site.get x).points } := rfl
@[simp] theorem beginProgramming_cal_inFlight (x : LoadRange) (l : List CalPoint) (s : State) :
    (beginProgramming x l s).cal.inFlight = some { range := x, points := l } := rfl

@[simp] theorem setInputs_inputs (i : Inputs) (s : State) : (setInputs i s).inputs = i := rfl

@[simp] theorem loadTaken_spt (s : State) : (loadTaken s).spt = s.spt := rfl
@[simp] theorem loadTaken_exc (s : State) : (loadTaken s).exc = s.exc := rfl
@[simp] theorem loadTaken_xhc (s : State) : (loadTaken s).xhc = s.xhc := rfl
@[simp] theorem loadTaken_mar (s : State) : (loadTaken s).mar = s.mar := rfl
@[simp] theorem loadTaken_tex (s : State) : (loadTaken s).tex = s.tex := rfl
@[simp] theorem loadTaken_rlp (s : State) : (loadTaken s).rlp = s.rlp := rfl
@[simp] theorem loadTaken_cps (s : State) : (loadTaken s).cps = s.cps := rfl
@[simp] theorem loadTaken_rsl (s : State) : (loadTaken s).rsl = s.rsl := rfl
@[simp] theorem loadTaken_pif (s : State) : (loadTaken s).pif = s.pif := rfl
@[simp] theorem loadTaken_cal (s : State) : (loadTaken s).cal = s.cal := rfl
@[simp] theorem loadTaken_inputs (s : State) : (loadTaken s).inputs = s.inputs := rfl
@[simp] theorem loadTaken_freeDraws (s : State) : (loadTaken s).freeDraws = s.freeDraws := rfl
@[simp] theorem loadTaken_pending (s : State) : (loadTaken s).pending = s.pending := rfl

end Sys2Proof.Machine
end

