-- ==== Sys2Proof/Tests/Slice0.lean ====
section
/-! SUPPORT. Tests: ill-formed commands refused by WellFormed, transactions written out by hand from R214, worked cases of the
manual, and for each obligation with hypotheses a concrete state and operands that meet them (`test_meets_…`). -/

namespace Sys2Proof.Tests

open Sys2Proof.Machine

/-! ### States and operands the tests speak of -/

def seqReq : Req := { port := .sequencer, tag := 0x0102, form := .whole }
def cellReq : Req := { port := .cell, tag := 7, form := .whole }
def recReq : Req := { port := .record, tag := 0xFFFF, form := .whole }

def nothingNamed : FrameUpdate :=
  ⟨none, none, none, none, none, none, none, none, none, none, none, none, none, none, none⟩

def allDefaults : PlanUpdate :=
  ⟨none, none, none, none, none, none, none, none, none, none, none, none, none, none, none, none, none, none, none, none, none,
   none, none, none, none, none⟩

/-- An XH_RATE stage that only a timeout of 1000 ms ends, by an abort. -/
def timedStage : StageDef :=
  { mode := .xhRate, rate := 100, endKind := .never, endValue := none, successor := .next, timeoutMs := 1000,
    timeoutAction := .abort }

def holdStage : StageDef :=
  { mode := .hold, rate := 0, endKind := .timeGe, endValue := some 5000, successor := .stage 1, timeoutMs := 0,
    timeoutAction := .successor }

/-- The defaults of R103 with two stages; no extensometer. -/
def plan : Plan :=
  { preloadForce := 500, preloadRate := 100, extRequired := false, placementTimeout := 60, removalStrain := 0, removalDrop := 0,
    removalMode := .hold, removalTimeout := 30, slipThreshold := 200, rpOffset := 2000, fitLow := 1000, fitHigh := 4000,
    eNom := 210000, yieldDrop := 5, yieldLimit := 30000, fractureFraction := 20, fractureFloor := 2000, tailSamples := 64,
    divisor := 1, initialRange := .r4, autoRange := false, settleSamples := 4, kc := 8, roundMode := .nearest, stressRes := 10,
    strainRes := 100, stages := [timedStage, holdStage] }

/-- A round coupon of 10 mm named "A1". -/
def coupon : SpecimenRecord :=
  { id := [65, 49], heat := [], grade := 3, dims := .round 10000, le := none, lc := 70000, plan := 0, rush := false,
    retestOf := [] }

def mounted (state : SlotState) : MountedSpecimen :=
  { state := state, specimen := coupon, used := .round 10000, measured := ⟨false, false, false⟩, area := 7854 }

/-- A frame that has been referenced and stands at 100 mm, its claim with a port. -/
def frame (holder : Option Port) : State :=
  { State.reset with
    xhc := { State.reset.xhc with locked := true, position := 100000, referenceValid := true },
    mar := { State.reset.mar with holder := holder } }

/-- The coupon mounted and its plan defined, the sequencer holding the claim. -/
def ready : State :=
  { frame (some .sequencer) with
    spt := { queue := [], slot := some (mounted .mounted) },
    tex := { State.reset.tex with plans := Vector.replicate 8 (some plan) } }

def evaluation : Evaluation :=
  { saturated := false, lastValid := none, fracture := none, fit := ⟨.notStarted, 0, 0, 0, 0, 0, none, none⟩,
    search := ⟨.waiting, none, none⟩, tracker := ⟨.rising, none, none, none⟩, fitInvalid := false, rpNotReached := false,
    nominalE := false }

/-- A test context of serial 1 in stage `index`, 1.5 s after its entry. -/
def context (phase : TestPhase) (index : Nat) : TestContext :=
  { serial := 1, planId := 0, plan := plan, specimenId := [65, 49], phase := phase,
    stage := some { index := index, rate := 100, elapsed := 1500000, endLogged := false, timeoutLogged := false },
    fractureNumber := none, events := [], dropped := 0, flags := ⟨false, false, false, false, false, false, false⟩,
    handoverMark := false, arrivals := 10, rev := evaluation }

def testMotion : ActiveMotion := { port := .sequencer, tag := 9, job := .test }

/-- The capture of that test, with a page open. -/
def capturing : CaptureContext :=
  { serial := 1, taken := 10, stored := 10, thinned := 0, lost := 0, level := 0, nextIndex := 1,
    filling := some { serial := 1, index := 0, first := 0, last := false, entries := [], own := true }, lossRun := false,
    pendingEvent := false }

/-- A test in a phase, the drive MOVING, a conversion strobed. -/
def testing (phase : TestPhase) (index : Nat) : State :=
  { ready with
    spt := { queue := [], slot := some (mounted .testing) },
    ldc := { ready.ldc with
      settle := 0, conversion := some { range := .r4, latch := some { extCount := 0, position := 100010 } } },
    exc := { ready.exc with basis := some { le := none, lc := 70000, p0 := 100000, h := 0 } },
    xhc := { ready.xhc with drive := .moving },
    mar := { ready.mar with active := some testMotion },
    tex := { ready.tex with serial := 1, test := some (context phase index) },
    rsl := { ready.rsl with reserved := true },
    cps := { full := [], capture := some capturing } }

/-- A motion of a port active on the referenced frame, whose claim it holds. -/
def moving (p : Port) (j : ActiveJob) : State :=
  { frame (some p) with
    xhc := { (frame none).xhc with drive := .moving },
    mar := { (frame (some p)).mar with active := some { port := p, tag := 9, job := j } } }

def toTheTop : ActiveJob := .move 1100000 1000 false 0

/-! ### Ill-formed commands (WellFormed) -/

theorem test_wellFormed_number : (Instr.setRange seqReq 2147483648).wellFormed = false := by decide
theorem test_wellFormed_frame :
    (Instr.configureFrame seqReq { nothingNamed with fcap := some (-2147483649) }).wellFormed = false := by decide
theorem test_wellFormed_plan_field :
    (Instr.definePlan seqReq 0 { allDefaults with kc := some 4294967296 } [timedStage]).wellFormed = false := by decide
theorem test_wellFormed_successor :
    (Instr.definePlan seqReq 0 allDefaults [{ timedStage with successor := .stage 9 }]).wellFormed = false := by decide
theorem test_wellFormed_stage_rate :
    (Instr.definePlan seqReq 0 allDefaults [{ timedStage with rate := 2147483648 }]).wellFormed = false := by decide
theorem test_wellFormed_motion : (Instr.moveTo cellReq 0 2147483648).wellFormed = false := by decide
theorem test_wellFormed_jog : (Instr.jog cellReq .up 2147483648 1).wellFormed = false := by decide
theorem test_wellFormed_text : (Instr.cancelSpecimen recReq (List.replicate 256 65)).wellFormed = false := by decide +kernel
theorem test_wellFormed_mounted : (Instr.specimenMounted cellReq [65] (some 2147483648) none none).wellFormed = false := by decide
theorem test_wellFormed_specimen :
    (Instr.enqueueSpecimen recReq ⟨[65], [], 2147483648, .flat, none, none, none, none, 0, 0, false, []⟩).wellFormed = false := by
  decide
theorem test_wellFormed_limits :
    (Instr.setGradeLimits recReq 0 (some ⟨some 2147483648, none, none, none, none, none⟩)).wellFormed = false := by decide
theorem test_wellFormed_point :
    (Instr.writeSiteCalibration recReq .site 1 [⟨0, 2147483648⟩]).wellFormed = false := by decide
theorem test_wellFormed_points : (Instr.calProgrammingCompletion [⟨2147483648, 0⟩]).wellFormed = false := by decide
theorem test_wellFormed_known_kind : (Instr.unknownRequest .cell 0 39).wellFormed = false := by decide
theorem test_wellFormed_taken : (Instr.writeNotTaken .cell [1, 7, 0, 0, 0, 0]).wellFormed = false := by decide
theorem test_wellFormed_read : (Instr.writeNotTaken .cell [2]).wellFormed = false := by decide
theorem test_wellFormed_code : (Instr.sampleArrival 8388608).wellFormed = false := by decide
theorem test_wellFormed_parameters :
    (Instr.writeSiteCalibration recReq .site 1 (List.replicate 64 ⟨0, 0⟩)).wellFormed = false := by decide +kernel

/-! ### Transactions written out from R214 -/

theorem test_bytes_nop : decodeTransaction .cell [1, 7, 0, 7, 0, 0] = .nop cellReq := by decide
theorem test_bytes_ackFlags : decodeTransaction .record [1, 4, 255, 255, 0, 2, 1, 2] = .ackFlags recReq 0x0102 := by decide
theorem test_bytes_setRange : decodeTransaction .sequencer [1, 9, 1, 2, 0, 4, 0, 0, 0, 3] = .setRange seqReq 3 := by decide
theorem test_bytes_configureFrame :
    decodeTransaction .sequencer [1, 8, 1, 2, 0, 19, 0, 0, 0, 0, 0, 0, 0, 0, 1, 0, 0, 3, 232, 0, 0, 0, 0, 0, 0] =
      .configureFrame seqReq { nothingNamed with jogLimit := some 1000 } := by decide +kernel
theorem test_bytes_moveTo :
    decodeTransaction .cell [1, 22, 0, 7, 0, 8, 255, 255, 255, 255, 0, 1, 0, 0] = .moveTo cellReq (-1) 65536 := by decide
theorem test_bytes_jog :
    decodeTransaction .cell [1, 25, 0, 7, 0, 9, 2, 0, 0, 1, 0, 0, 0, 0, 100] = .jog cellReq .down 256 100 := by decide
theorem test_bytes_specimenMounted :
    decodeTransaction .cell [1, 27, 0, 7, 0, 10, 2, 65, 49, 0, 0, 1, 0, 0, 39, 16] =
      .specimenMounted cellReq [65, 49] none none (some 10000) := by decide
theorem test_bytes_cancelSpecimen :
    decodeTransaction .record [1, 32, 255, 255, 0, 3, 2, 65, 49] = .cancelSpecimen recReq [65, 49] := by decide
theorem test_bytes_writeSiteCalibration :
    decodeTransaction .record [1, 38, 255, 255, 0, 22, 1, 0, 0, 0, 2, 2, 0, 0, 0, 0, 0, 0, 0, 0, 0, 0, 0, 1, 0, 0, 0, 5] =
      .writeSiteCalibration recReq .site 2 [⟨0, 0⟩, ⟨1, 5⟩] := by decide +kernel
theorem test_bytes_setGradeLimits :
    decodeTransaction .record [1, 33, 255, 255, 0, 5, 0, 0, 0, 31, 0] = .setGradeLimits recReq 31 none := by decide
theorem test_bytes_unknownKind : decodeTransaction .cell [1, 40, 0, 5, 0, 0] = .unknownRequest .cell 5 40 := by decide
theorem test_bytes_shortHeader : decodeTransaction .cell [1, 7, 0, 5, 0] = .writeNotTaken .cell [1, 7, 0, 5, 0] := by decide
theorem test_bytes_read : decodeTransaction .cell [2, 0, 0, 0] = .readTransaction .cell 3 := by decide
theorem test_bytes_wrongLength :
    decodeTransaction .cell [1, 7, 0, 7, 0, 1] = .nop { cellReq with form := .badLength } := by decide
theorem test_bytes_badCode :
    decodeTransaction .cell [1, 25, 0, 7, 0, 9, 3, 0, 0, 1, 0, 0, 0, 0, 100] =
      .jog { cellReq with form := .badLayout } .up 0 0 := by decide
theorem test_bytes_of_answer :
    answerBytes { tag := 0x0102, kind := 10, outcome := .ok, overwritten := true, payload := .tare (-2) } =
      [1, 2, 10, 0, 1, 0, 4, 255, 255, 255, 254] := by decide

/-! ### Worked cases of the manual -/

/-- R26, the table of range 2. -/
def range2 : List CalPoint := [⟨2000000, 100000⟩, ⟨4000000, 200100⟩]

theorem test_gross_inside : grossForce range2 3000000 = 150050 := by decide
theorem test_gross_rounds_half_away : grossForce range2 2010000 = 100501 := by decide
theorem test_gross_above : grossForce range2 4500000 = 225125 := by decide
theorem test_gross_below : grossForce range2 0 = -100 := by decide
theorem test_stress : stressOf 150000 7854 = 19099 ∧ stressOf (-150) 7854 = -19 := by decide
theorem test_stress_clamped : clampTo (-stressBound) stressBound (stressOf 150000 2827) = 40000 := by decide
theorem test_area : areaOf (.round 10000) = 7854 := by decide

/-- Section 7.9, samples k + 1 and k + 3: Kc 4, Lc 70,000 µm. -/
def strainInputs (strain : Int) : LoopInputs :=
  { ts := 1000, vmax := 10000, lc := 70000, kc := 4, eNom := 210000, strain := strain, stress := 0 }

theorem test_loop_strain_rate :
    (loopCompute (strainInputs 5000) false ⟨.strainRate, some 250, some 5000000000, .seeded, 17500⟩).setPoint = 17773 := by decide
theorem test_loop_strain_ahead :
    (loopCompute (strainInputs 5001) false ⟨.strainRate, some 250, some 5000500000, .seeded, 18046⟩).setPoint = 17226 := by decide
theorem test_loop_seeds :
    loopCompute (strainInputs 5000) true ⟨.strainRate, some 250, none, .seeded, 0⟩ =
      ⟨.strainRate, some 250, some 5000000000, .seeded, 17500⟩ := by decide

/-- Section 7.10, a target 0.1 MPa ahead and 1.0 MPa behind. -/
def stressInputs (stress : Int) : LoopInputs :=
  { ts := 1000, vmax := 10000, lc := 70000, kc := 8, eNom := 210000, strain := 0, stress := stress }

theorem test_loop_single_rounding :
    (loopCompute (stressInputs 999) false ⟨.stressRate, some 100, some 999900000, .seeded, 0⟩).setPoint = 4375 := by decide
theorem test_loop_clamps_at_zero :
    (loopCompute (stressInputs 1010) false ⟨.stressRate, some 100, some 999900000, .seeded, 0⟩).setPoint = 0 := by decide

/-- The worked fit of 8.2, at its closure. -/
def workedFit : ModulusFit := ⟨.opened, 8, 7200, 13960, 8160000, 16008000, none, none⟩

theorem test_fit_modulus : fitE workedFit = 205000 ∧ fitEps0 workedFit 205000 = 49 := by decide
theorem test_fit_closes_valid : fitIsValid workedFit = true ∧ fitIsValid { workedFit with n := 7 } = false := by decide

/-- The worked offset yield of 8.3: the crossing between samples 1,412 and 1,413. -/
def crossing : ExactRatio := rpExact (some (14300, 5045000)) 14310 (-14455000)

theorem test_rp_nearest : roundToResolution .nearest 10 crossing.num crossing.den = 14300 := by decide
theorem test_rp_up : roundToResolution .up 10 crossing.num crossing.den = 14310 := by decide
theorem test_rp_resolution5 : roundToResolution .nearest 5 crossing.num crossing.den = 14305 := by decide
theorem test_rp_down1 : roundToResolution .down 1 crossing.num crossing.den = 14302 := by decide

/-- A field of the state a command leaves; `none` when it leaves none. -/
def left {α : Type} (o : Result) (f : State → α) : Option α :=
  match o with
  | .next t => some (f t)
  | _ => none

/-- Section 2.1's timeline: the fourth miss ends a MOVE TO and sets LOAD_FAULT. -/
theorem test_fourth_miss :
    left (exec .sampleTimerExpiry
        { moving .sequencer toTheTop with
          ldc := { (moving .sequencer toTheTop).ldc with conversion := some ⟨.r4, none⟩, missCount := 3 } })
      (fun t => (t.ldc.loadFault, t.ldc.missCount, t.mar.seqSlot.map (fun c => c.outcome), t.xhc.drive, t.pif.faults.loadFault)) =
      some (true, 4, some .loadFault, .holding, true) := by decide +kernel

/-- R29: with Fcap 600,000 N the accepted gross forces are −30,000..+30,000 N. -/
theorem test_tare_bound : tareInRange 600000 (-30000) = true ∧ tareInRange 600000 30001 = false := by decide

/-- R201: a second answer overwrites the first. -/
theorem test_overwritten :
    (match exec (.nop seqReq) State.reset with
      | .next t => left (exec (.nop seqReq) t) fun u => (u.pif.sequencer.buffer.map fun a => a.overwritten)
      | _ => none) = some (some true) := by decide +kernel

/-- R108 with R1: the stage's elapsed time in whole ms, the nearest. -/
theorem test_elapsed_nearest : roundNearest 500 1000 = 1 ∧ roundNearest 250 1000 = 0 ∧ roundNearest 1500000 1000 = 1500 := by
  decide

/-- R178: outside CAPTURING the level is reported as 0. -/
theorem test_level_outside_capturing :
    (captureItems false (captureReport ready false)).take 13 = [0, 0, 0, 128, 0, 0, 0, 0, 1, 0, 0, 0, 0] := by decide +kernel

/-! ### Each obligation's hypotheses are met -/

theorem test_meets_StepTakesTheFrontCommand :
    (ready.push (.nop seqReq)).pending = [.nop seqReq] ∧ State.reset.pending = [] := ⟨rfl, rfl⟩

theorem test_meets_EncodedTransactions :
    (Instr.moveTo cellReq (-1) 65536).wellFormed = true ∧
    encodeTransaction (.moveTo cellReq (-1) 65536) = some (.cell, [1, 22, 0, 7, 0, 8, 255, 255, 255, 255, 0, 1, 0, 0]) ∧
    (Instr.setRange seqReq (-2147483648)).wellFormed = true ∧
    encodeTransaction (.setRange seqReq (-2147483648)) = some (.sequencer, [1, 9, 1, 2, 0, 4, 128, 0, 0, 0]) := by decide

theorem test_meets_RequestsCheckedBeforeTheirBlock :
    (requestOf (.tare cellReq) = some (.tare, cellReq) ∧ permitted .tare .cell = false) ∧
    (requestOf (.nop { cellReq with form := .badLength }) = some (.nop, { cellReq with form := .badLength }) ∧
      permitted .nop .cell = true) ∧
    (requestOf (.setRange { seqReq with form := .badLayout } 0) = some (.setRange, { seqReq with form := .badLayout }) ∧
      permitted .setRange .sequencer = true ∧ hasParameters .setRange = true ∧ RequestKind.setRange ≠ .adjustRate) := by decide

def nopAnswer : Answer := { tag := 7, kind := 7, outcome := .ok, overwritten := false, payload := .nothing }

/-- A port holds an unread answer. -/
def holdsAnswer : State := State.reset.setPort .cell { State.reset.portOf .cell with buffer := some nopAnswer }

theorem test_meets_TransactionsWithoutARequest :
    ([1, 7, 0, 5, 0] : List Byte).head? = some 1 ∧ ([3, 7] : List Byte).head? ≠ some 1 ∧
    (State.reset.portOf .cell).buffer = none ∧ (holdsAnswer.portOf .cell).buffer = some nopAnswer ∧
    7 < 1 + (answerBytes nopAnswer).length ∧ 1 + (answerBytes nopAnswer).length ≤ 8 := by decide

/-- R200: the data out line carries zero bytes during a write, and so after a read that came before it. -/
theorem test_zeros_during_write :
    (match exec (.readTransaction .cell 3) holdsAnswer with
      | .next t => left (exec (.nop cellReq) t) fun u => ((t.portOf .cell).dataOut, (u.portOf .cell).dataOut)
      | _ => none) = some (.shifted [1, 0, 7], .zeros) := by decide +kernel


/-- The sequencer port's RESET flag has been read. -/
def resetSeen : State :=
  State.reset.setPort .sequencer
    { State.reset.portOf .sequencer with flags := seenFlags (State.reset.portOf .sequencer).flags }

theorem test_meets_FlagsReadAndAcknowledged :
    seqReq.form = .whole ∧ (0x00FF : BitVec 16).toNat < 2 ^ (noticesOf .sequencer).length ∧
    ((noticesOf .sequencer)[2]? = some .reset ∧ (0x00FF : BitVec 16).getLsbD 2 = true ∧
      resetSeen.flag .sequencer .reset = .seen) ∧
    State.reset.flag .sequencer .reset ≠ .seen ∧ 2 ^ (noticesOf .sequencer).length ≤ (0x0100 : BitVec 16).toNat := by decide

theorem test_meets_unnamed_flag :
    ∀ k, (noticesOf .sequencer)[k]? = some .reset → (0 : BitVec 16).getLsbD k = false := by simp

theorem test_meets_NoticesSet :
    ((0x0080 : BitVec 16).toNat < 2 ^ (noticesOf .sequencer).length ∧ (8 : Byte).toNat ≤ (noticesOf .sequencer).length ∧
      (0x0080 : BitVec 16).getLsbD ((8 : Byte).toNat - 1) = true) ∧
    2 ^ (noticesOf .sequencer).length ≤ (0x0100 : BitVec 16).toNat ∧ (noticesOf .sequencer).length < (9 : Byte).toNat ∧
    ((1 : Byte) ≠ 0 ∧ (0 : BitVec 16).getLsbD ((1 : Byte).toNat - 1) = false) := by decide

/-- The ports of the tests' states are those of a reset: each flag its own, each enabled. -/
theorem test_ports (s : State) (h : s.pif = resetPorts) : PortsSound s := by
  constructor <;> intro p <;> cases p <;> simp [State.portOf, h, resetPorts, resetPort, noticesOf]

/-- The RESET flag promoted on the sequencer port. -/
def promoting : State :=
  State.reset.setPort .sequencer { State.reset.portOf .sequencer with promoted := some .reset }

theorem test_meets_ReadsReportTheState :
    seqReq.form = .whole ∧ cellReq.form = .whole ∧ recReq.form = .whole ∧ PortsSound ready ∧
    ({ recReq with form := .badLayout } : Req).form ≠ .badLength ∧
    (∃ m ∈ (promoting.portOf .sequencer).promoted, m ∈ (promoting.portOf .sequencer).enables ∧
      promoting.flag .sequencer m ≠ .clear) ∧
    (∀ m ∈ (ready.portOf .sequencer).promoted, m ∈ (ready.portOf .sequencer).enables → ready.flag .sequencer m = .clear) :=
  ⟨rfl, rfl, rfl, test_ports _ rfl, by decide, ⟨.reset, rfl, by decide, by decide⟩, by decide⟩

theorem test_meets_AttentionFollowsTheFlags :
    PortsSound ready ∧ Notice.reset ∈ (ready.portOf .cell).enables ∧ ∃ t, exec (.readFlags cellReq) ready = .next t :=
  ⟨test_ports _ rfl, by decide, _, rfl⟩

theorem test_meets_ClearFaults : seqReq.form = .whole ∧ seqReq.port = .sequencer ∧ cellReq.port ≠ .sequencer := by decide

/-- A CONFIGURE FRAME that names the frame capacity. -/
def capacity (n : Int) : FrameUpdate := { nothingNamed with fcap := some n }

/-- The cross-field conditions that `FrameConfigured` names. -/
abbrev configFits (s : State) (c : FrameConfig) : Prop :=
  c.lowerSoft < c.upperSoft ∧ c.jogLimit ≤ c.vmax ∧ c.lowerSoft ≤ c.retractPosition ∧ c.retractPosition ≤ c.upperSoft ∧
    s.cal.fullScale3 < c.fcap

theorem test_meets_FrameConfigured :
    FrameUpdate.inRange (capacity 9999) = false ∧
    (FrameUpdate.inRange nothingNamed = true ∧ FrameUpdate.namesNone nothingNamed = true) ∧
    (FrameUpdate.inRange (capacity 500001) = true ∧ FrameUpdate.namesNone (capacity 500001) = false) ∧ FrameUpdate.inRange (capacity 500000) = true ∧
    ready.xhc.locked = true ∧
    ({ moving .cell .test with xhc := State.reset.xhc }.xhc.locked = false ∧ (moving .cell .test).mar.active ≠ none) ∧
    State.reset.xhc.locked = false ∧ State.reset.mar.active = none ∧
    configFits State.reset (FrameUpdate.applyTo (capacity 500001) State.reset.xhc.config) ∧
    ¬ configFits State.reset (FrameUpdate.applyTo (capacity 500000) State.reset.xhc.config) := by decide

/-- A write of range 1's site table is in flight. -/
def programmingNow : State :=
  { State.reset with cal := { State.reset.cal with
    site := State.reset.cal.site.put .r1 { validity := .programming, points := [] },
    inFlight := some { range := .r1, points := range2 } } }

theorem test_meets_RangeSet :
    ¬ ((1 : Int) ≤ 0 ∧ (0 : Int) ≤ 4) ∧ ¬ ((1 : Int) ≤ 5 ∧ (5 : Int) ≤ 4) ∧ rangeNumber .r1 = 1 ∧ rangeNumber .r4 = 4 ∧
    (testing .running 1).tex.test ≠ none ∧ (programmingNow.tex.test = none ∧ programmingNow.cal.inFlight ≠ none) ∧
    (ready.tex.test = none ∧ ready.cal.inFlight = none ∧ ready.ldc.range = .r4 ∧ ready.ldc.range ≠ .r1) := by decide

/-- A last valid gross force. -/
def gross (g : Int) : State := { ready with ldc := { ready.ldc with lastValidGross := some g } }

/-- The bound of R29 as `TareTakesTheLastGrossForce` states it. -/
abbrev tarable (s : State) (g : Int) : Prop :=
  g * 100 ≤ s.xhc.config.fcap * 5 ∧ -(g * 100) ≤ s.xhc.config.fcap * 5

theorem test_meets_TareTakesTheLastGrossForce :
    (testing .running 1).tex.test ≠ none ∧ (programmingNow.tex.test = none ∧ programmingNow.cal.inFlight ≠ none) ∧
    (ready.tex.test = none ∧ ready.cal.inFlight = none ∧ ready.ldc.lastValidGross = none) ∧
    ((gross (-30000)).ldc.lastValidGross = some (-30000) ∧ tarable (gross (-30000)) (-30000)) ∧
    ((gross 30001).ldc.lastValidGross = some 30001 ∧ ¬ tarable (gross 30001) 30001) := by decide

/-- What a DEFINE PLAN with one stage and a preload force gives. -/
def preloading (n : Int) : Plan := { plan with preloadForce := n, extRequired := true, stages := [timedStage] }

theorem test_meets_PlanDefined :
    planOf { allDefaults with preloadForce := some 60000 } [timedStage] = some (preloading 60000) ∧
    planOf { allDefaults with preloadForce := some 60001 } [timedStage] = some (preloading 60001) ∧
    planForm (preloading 60000) = true ∧ planForm (preloading 60001) = true ∧
    planFitsFrame ready.xhc.config (preloading 60000) = true ∧ planFitsFrame ready.xhc.config (preloading 60001) = false ∧
    ((testing .running 1).tex.test = some (context .running 1) ∧ (context .running 1).planId = 0 ∧
      (context .running 1).planId ≠ 7) ∧ ready.tex.test = none := by decide +kernel

theorem test_meets_ReadPlan :
    ¬ ((0 : Int) ≤ -1 ∧ (-1 : Int) ≤ 7) ∧ ¬ ((0 : Int) ≤ 8 ∧ (8 : Int) ≤ 7) ∧ (((7 : Fin 8).val : Int) = 7) ∧
    State.reset.tex.plans[(7 : Fin 8)] = none ∧ ready.tex.plans[(0 : Fin 8)] = some plan := by decide +kernel

theorem test_meets_HoldTest :
    (testing .preload 1).tex.test = some (context .preload 1) ∧ (context .preload 1).phase = .preload ∧
    (testing .placing 1).tex.test = some (context .placing 1) ∧ (context .placing 1).phase = .placing ∧
    (testing .running 1).tex.test = some (context .running 1) ∧ (context .running 1).phase = .running ∧
    ready.tex.test = none ∧ (testing (.tail 0) 1).tex.test = some (context (.tail 0) 1) ∧
    (testing (.held .gate .running) 1).tex.test = some (context (.held .gate .running) 1) := by decide

/-- The inputs with the gate open. -/
def gateOpened (s : State) : State := { s with inputs := { s.inputs with gateOpen := true } }

theorem test_meets_ResumeTestReleases :
    (testing (.held .sequencer .running) 1).tex.test = some (context (.held .sequencer .running) 1) ∧
    (context (.held .sequencer .running) 1).phase = .held .sequencer .running ∧
    (gateOpened (testing (.held .sequencer .running) 1)).inputs.gateOpen = true ∧
    (testing (.held .sequencer .running) 1).inputs.gateOpen = false ∧ ready.tex.test = none := by decide

/-! ### A sample arrival in a test -/

/-- A test run on another plan. -/
def onPlan (p : Plan) (s : State) : State :=
  { s with tex := { s.tex with plans := Vector.replicate 8 (some p), test := s.tex.test.map fun t => { t with plan := p } } }

/-- The test peak at a force, the number of an earlier sample. -/
def peaked (f : Int) (s : State) : State :=
  { s with ldc := { s.ldc with peak := some { force := f, number := 3, stress := 0, strain := 0 } } }

/-- The extensometer in a state, with a gauge length of 50 mm. -/
def armed (e : ExtState) (s : State) : State :=
  { s with exc := { s.exc with state := e, basis := some { le := some 50000, lc := 70000, p0 := 100000, h := 0 } } }

theorem test_arrivalInTest (phase : TestPhase) (index : Nat) :
    ArrivalInTest (testing phase index) (context phase index) (mounted .testing) ⟨none, 70000, 100000, 0⟩ .r4 ⟨0, 100010⟩ :=
  ⟨rfl, rfl, rfl, rfl, ⟨9, rfl⟩, rfl, rfl⟩

theorem test_goodSample (phase : TestPhase) (index : Nat) : GoodSample (testing phase index) .r4 100 :=
  ⟨rfl, by decide, (by decide : (1000 : Int) ≤ 600000 * 105)⟩

/-- 100 counts are 10 N on range 4; without a peak of the fracture floor nothing breaks (R124). -/
theorem test_unbroken (s : State) (p : Plan) (h : s.ldc.peak = none) (hp : 10 < p.fractureFloor) : Unbroken s p 10 := by
  rintro fm (⟨rfl, _⟩ | ⟨_, hk, _⟩)
  · exact .inl hp
  · rw [h] at hk; cases hk

theorem test_netForce (phase : TestPhase) (index : Nat) : netForce (testing phase index) .r4 100 = 10 := by
  rfl

theorem test_meets_AbortTestCloses :
    (testing .running 1).tex.test = some (context .running 1) ∧ (testing .running 1).spt.slot = some (mounted .testing) ∧
    (testing .running 1).mar.active = some { port := .sequencer, tag := 9, job := .test } ∧
    (testing .running 1).mar.queue = [] ∧ (testing .running 1).xhc.config.holdTime ≠ 0 ∧ PortsSound (testing .running 1) ∧
    ¬ tailPhase (testing .running 1) ∧ tailPhase (testing (.tail 3) 1) :=
  ⟨rfl, rfl, rfl, rfl, by decide, test_ports _ rfl, (by rintro ⟨_, h⟩; cases h), 3, rfl⟩

/-- A stage that nothing ends. -/
def openStage : StageDef := { timedStage with timeoutMs := 0 }

/-- A test in that stage, its loop computing. -/
def rating : State :=
  { onPlan { plan with stages := [openStage] } (testing .running 1) with rlp := ⟨.xhRate, some 100, none, .seeded, 0⟩ }

/-- R139: at XH_RATE the set-point is the rate, in nm/s; an INVALID sample leaves the loop (R141). -/
theorem test_loop_at_an_arrival :
    left (exec (.sampleArrival 100) rating) (fun u => (u.phase, u.exc.state, u.rlp)) =
      some (some .running, .parked, ⟨.xhRate, some 100, none, .seeded, 100000⟩) ∧
    left (exec (.sampleArrival 100) { rating with ldc := { rating.ldc with settle := 1 } })
        (fun u => (u.phase, u.ldc.latest.map (·.invalid), u.rlp)) =
      some (some .running, some true, rating.rlp) := by decide +kernel

theorem test_meets_RateAdjusted_arrival :
    ArrivalInTest rating { context .running 1 with plan := { plan with stages := [openStage] } } (mounted .testing)
      ⟨none, 70000, 100000, 0⟩ .r4 ⟨0, 100010⟩ ∧
    stageAt { plan with stages := [openStage] } 1 = some openStage ∧
    (∀ y k h, StageGoesOn { plan with stages := [openStage] } ⟨1, 100, 1500000, false, false⟩ openStage y k h) ∧
    rating.inputs.gateOpen = false ∧ rating.rlp.rate = some 100 ∧ GoodSample rating .r4 100 :=
  ⟨⟨rfl, rfl, rfl, rfl, ⟨9, rfl⟩, rfl, rfl⟩, rfl, fun _ _ _ => .inl rfl, rfl, rfl, ⟨rfl, by decide, by decide⟩⟩

theorem test_meets_RateAdjusted :
    (testing .running 1).tex.test = some (context .running 1) ∧ (context .running 1).phase = .running ∧
    (context (.held .gate .running) 2).phase = .held .gate .running ∧
    (context .running 1).stage = some ⟨1, 100, 1500000, false, false⟩ ∧ stageAt plan 1 = some timedStage ∧
    stageAt plan 2 = some holdStage ∧ holdStage.mode = .hold ∧ timedStage.mode ≠ .hold ∧
    rateInRange timedStage.mode 20000 = true ∧ rateInRange timedStage.mode 20001 = false := by decide

/-- The cell waits behind the sequencer. -/
def waited : State := { ready with mar := { ready.mar with waiter := some .cell } }

theorem test_meets_ClaimAnsweredAndReleased :
    State.reset.mar.holder = none ∧ ready.mar.holder = some .sequencer ∧ Port.sequencer ≠ .cell ∧
    ((testing .running 1).mar.holder = some .sequencer ∧ (testing .running 1).tex.test ≠ none) ∧
    ((moving .cell toTheTop).mar.holder = some .cell ∧ (moving .cell toTheTop).tex.test = none ∧
      (moving .cell toTheTop).mar.active = some ⟨.cell, 9, toTheTop⟩) ∧
    (ready.mar.active = none ∧ ready.mar.queue = [] ∧ ready.mar.waiter = none) ∧
    (waited.mar.active = none ∧ waited.mar.queue = [] ∧ waited.mar.waiter = some .cell) ∧
    (waited.mar.holder ≠ some .cell ∧ ∀ rq ∈ waited.mar.queue, rq.port ≠ .cell) ∧
    (ready.mar.holder ≠ some .cell ∧ ready.mar.waiter ≠ some .cell) := by decide

/-- The drive HOLDING, its hold timer running. -/
def held (s : State) : State := { s with xhc := holdingDrive s.xhc }

/-- The lower hard-limit switch active. -/
def atLower (s : State) : State := { s with inputs := { s.inputs with lowerLimit := true } }

/-- The crosshead at the upper soft limit. -/
def atTop (s : State) : State := { s with xhc := { s.xhc with position := s.xhc.config.upperSoft } }

theorem test_ready (s : State) (p : Port) (hm : s.mar = { (frame (some p)).mar with holder := some p }) (hi : s.inputs.estop = false)
    (hg : s.inputs.gateOpen = false) (hl : s.ldc.loadFault = false) : ReadyFor p s := by
  constructor <;> first | assumption | (rw [hm]; done) | (rw [hm]; cases p <;> rfl)

theorem test_meets_MotionStartsFromRest :
    (ReadyFor .sequencer ready ∧ LimitsClear ready ∧ ready.xhc.drive = .disabled ∧ ready.xhc.referenceValid = true ∧
      clampTo ready.xhc.config.lowerSoft ready.xhc.config.upperSoft 2000000 = 1100000 ∧
      ready.xhc.config.band < (((1100000 : Int) - ready.xhc.position).natAbs : Int) ∧ (10000 : Int) ≤ ready.xhc.config.vmax ∧
      ready.xhc.config.band < (((100006 : Int) - ready.xhc.position).natAbs : Int)) ∧
    (ReadyFor .sequencer (held ready) ∧ LimitsClear (held ready) ∧ (held ready).xhc.drive = .holding ∧
      startedSearch (held ready) = .downward) ∧
    (ReadyFor .cell (held (frame (some .cell))) ∧ LimitsClear (held (frame (some .cell))) ∧
      (held (frame (some .cell))).tex.test = none ∧
      (frame (some .cell)).xhc.config.band < (((1000000 : Int) - (frame (some .cell)).xhc.position).natAbs : Int)) :=
  ⟨⟨test_ready _ _ rfl rfl rfl rfl, ⟨rfl, rfl⟩, by decide, by decide, by decide, by decide, by decide, by decide⟩,
    ⟨test_ready _ _ rfl rfl rfl rfl, ⟨rfl, rfl⟩, by decide, by decide⟩,
    ⟨test_ready _ _ rfl rfl rfl rfl, ⟨rfl, rfl⟩, by decide, by decide⟩⟩

theorem test_meets_MotionStartsFromRest_jog :
    (ReadyFor .cell (atLower (frame (some .cell))) ∧ (atLower (frame (some .cell))).xhc.drive = .disabled ∧
      (atLower (frame (some .cell))).inputs.lowerLimit = true ∧ ¬ limitAhead (atLower (frame (some .cell))).inputs .up) ∧
    (ReadyFor .cell (held (frame (some .cell))) ∧ (held (frame (some .cell))).xhc.drive = .holding ∧
      atSoftLimit (held (frame (some .cell))).xhc .up = false ∧ ¬ limitAhead (held (frame (some .cell))).inputs .up) ∧
    (ReadyFor .cell (atTop (held (frame (some .cell)))) ∧ (atTop (held (frame (some .cell)))).xhc.drive = .holding ∧
      atSoftLimit (atTop (held (frame (some .cell)))).xhc .up = true ∧
      (atTop (held (frame (some .cell)))).xhc.config.holdTime ≠ 0) :=
  ⟨⟨test_ready _ _ rfl rfl rfl rfl, by decide, by decide, by unfold limitAhead; decide⟩,
    ⟨test_ready _ _ rfl rfl rfl rfl, by decide, by decide, by unfold limitAhead; decide⟩,
    ⟨test_ready _ _ rfl rfl rfl rfl, by decide, by decide, by decide⟩⟩

/-- R113 with a preload force of 0: the first valid sample ends preload, though its force is −10 N; with 500 N it does not. -/
theorem test_preload_of_zero :
    left (exec (.sampleArrival (-100)) (onPlan { plan with preloadForce := 0 } (testing .preload 1)))
        (fun u => (u.phase, u.ldc.latest.map (·.force))) = some (some .running, some (-10)) ∧
    left (exec (.sampleArrival (-100)) (testing .preload 1)) (fun u => u.phase) = some (some .preload) := by decide +kernel

/-- R47 at the end of preload, the extensometer required: ACTIVE from ATTACHED, PLACING from PARKED. -/
theorem test_preload_ends :
    left (exec (.sampleArrival 6000) (onPlan { plan with extRequired := true } (armed .attached (testing .preload 1))))
        (fun u => (u.phase, u.exc.state)) = some (some .running, .active) ∧
    left (exec (.sampleArrival 6000) (onPlan { plan with extRequired := true } (armed .parked (testing .preload 1))))
        (fun u => (u.phase, u.exc.state)) = some (some .placing, .placeRequested) := by decide +kernel

theorem test_meets_StartTestActivates_arrival :
    ArrivalInTest (testing .preload 1) (context .preload 1) (mounted .testing) ⟨none, 70000, 100000, 0⟩ .r4 ⟨0, 100010⟩ ∧
    PortsSound (testing .preload 1) ∧ (context .preload 1).phase = .preload ∧ GoodSample (testing .preload 1) .r4 100 ∧
    Unbroken (testing .preload 1) plan 10 ∧ (testing .preload 1).inputs.gateOpen = false ∧
    (testing .preload 1).xhc.position < (testing .preload 1).xhc.config.upperSoft ∧ stageAt plan 1 = some timedStage ∧
    HasRoom (context .preload 1) ∧ (plan.preloadForce ≠ 0 ∧ (10 : Int) < plan.preloadForce) ∧
    netForce (testing .preload 1) .r4 5000 = plan.preloadForce :=
  ⟨test_arrivalInTest _ _, test_ports _ rfl, rfl, test_goodSample _ _, test_unbroken _ _ rfl (by decide), rfl, by decide, rfl,
    by unfold HasRoom; decide, by decide, by decide⟩

theorem test_meets_StartTestActivates :
    ReadyFor .sequencer ready ∧ LimitsClear ready ∧ ready.xhc.drive = .disabled ∧ (held ready).xhc.drive = .holding ∧
    ready.tex.test = none ∧
    ready.spt.slot = some (mounted .mounted) ∧ ready.tex.plans[(mounted .mounted).specimen.plan] = some plan ∧
    plan.extRequired ≠ true ∧ planFitsFrame ready.xhc.config plan = true ∧ ready.xhc.referenceValid = true ∧
    ready.pif.faults = ⟨false, false, false, false, false, false⟩ ∧ ready.cal.inFlight = none ∧ ready.rsl.reserved = false ∧
    ready.rsl.results.length < 8 :=
  ⟨test_ready _ _ rfl rfl rfl rfl, ⟨rfl, rfl⟩, rfl, rfl, rfl, rfl, by decide +kernel, by decide, by decide, rfl, rfl, rfl, rfl,
    by decide⟩

/-- The cell waits while the sequencer's motion is active. -/
def cellBehind : State :=
  { moving .sequencer toTheTop with mar := { (moving .sequencer toTheTop).mar with waiter := some .cell } }

theorem test_meets_MotionRequestsMeetOthers_queue :
    cellBehind.inputs.estop = false ∧ cellBehind.ldc.loadFault = false ∧ LimitsClear cellBehind ∧
    cellBehind.mar.waiter = some .cell ∧ cellBehind.mar.active = some ⟨.sequencer, 9, toTheTop⟩ ∧
    (∀ rq ∈ cellBehind.mar.queue, rq.port ≠ .cell) ∧ cellBehind.mar.slot .cell = none ∧
    cellBehind.xhc.referenceValid = true ∧ Port.cell ≠ .sequencer :=
  ⟨rfl, rfl, ⟨rfl, rfl⟩, rfl, rfl, by decide, rfl, rfl, by decide⟩

/-- R76: the retract position is 1,000,000 µm, and the band 5 µm. -/
theorem test_meets_MotionRequestsMeetOthers_retract :
    (clampTo cellBehind.xhc.config.lowerSoft cellBehind.xhc.config.upperSoft cellBehind.xhc.config.retractPosition = 1000000 ∧
      cellBehind.xhc.drive = .moving ∧ cellBehind.tex.test = none ∧ cellBehind.mar.cellSlot = none ∧
      cellBehind.xhc.config.band < (((1000000 : Int) - cellBehind.xhc.position).natAbs : Int)) ∧
    ((((1000000 : Int) - 999995).natAbs : Int) ≤ cellBehind.xhc.config.band ∧ cellBehind.mar.queue = [] ∧
      cellBehind.xhc.config.holdTime ≠ 0) ∧
    (let s := moving .sequencer (.search .downward)
     { s with xhc := { s.xhc with referenceValid := false } }.xhc.referenceValid = false) := by decide

/-- The cell's own jog active, MOVING. -/
def jogging : State := moving .cell (.jog .up 500 100)

theorem test_meets_MotionRequestsMeetOthers_refresh :
    (jogging.mar.active = some ⟨.cell, 9, .jog .up 500 100⟩ ∧ jogging.inputs.estop = false ∧ jogging.xhc.drive = .moving ∧
      atSoftLimit jogging.xhc .down = false ∧ ¬ limitAhead jogging.inputs .down ∧ 1 ≤ jogging.xhc.config.jogLimit) ∧
    limitAhead (atLower jogging).inputs .down ∧
    (atSoftLimit (atTop jogging).xhc .up = true ∧ jogging.mar.queue = [] ∧ jogging.xhc.config.holdTime ≠ 0) ∧
    { jogging with xhc := { jogging.xhc with drive := .releasing } }.xhc.drive = .releasing :=
  ⟨⟨rfl, rfl, rfl, by decide, by unfold limitAhead; decide, by decide⟩, rfl, by decide, rfl⟩

/-- R89 at an open gate: with the claim free, and with the sequencer its holder. -/
theorem test_meets_MotionRequestsMeetOthers_claim :
    (let s := { held (frame none) with inputs := { (frame none).inputs with gateOpen := true } }
     s.inputs.gateOpen = true ∧ s.mar.holder = none ∧ s.mar.waiter = none ∧ s.mar.active = none ∧ s.mar.queue = [] ∧
       s.mar.cellSlot = none ∧ s.xhc.drive = .holding ∧ atSoftLimit s.xhc .up = false) ∧
    (ready.inputs.gateOpen = false ∧ ready.mar.holder ≠ some .cell ∧ ready.mar.holder ≠ none ∧ ready.mar.waiter ≠ some .cell ∧
      (∀ rq ∈ ready.mar.queue, ¬ Eligible ready rq)) :=
  ⟨by decide, rfl, by decide, by decide, by decide, (by intro rq h; cases h)⟩

/-- R78 and R89: the refresh's word goes out at once; the pendant's JOG makes the cell the waiter. -/
theorem test_jog_refresh_and_claim :
    left (exec (.jog cellReq .down 20000 100) jogging) (fun u => (u.xhc.word, u.xhc.jogTimer)) = some (-1000000, some 100) ∧
    left (exec (.jog cellReq .down 5 100) { ready with inputs := { ready.inputs with gateOpen := true } })
      (fun u => (u.mar.waiter, u.mar.queue.map (·.tag), u.mar.active)) = some (some .cell, [7], none) := by decide +kernel

/-- The cell's request is queued behind the sequencer's motion. -/
def cellQueued : State :=
  { cellBehind with mar := { cellBehind.mar with queue := [⟨.cell, 7, .moveTo 20000 100⟩] } }

/-- A completion record waits in the sequencer's slot. -/
def filed : Completion :=
  { kind := .moveTo, tag := 9, outcome := .done, reason := none, position := some 100000, serial := none }

theorem test_meets_MotionStoppedAndCollected :
    cellQueued.mar.queue = [⟨.cell, 7, .moveTo 20000 100⟩] ∧
    ((testing .running 1).mar.queue = [] ∧ (testing .running 1).mar.active = some testMotion ∧ testMotion.job = .test) ∧
    ((moving .cell toTheTop).mar.active = some ⟨.cell, 9, toTheTop⟩ ∧ toTheTop ≠ .test ∧
      (moving .cell toTheTop).xhc.config.holdTime ≠ 0) ∧
    (ready.mar.queue = [] ∧ ready.mar.active = none ∧ ready.mar.slot .sequencer = none) ∧
    { ready.mar with seqSlot := some filed }.slot .sequencer = some filed := by decide

/-- The coupon queued. -/
def queued : State := { State.reset with spt := { queue := [⟨coupon, .normal⟩], slot := none } }

/-- A full specimen queue behind a mounted coupon. -/
def fullQueue : State :=
  { ready with spt := { ready.spt with queue := List.replicate 16 ⟨{ coupon with id := [66] }, .normal⟩ } }

theorem test_meets_SpecimenMountedAndUnmounted :
    textForm 1 12 coupon.id = true ∧ (∀ x ∈ some (200 : Int), 200 ≤ x ∧ x ≤ 100000) ∧ queued.spt.slot = none ∧
    queued.spt.queue = [] ++ ⟨coupon, .normal⟩ :: [] ∧ coupon.dims = .round 10000 ∧
    ¬ (100 ≤ areaOf (.round ((some 1125).getD 10000)) ∧ areaOf (.round ((some 1125).getD 10000)) ≤ 5000000) ∧
    (100 ≤ areaOf (.round ((some 1126).getD 10000)) ∧ areaOf (.round ((some 1126).getD 10000)) ≤ 5000000) ∧
    (100 ≤ areaOf (.round 10000) ∧ areaOf (.round 10000) ≤ 5000000) ∧ State.reset.spt.slot = none ∧
    (testing .running 1).spt.slot = some (mounted .testing) ∧ ready.spt.slot = some (mounted .mounted) ∧
    ready.spt.queue.length < 16 ∧ 16 ≤ fullQueue.spt.queue.length := by decide

/-- A test in a phase, the extensometer in a state with its timers. -/
def extensometer (phase : TestPhase) (e : ExtState) (placement removal : Option Int) : State :=
  { testing phase 1 with
    ldc := { (testing phase 1).ldc with conversion := none },
    exc := { (testing phase 1).exc with
      state := e, placement := placement, removal := removal,
      lastActive := some { ext := 4000, xh := 3500, number := some 9 } } }

theorem test_meets_ExtensometerArmsAnswered :
    (ready.exc.state = .parked ∧ ready.tex.test = none) ∧
    ((testing .running 1).exc.state = .parked ∧ (testing .running 1).tex.test ≠ none) ∧
    ((extensometer .placing .placeRequested (some 0) none).exc.state = .placeRequested ∧
      (extensometer .placing .placeRequested (some 0) none).tex.test = some (context .placing 1) ∧
      (extensometer .placing .placeRequested (some 0) none).exc.basis = some ⟨none, 70000, 100000, 0⟩ ∧
      (extensometer .placing .placeRequested (some 0) none).ldc.conversion = none ∧ stageAt plan 1 = some timedStage) ∧
    { ready with exc := { ready.exc with state := .attached } }.exc.state = .attached ∧
    ((extensometer (.held .extRemoval .running) .fault none (some 0)).exc.state = .fault ∧
      (context (.held .extRemoval .running) 1).phase = .held .extRemoval .running) ∧
    (extensometer (.held .extRemoval .running) .removeRequested none (some 0)).exc.state = .removeRequested ∧
    ((extensometer .running .active none none).exc.state = .active ∧
      (extensometer .running .active none none).exc.lastActive = some ⟨4000, 3500, some 9⟩ ∧
      (extensometer .running .active none none).exc.basis = some ⟨none, 70000, 100000, 0⟩) := by decide

/-- The coupon as ENQUEUE SPECIMEN brings it. -/
def couponParams (id : Text) (rush : Bool) : SpecimenParams :=
  { id := id, heat := [], grade := 3, shape := .round, width := none, thickness := none, diameter := some 10000, le := none,
    lc := 70000, plan := 0, rush := rush, retestOf := [] }

/-- A queue of each band. -/
def bands : List QueuedSpecimen :=
  [⟨{ coupon with id := [66] }, .returned⟩, ⟨{ coupon with id := [67] }, .rush⟩, ⟨{ coupon with id := [68] }, .normal⟩]

theorem test_meets_SpecimenEnqueuedAndCancelled :
    specimenOf (couponParams [65, 49] true) = some { coupon with rush := true } ∧
    specimenOf (couponParams [65, 49] false) = some coupon ∧ (∃ q ∈ queued.spt.queue, q.specimen.id = coupon.id) ∧
    (ready.spt.slot = some (mounted .mounted) ∧ (mounted .mounted).specimen.id = coupon.id) ∧
    ((∀ q ∈ bands, q.specimen.id ≠ coupon.id) ∧ bands = bands.take 2 ++ bands.drop 2 ∧
      (∀ q ∈ bands.take 2, q.band ≠ .normal) ∧ (∀ q ∈ bands.drop 2, q.band = .normal) ∧ bands.length < 16) ∧
    ((∀ q ∈ fullQueue.spt.queue, q.specimen.id ≠ coupon.id) ∧ 16 ≤ fullQueue.spt.queue.length) ∧
    textForm 1 12 [] = false ∧ textForm 1 12 (List.replicate 12 65) = true ∧ textForm 1 12 (List.replicate 13 65) = false ∧
    (bands = bands.take 1 ++ ⟨{ coupon with id := [67] }, .rush⟩ :: bands.drop 2 ∧
      ∀ x ∈ bands.take 1, x.specimen.id ≠ [67]) := by decide +kernel

/-- Six bounds, the yield minimum `a` and the maximum `b`. -/
def yieldBounds (a b : Int) : GradeLimits := ⟨some a, some b, none, none, none, none⟩

theorem test_meets_GradeLimitsSet :
    recReq.port = .record ∧ (∀ x ∈ (none : Option GradeLimits), limitsForm x = true) ∧
    (∀ x ∈ some (yieldBounds 40000 40000), limitsForm x = true) ∧
    (∃ x ∈ some (yieldBounds 40000 39999), limitsForm x = false) :=
  ⟨rfl, by simp, by decide, _, rfl, by decide⟩

/-- Grade 31 has bounds. -/
def graded : State :=
  { State.reset with rsl := { State.reset.rsl with limits := State.reset.rsl.limits.set 31 (some (yieldBounds 0 1)) } }

theorem test_meets_ReadGradeLimits :
    seqReq.port ≠ .record ∧ ¬ ((0 : Int) ≤ -1 ∧ (-1 : Int) ≤ 31) ∧ ¬ ((0 : Int) ≤ 32 ∧ (32 : Int) ≤ 31) ∧
    ((31 : Fin 32).val : Int) = 31 ∧ State.reset.rsl.limits[(31 : Fin 32)] = none ∧
    graded.rsl.limits[(31 : Fin 32)] = some (yieldBounds 0 1) := by decide +kernel

/-- A closed test's record. -/
def record : ResultRecord :=
  { serial := 1, specimen := coupon, used := .round 10000, measured := ⟨false, false, false⟩, area := 7854,
    closure := .complete, results := finalResults plan true none evaluation,
    flags := ⟨false, false, false, false, false, false, false⟩, taken := 0, stored := 0, thinned := 0, lost := 0, events := [],
    dropped := 0, yieldUsed := none, ratio := none, verdict := .notChecked, failing := [] }

theorem test_meets_Results_arrival :
    ArrivalInTest (testing .running 1) (context .running 1) (mounted .testing) ⟨none, 70000, 100000, 0⟩ .r4 ⟨0, 100010⟩ ∧
    GoodSample (testing .running 1) .r4 100 ∧ Unbroken (testing .running 1) plan 10 ∧
    (testing .running 2).inputs.gateOpen = false ∧ (testing .running 1).exc.state ≠ .active ∧ HasRoom (context .running 1) :=
  ⟨test_arrivalInTest _ _, test_goodSample _ _, test_unbroken _ _ rfl (by decide), rfl, by decide, by unfold HasRoom; decide⟩

/-- The search of a closed fit, at a sample that crosses the offset line from 5,045,000 above it (8.3). -/
def searchingYield : State :=
  let v : Evaluation :=
    { evaluation with
      fit := ⟨.valid, 8, 7200, 13960, 8160000, 16008000, some 205000, some 49⟩,
      search := ⟨.searching, some (14300, 5045000), none⟩ }
  { (armed .active (testing .running 2)) with
    tex := { ready.tex with serial := 1, test := some { context .running 2 with rev := v } },
    ldc := { (testing .running 2).ldc with
      conversion := some { range := .r4, latch := some { extCount := 4589, position := 100010 } } } }

/-- R157: strain 9,178 µε and stress 14,310 lie beyond the line, so the search is FOUND there. -/
theorem test_yield_found :
    left (exec (.sampleArrival 1123907) searchingYield)
        (fun u => (u.ldc.latest.bind (·.stress), u.ldc.latest.map (·.strain), u.tex.test.map (·.rev.search.state))) =
      some (some 14310, some 9178, some .found) := by decide +kernel

theorem test_meets_ResultsCollectedAndPeeked :
    State.reset.rsl.results = [] ∧
    { State.reset with rsl := { State.reset.rsl with results := [record, record] } }.rsl.results = record :: [record] :=
  ⟨rfl, rfl⟩

/-- An earlier test's page, handed over, in a store that captures. -/
def pageHeld : State :=
  { testing .running 1 with
    cps := { full := [⟨0, 0, 0, true, [], false⟩], capture := some capturing } }

/-- A store with so many FULL pages, a page open or not, at a test whose peak stands above its samples. -/
def storing (full : Nat) (filling : Option CapturePage) : State :=
  { peaked 1000 (testing .running 2) with
    cps := { full := List.replicate full ⟨0, 0, 0, true, [], false⟩, capture := some { capturing with filling := filling } } }

/-- R179 to R182: sample 10 at a factor of 3 is thinned; at a factor of 1 it opens a page, or is lost when none is FREE. -/
theorem test_capture_of_a_sample :
    left (exec (.sampleArrival 100) (onPlan { plan with divisor := 3 } (storing 0 none)))
        (fun u => u.cps.capture.map fun c => (c.taken, c.stored, c.thinned)) = some (some (11, 10, 1)) ∧
    left (exec (.sampleArrival 100) (storing 127 none))
        (fun u => u.cps.capture.map fun c => (c.stored, c.lost, c.level, c.filling.map (·.entries.length))) =
      some (some (11, 0, 3, some 1)) ∧
    left (exec (.sampleArrival 100) (storing 128 none))
        (fun u => u.cps.capture.map fun c => (c.stored, c.lost, c.lossRun)) = some (some (10, 1, true)) := by decide +kernel

theorem test_meets_PageReadAndFreed_arrival :
    ArrivalInTest (storing 127 none) (context .running 2) (mounted .testing) ⟨none, 70000, 100000, 0⟩ .r4 ⟨0, 100010⟩ ∧
    (storing 127 none).cps.capture = some { capturing with filling := none } ∧ PortsSound (storing 127 none) ∧
    HasRoom (context .running 2) ∧ (storing 127 none).cps.full.length < 128 ∧ 128 ≤ (storing 128 none).cps.full.length ∧
    (storing 0 (some ⟨1, 0, 0, false, [], true⟩)).cps.capture =
      some { capturing with filling := some ⟨1, 0, 0, false, [], true⟩ } :=
  ⟨⟨rfl, rfl, rfl, rfl, ⟨9, rfl⟩, rfl, rfl⟩, rfl, test_ports _ rfl, by unfold HasRoom; decide, by simp [storing], by simp [storing], rfl⟩

theorem test_meets_PageReadAndFreed :
    CaptureSound pageHeld ∧ pageHeld.cps.full = ⟨0, 0, 0, true, [], false⟩ :: [] ∧ State.reset.cps.full = [] :=
  ⟨⟨by decide, by decide, by decide, by decide, by decide⟩, rfl, rfl⟩

theorem test_meets_SiteCalibrationProgrammed :
    ready.tex.test = none ∧ ready.cal.inFlight = none ∧ tableForm range2 = true ∧ tableForm (range2.take 1) = false ∧
    programmingNow.cal.inFlight = some ⟨.r1, range2⟩ ∧ range2.take 1 ≠ range2 := by decide

theorem test_meets_ReadCalibration :
    (programmingNow.cal.site.get .r1).validity = .programming ∧ (programmingNow.cal.site.get .r4).validity ≠ .programming := by
  decide

theorem test_meets_ResetsLeave :
    (programmingNow.cal.site.get .r1).validity = .programming ∧ (ready.cal.site.get .r1).validity ≠ .programming := by decide

/-- A conversion in flight, after some misses. -/
def missing (n : Nat) : State :=
  { ready with ldc := { ready.ldc with conversion := some ⟨.r4, none⟩, missCount := n } }

theorem test_meets_ExpiryAndStrobe :
    (ready.tex.test = none ∧ ready.mar.active = none ∧ ready.ldc.loadFault = false ∧ ready.ldc.conversion = none) ∧
    ((missing 2).ldc.conversion = some ⟨.r4, none⟩ ∧ (missing 2).ldc.missCount < 3) ∧ (missing 3).ldc.missCount = 3 ∧
    (testing .running 1).ldc.conversion = some { range := .r4, latch := some ⟨0, 100010⟩ } ∧
    ((testing .running 1).tex.test = some (context .running 1) ∧
      (context .running 1).stage = some ⟨1, 100, 1500000, false, false⟩ ∧ (testing .running 1).ldc.loadFault = false ∧
      (testing .running 1).exc.placement = none ∧ (testing .running 1).ldc.missCount ≠ 3 ∧
      (context (.held .gate .running) 1).phase ≠ .running) := by decide

/-- The extensometer ACTIVE in a RUNNING test, its tracker at 500 µε and 5 N. -/
def gripping (p : Plan) : State :=
  let s := onPlan p (armed .active (testing .running 2))
  { s with exc := { s.exc with tracker := some ⟨500, 8, 5, 140⟩ } }

def gone : Plan := { plan with removalMode := .goOn, removalStrain := 0, slipThreshold := 600, stages := [openStage, openStage] }

/-- R59, R51, R54: a strain 500 below the tracker's is slip; a removal strain reached asks for the arms and, in HOLD mode, holds;
with neither the arms stay. -/
theorem test_handover_at_an_arrival :
    left (exec (.sampleArrival 100) (gripping { gone with slipThreshold := 200 })) (fun u => (u.exc.state, u.phase)) =
      some (.fault, some .running) ∧
    left (exec (.sampleArrival 100) (gripping { gone with removalStrain := -1, removalMode := .hold }))
        (fun u => (u.exc.state, u.phase)) = some (.removeRequested, some (.held .extRemoval .running)) ∧
    left (exec (.sampleArrival 100) (gripping gone)) (fun u => (u.exc.state, u.phase)) = some (.active, some .running) := by
  decide +kernel

theorem test_meets_ExtensometerTimeouts_arrival :
    ArrivalInTest (gripping gone) { context .running 2 with plan := gone } (mounted .testing) ⟨some 50000, 70000, 100000, 0⟩ .r4
      ⟨0, 100010⟩ ∧
    PortsSound (gripping gone) ∧ (gripping gone).exc.state = .active ∧ (context .running 2).phase = .running ∧
    (gripping gone).inputs.gateOpen = false ∧ GoodSample (gripping gone) .r4 100 ∧ netForce (gripping gone) .r4 100 = 10 ∧
    Unbroken (gripping gone) gone 10 ∧ HasRoom (context .running 2) ∧
    ((0 : Int) < 500 - 200 ∧ (5 : Int) ≤ 10) :=
  ⟨⟨rfl, rfl, rfl, rfl, ⟨9, rfl⟩, rfl, rfl⟩, test_ports _ rfl, rfl, rfl, rfl, ⟨rfl, by decide, by decide⟩, by decide,
    test_unbroken _ _ rfl (by decide),
    by unfold HasRoom; decide, by decide⟩

theorem test_meets_ExtensometerTimeouts :
    ((extensometer .placing .placeRequested (some 59999000) none).tex.test = some (context .placing 1) ∧
      (extensometer .placing .placeRequested (some 59999000) none).exc.placement = some 59999000 ∧
      (extensometer .placing .placeRequested (some 59999000) none).exc.removal = none ∧
      (extensometer .placing .placeRequested (some 59999000) none).ldc.conversion = none ∧
      (extensometer .placing .placeRequested (some 59999000) none).ldc.loadFault = false ∧
      plan.placementTimeout * 1000000 ≤ 59999000 + 1000) ∧
    ((context (.held .extRemoval .running) 1).phase = .held .extRemoval .running ∧
      (extensometer (.held .extRemoval .running) .fault none (some 29999000)).exc.removal = some 29999000 ∧
      (extensometer (.held .extRemoval .running) .fault none (some 29999000)).exc.placement = none ∧
      plan.removalMode = .hold ∧ plan.removalTimeout * 1000000 ≤ 29999000 + ready.ldc.sampleInterval) := by decide

/-- A strobed conversion on the mounted coupon, no test in progress. -/
def strobed : State :=
  { ready with ldc := { ready.ldc with conversion := some ⟨.r4, some ⟨0, 100000⟩⟩ } }

/-- R35: in range 3 an OVER_RANGE sample raises the range, the settle count starts afresh and the sample is INVALID; R38: a valid
sample above the peak is the new one. -/
theorem test_step_up_and_peak :
    left (exec (.sampleArrival 8000000)
        (let s := onPlan { plan with autoRange := true, stages := [openStage] } (testing .running 1)
         { s with ldc := { s.ldc with range := .r3, conversion := some ⟨.r3, some ⟨0, 100010⟩⟩ } }))
        (fun u => (u.ldc.range, u.ldc.settle, u.ldc.latest.map (·.invalid))) = some (.r4, 4, some true) ∧
    left (exec (.sampleArrival 100) (peaked 9 (testing .running 2))) (fun u => u.ldc.peak.map (·.force)) = some (some 10) := by
  decide +kernel

theorem test_meets_ArrivalPublishesASample_inTest :
    ArrivalInTest (testing .running 2) (context .running 2) (mounted .testing) ⟨none, 70000, 100000, 0⟩ .r4 ⟨0, 100010⟩ ∧
    (¬ ((8000000 : Int) ≤ 7999999 ∨ (7999999 : Int) ≤ -8000000)) ∧ (testing .running 2).exc.state ≠ .active ∧
    HasRoom (context .running 2) :=
  ⟨test_arrivalInTest _ _, by decide, by decide, by unfold HasRoom; decide⟩

/-- A code in flight, latched at a position. -/
def latched (p : Int) (s : State) : State := { s with ldc := { s.ldc with conversion := some ⟨.r4, some ⟨0, p⟩⟩ } }

/-- The worked MOVE TO of 4.6: a working target of 1,100,000 µm at 5,000 µm/s, marked clamped. -/
def workedMove : State := moving .sequencer (.move 1100000 5000 true 0)

theorem test_worked_move :
    left (exec (.sampleArrival 0) (latched 1097995 workedMove)) (fun u => u.xhc.word) = some 5000000 ∧
    left (exec (.sampleArrival 0) (latched 1098000 workedMove)) (fun u => u.xhc.word) = some 200000 ∧
    left (exec (.sampleArrival 0) (latched 1099995 workedMove))
      (fun u => (u.xhc.word, u.xhc.drive, u.mar.seqSlot.map (·.outcome))) = some (0, .holding, some .doneClamped) := by
  decide +kernel

theorem test_meets_ArrivalPublishesASample_motion :
    (let s := latched 1098000 workedMove
     s.tex.test = none ∧ s.mar.active = some ⟨.sequencer, 9, .move 1100000 5000 true 0⟩ ∧ s.xhc.drive = .moving ∧
       s.mar.queue = [] ∧ s.xhc.config.holdTime ≠ 0 ∧ s.ldc.conversion = some ⟨.r4, some ⟨0, 1098000⟩⟩ ∧
       ¬ s.xhc.config.fcap * 105 < ((netForce s .r4 0).natAbs : Int) * 100 ∧
       s.xhc.config.band < (((1100000 : Int) - 1099994).natAbs : Int) ∧
       (((1100000 : Int) - 1099995).natAbs : Int) ≤ s.xhc.config.band ∧
       towardSoftLimit s.xhc (profileAt s.xhc.config 5000 2000) = false) ∧
    ((8000000 : Int) ≤ 8000000 ∧ towardSoftLimit (atTop jogging).xhc (500 * 1000) = true) := by decide +kernel

theorem test_meets_ArrivalPublishesASample :
    strobed.tex.test = none ∧ strobed.mar.active = none ∧ strobed.mar.queue = [] ∧ strobed.exc.basis = none ∧
    strobed.ldc.conversion = some { range := .r4, latch := some ⟨0, 100000⟩ } ∧ strobed.spt.slot = some (mounted .mounted) := by
  decide

/-- A RUNNING test that has carried 100,000 N, its last valid sample known. -/
def carrying : State :=
  let s := peaked 100000 (testing .running 2)
  { s with tex := { s.tex with test := s.tex.test.map fun t => { t with rev := { t.rev with lastValid := some ⟨9, 99000, 0, 0, .xh⟩ } } } }

/-- R124: 10 N is below 20 % of the peak. -/
theorem test_fracture :
    left (exec (.sampleArrival 100) carrying) (fun u => (u.phase, u.tex.test.map (·.fractureNumber))) =
      some (some (.tail 0), some (some 9)) := by decide +kernel

theorem test_meets_ArrivalJudgesTheTest_fracture :
    ArrivalInTest carrying
      { context .running 2 with rev := { evaluation with lastValid := some ⟨9, 99000, 0, 0, .xh⟩ } } (mounted .testing)
      ⟨none, 70000, 100000, 0⟩ .r4 ⟨0, 100010⟩ ∧
    (∀ n, (context .running 2).phase ≠ .tail n) ∧ GoodSample carrying .r4 100 ∧ netForce carrying .r4 100 = 10 ∧
    carrying.ldc.peak = some ⟨100000, 3, 0, 0⟩ ∧ plan.fractureFloor ≤ 100000 ∧
    (10 : Int) * 100 < 100000 * plan.fractureFraction ∧ plan.tailSamples ≠ 0 ∧ HasRoom (context .running 2) :=
  ⟨⟨rfl, rfl, rfl, rfl, ⟨9, rfl⟩, rfl, rfl⟩, (by intro n h; cases h), ⟨rfl, by decide, by decide⟩, by decide, rfl, by decide,
    by decide, by decide, by unfold HasRoom; decide⟩

/-- A stage that ends after 1500 ms, or that times out then, with timeout action SUCCESSOR. -/
def ending (k : EndKind) (ms : Option Int) (timeout : Int) : StageDef :=
  { openStage with endKind := k, endValue := ms, timeoutMs := timeout, timeoutAction := .successor }

/-- A RUNNING test 1.5 s into a stage of two alike, on a sample to come. -/
def staged (d : StageDef) (index : Nat) : State := onPlan { plan with stages := [d, d] } (testing .running index)

/-- R117, R118: at 1500 ms stage 1 gives way to stage 2 by its end condition or its timeout; stage 2, the last, is marked. -/
theorem test_stage_judged :
    left (exec (.sampleArrival 100) (staged (ending .timeGe (some 1500) 0) 1)) (fun u => u.tex.test.map (·.stage)) =
      some (some (some (enteredStage 2 openStage))) ∧
    left (exec (.sampleArrival 100) (staged (ending .timeGe (some 1501) 1500) 1)) (fun u => u.tex.test.map (·.stage)) =
      some (some (some (enteredStage 2 openStage))) ∧
    left (exec (.sampleArrival 100) (staged (ending .timeGe (some 1500) 1500) 2)) (fun u => u.tex.test.map (·.stage)) =
      some (some (some ⟨2, 100, 1500000, true, false⟩)) ∧
    left (exec (.sampleArrival 100) (staged (ending .never none 1500) 2)) (fun u => u.tex.test.map (·.stage)) =
      some (some (some ⟨2, 100, 1500000, false, true⟩)) := by decide +kernel

/-- R117, R118: at 1500 ms a stage that ends at 1501 ms and times out at 1502 ms goes on, though stage 2 follows it. -/
theorem test_meets_RateAdjusted_stage (y : SampleSet) (k : TrackerState) (h : Bool) :
    successorStage { plan with stages := [openStage, openStage] } ⟨1, 100, 1500000, false, false⟩
      (ending .timeGe (some 1501) 1502) ≠ none ∧
    StageGoesOn { plan with stages := [openStage, openStage] } ⟨1, 100, 1500000, false, false⟩
      (ending .timeGe (some 1501) 1502) y k h := by
  refine ⟨by decide, .inr ⟨?_, by decide⟩⟩
  simp only [EndReached, ending, openStage, timedStage]; decide

theorem test_meets_ArrivalJudgesTheTest_stage (d : StageDef) (index : Nat) :
    ArrivalInTest (staged d index) { context .running index with plan := { plan with stages := [d, d] } } (mounted .testing)
      ⟨none, 70000, 100000, 0⟩ .r4 ⟨0, 100010⟩ ∧
    (context .running index).stage = some ⟨index, 100, 1500000, false, false⟩ ∧ stageAt { plan with stages := [d, d] } 1 = some d ∧
    (staged d index).inputs.gateOpen = false ∧ GoodSample (staged d index) .r4 100 ∧
    Unbroken (staged d index) { plan with stages := [d, d] } (netForce (staged d index) .r4 100) :=
  ⟨⟨rfl, rfl, rfl, rfl, ⟨9, rfl⟩, rfl, rfl⟩, rfl, rfl, rfl, ⟨rfl, by decide, (by decide : (1000 : Int) ≤ 600000 * 105)⟩,
    test_unbroken _ _ rfl (by show (10 : Int) < 2000; decide)⟩

theorem test_meets_ArrivalJudgesTheTest_ends (y : SampleSet) (k : TrackerState) (h : Bool) :
    EndReached ⟨1, 100, 1500000, false, false⟩ (ending .timeGe (some 1500) 0) y k h ∧
    ¬ EndReached ⟨1, 100, 1500000, false, false⟩ (ending .timeGe (some 1501) 1500) y k h ∧
    (ending .timeGe (some 1501) 1500).timeoutMs * 1000 ≤ 1500000 ∧
    successorStage { plan with stages := [openStage, openStage] } ⟨1, 100, 1500000, false, false⟩ openStage = some (2, openStage) ∧
    successorStage { plan with stages := [openStage, openStage] } ⟨2, 100, 1500000, false, false⟩ openStage = none := by
  refine ⟨?_, ?_, by decide, by decide, by decide⟩ <;> simp only [EndReached, ending, openStage, timedStage] <;> decide

theorem test_meets_ArrivalJudgesTheTest :
    (∀ a t', a = arrivalForExecutive 100 .r4 ⟨0, 100010⟩ (testing .running 1) → a.s.tex.test = some t' →
      ¬ EndReached ⟨1, 100, 1500000, false, false⟩ timedStage a.set t'.rev.tracker.state t'.handoverMark) ∧
    ((testing .running 1).tex.test = some (context .running 1) ∧ (context .running 1).stage = some ⟨1, 100, 1500000, false, false⟩ ∧
      stageAt plan 1 = some timedStage ∧ timedStage.timeoutAction = .abort ∧
      timedStage.timeoutMs ≠ 0 ∧ timedStage.timeoutMs * 1000 ≤ 1500000 ∧
      (testing .running 1).spt.slot = some (mounted .testing) ∧ (testing .running 1).mar.active = some testMotion ∧
      (testing .running 1).mar.queue = [] ∧ (testing .running 1).inputs.gateOpen = false ∧ (testing .running 1).ldc.settle = 0 ∧
      (testing .running 1).ldc.conversion = some ⟨.r4, some ⟨0, 100010⟩⟩ ∧
      sampleOverloaded 600000 (loadSample 100 .r4 ⟨0, 100010⟩ (testing .running 1)) = false ∧
      fractures (testing .running 1) (loadSample 100 .r4 ⟨0, 100010⟩ (testing .running 1)) = false) ∧
    ((context (.tail 63) 1).phase = .tail 63 ∧ plan.tailSamples ≤ 63 + 1 ∧
      sampleOverloaded 600000 (loadSample 100 .r4 ⟨0, 100010⟩ (testing (.tail 63) 1)) = false) :=
  ⟨fun _ _ _ _ h => h, by decide +kernel, by decide +kernel⟩

/-- A frame whose drive is RELEASING for a motion. -/
def releasing (j : ActiveJob) : State :=
  { moving .sequencer j with xhc := { State.reset.xhc with drive := .releasing, brakeTimer := some 200 } }

theorem test_meets_DriveTimersExpire :
    { ready with xhc := holdingDrive ready.xhc }.xhc.drive = .holding ∧
    ((releasing .test).xhc.drive = .releasing ∧ (releasing .test).mar.active = some ⟨.sequencer, 9, .test⟩) ∧
    ((releasing (.search .waiting)).mar.active = some ⟨.sequencer, 9, .search .waiting⟩) ∧
    ((releasing (.jog .up 5 100)).mar.active = some ⟨.sequencer, 9, .jog .up 5 100⟩ ∧
      atSoftLimit (releasing (.jog .up 5 100)).xhc .up = false) ∧
    (let s := atTop { releasing (.jog .up 5 100) with xhc := { ready.xhc with drive := .releasing, brakeTimer := some 200 } }
     atSoftLimit s.xhc .up = true ∧ s.mar.queue = [] ∧ s.xhc.config.holdTime ≠ 0) ∧
    (let s := { moving .cell (.jog .up 5 100) with xhc := { ready.xhc with drive := .moving, jogTimer := some 100 } }
     s.mar.active = some ⟨.cell, 9, .jog .up 5 100⟩ ∧ s.xhc.jogTimer ≠ none ∧ s.mar.queue = [] ∧ s.xhc.config.holdTime ≠ 0) := by
  decide

/-- A MOVE TO queued with nothing active. -/
def waiting : State :=
  { ready with mar := { ready.mar with queue := [⟨.sequencer, 9, .moveTo 2000000 1000⟩] } }

/-- A queue: the cell's request, which has not the claim, ahead of a sequencer's. -/
def behind (j : MotionJob) : State :=
  { ready with mar := { ready.mar with queue := [⟨.cell, 5, .moveTo 20000 100⟩, ⟨.sequencer, 9, j⟩] } }

/-- R94: a request without the claim is passed over, and the RETRACT behind it becomes active. -/
theorem test_ineligible_passed_over :
    left (exec .activation (behind .retract)) (fun u => (u.mar.active.map (·.tag), u.mar.queue.map (·.tag))) =
      some (some 9, [5]) := by decide +kernel

theorem test_meets_ActivationTakesTheFirstEligible :
    (testing .running 1).mar.active ≠ none ∧ (∀ rq ∈ ready.mar.queue, ¬ Eligible ready rq) ∧
    ((behind (.moveTo 2000000 1000)).mar.active = none ∧
      (behind (.moveTo 2000000 1000)).mar.queue =
        [⟨.cell, 5, .moveTo 20000 100⟩] ++ ⟨.sequencer, 9, .moveTo 2000000 1000⟩ :: [] ∧
      (∀ x ∈ [(⟨.cell, 5, .moveTo 20000 100⟩ : MotionRequest)], ¬ Eligible (behind (.moveTo 2000000 1000)) x) ∧
      ∀ j, Eligible (behind j) ⟨.sequencer, 9, j⟩) ∧
    (LimitsClear ready ∧ ready.inputs.gateOpen = false ∧ ready.xhc.referenceValid = true ∧ ready.xhc.drive = .disabled ∧
      (held ready).xhc.drive = .holding) ∧
    (clampTo ready.xhc.config.lowerSoft ready.xhc.config.upperSoft 2000000 = 1100000 ∧
      ready.xhc.config.band < (((1100000 : Int) - ready.xhc.position).natAbs : Int) ∧
      ready.xhc.config.band < (((100006 : Int) - ready.xhc.position).natAbs : Int)) ∧
    (clampTo ready.xhc.config.lowerSoft ready.xhc.config.upperSoft ready.xhc.config.retractPosition = 1000000 ∧
      ready.xhc.config.band < (((1000000 : Int) - ready.xhc.position).natAbs : Int)) ∧
    ((atLower ready).inputs.lowerLimit = true ∧ ¬ limitAhead (atLower ready).inputs .up ∧
      atSoftLimit (atTop (held ready)).xhc .up = true ∧ (atTop (held ready)).xhc.config.holdTime ≠ 0) :=
  ⟨by decide, (by intro rq h; cases h),
    ⟨rfl, rfl, (by intro x h e; simp only [List.mem_singleton] at h; subst h; rcases e.1 with h | h <;> cases h),
      fun _ => ⟨.inr rfl, (by intro h; cases h)⟩⟩,
    ⟨⟨rfl, rfl⟩, rfl, rfl, rfl, rfl⟩, by decide, by decide, ⟨rfl, by unfold limitAhead; decide, by decide, by decide⟩⟩

theorem test_meets_ActivationTakesTheFirstEligible_start :
    startRefusal (behind .startTest) = none ∧ (behind .startTest).spt.slot = some (mounted .mounted) ∧
    (behind .startTest).tex.plans[(mounted .mounted).specimen.plan] = some plan ∧
    startRefusal (gateOpened (behind .startTest)) = some .gateOpen := by decide +kernel

theorem test_meets_ActivationTakesTheFirstEligible_ends :
    ({ ready.inputs with upperLimit := true }.upperLimit = true ∧ State.reset.xhc.referenceValid = false ∧
      (gateOpened ready).inputs.gateOpen = true) ∧
    (clampTo ready.xhc.config.lowerSoft ready.xhc.config.upperSoft 100005 = 100005 ∧
      (((100005 : Int) - ready.xhc.position).natAbs : Int) ≤ ready.xhc.config.band) := by decide

/-- The frame at a position, its reference VALID or not. -/
def standing (p : Int) (valid : Bool) : State :=
  { ready with xhc := { ready.xhc with position := p, referenceValid := valid } }

/-- A search whose travel is at its limit. -/
def searching (phase : SearchPhase) : State :=
  { moving .sequencer (.search phase) with
    xhc := { State.reset.xhc with drive := .moving, searchTravel := State.reset.xhc.config.searchLimit } }

/-- A word in force. -/
def driven (word : Int) (s : State) : State := { s with xhc := { s.xhc with word := word } }

/-- R79: the edge that reaches the upper soft limit ends a MOVE TO STOPPED_LIMIT and aborts a test; the edge before it is counted. -/
theorem test_soft_limit_edge :
    left (exec (.encoderEdge .up) (driven 5 { workedMove with xhc := { workedMove.xhc with position := 1099999 } }))
      (fun u => (u.xhc.position, u.xhc.word, u.mar.seqSlot.map (·.outcome))) = some (1100000, 0, some .stoppedLimit) ∧
    left (exec (.encoderEdge .up) (driven 5 { workedMove with xhc := { workedMove.xhc with position := 1099998 } }))
      (fun u => (u.xhc.position, u.xhc.word)) = some (1099999, 5) ∧
    left (exec (.encoderEdge .down) (driven 5 (atTop (testing .running 1))))
      (fun u => (u.xhc.position, u.xhc.word)) = some (1099999, 5) := by decide +kernel

theorem test_meets_EdgesCountedAndSearchBounded_soft :
    (let x := { (driven 5 (atTop workedMove)).xhc with position := 1100000 }
     towardSoftLimit x x.word = true ∧ towardSoftLimit { x with position := 1099999 } x.word = false) ∧
    ((driven 5 workedMove).mar.active = some ⟨.sequencer, 9, .move 1100000 5000 true 0⟩ ∧ workedMove.mar.queue = [] ∧
      workedMove.xhc.config.holdTime ≠ 0) ∧
    ((testing .running 1).mar.active = some testMotion ∧ (testing .running 1).tex.test = some (context .running 1) ∧
      (testing .running 1).spt.slot = some (mounted .testing) ∧ 0 < (driven 5 (testing .running 1)).xhc.word ∧
      (driven (-5) (testing .running 1)).xhc.word < 0 ∧
      towardSoftLimit { (testing .running 1).xhc with position := 20000 } (-5) = true) := by decide

theorem test_meets_EdgesCountedAndSearchBounded :
    (-2000000 ≤ (standing 1999999 true).xhc.position + 1 ∧ (standing 1999999 true).xhc.position + 1 ≤ 2000000 ∧
      (standing 1999999 true).xhc.word = 0) ∧
    ((let s : State := { moving .cell toTheTop with xhc := (standing 2000000 true).xhc }
      2000000 < s.xhc.position + 1 ∧ s.mar.queue = [] ∧ s.xhc.config.holdTime ≠ 0 ∧ s.mar.active = some ⟨.cell, 9, toTheTop⟩ ∧
        toTheTop ≠ .test ∧ s.tex.test = none) ∧
      (let s : State := { testing .running 1 with xhc := (standing (-2000000) true).xhc }
       s.xhc.position + -1 < -2000000 ∧ s.mar.queue = [] ∧ s.xhc.config.holdTime ≠ 0 ∧ s.mar.active = some testMotion ∧
         s.tex.test = some (context .running 1) ∧ s.spt.slot = some (mounted .testing))) ∧
    (2000000 < (standing 2000000 true).xhc.position + 1 ∧ (standing 2000000 true).mar.active = none ∧
      (standing 2000000 true).tex.test = none ∧ (standing 2000000 true).xhc.referenceValid = true) ∧
    ((standing (-2000000) false).xhc.position + -1 < -2000000 ∧ (standing (-2000000) false).xhc.referenceValid = false) ∧
    ((searching .downward).mar.active = some ⟨.sequencer, 9, .search .downward⟩ ∧
      (searching .downward).xhc.config.searchLimit < (searching .downward).xhc.searchTravel + 1 ∧
      (searching .downward).mar.queue = [] ∧ (searching .downward).xhc.config.holdTime ≠ 0) ∧
    (let x := { (searching .downward).xhc with searchTravel := 1299999 + 1 }
     x.searchTravel ≤ x.config.searchLimit ∧ towardSoftLimit x x.word = false) := by decide

theorem test_meets_ReferenceSwitchChanges :
    (ready.inputs.referenceSwitch = false ∧ ready.mar.active = none) ∧
    ((searching .downward).inputs.referenceSwitch = false ∧
      (searching .downward).mar.active = some ⟨.sequencer, 9, .search .downward⟩ ∧ (searching .downward).mar.queue = [] ∧
      (searching .downward).xhc.config.holdTime ≠ 0) ∧
    (let s := { searching .upward with inputs := { State.reset.inputs with referenceSwitch := true } }
     s.inputs.referenceSwitch = true ∧ s.mar.active = some ⟨.sequencer, 9, .search .upward⟩) := by decide

theorem test_meets_HardLimitDisables :
    ready.inputs ≠ { ready.inputs with upperLimit := true } ∧ ready.inputs ≠ { ready.inputs with lowerLimit := true } ∧
    ready.tex.test = none ∧ ready.mar.active = none ∧
    ((moving .cell toTheTop).mar.active = some ⟨.cell, 9, toTheTop⟩ ∧ (moving .cell toTheTop).mar.queue = [] ∧
      toTheTop ≠ .test) ∧
    ((searching .downward).mar.active = some ⟨.sequencer, 9, .search .downward⟩ ∧ (searching .downward).tex.test = none) ∧
    ((testing .running 1).inputs ≠ { ready.inputs with upperLimit := true } ∧
      (testing .running 1).tex.test = some (context .running 1) ∧ (testing .running 1).spt.slot = some (mounted .testing) ∧
      (testing .running 1).mar.queue = [] ∧ (testing .running 1).mar.active = some testMotion) := by decide

/-- R73 and R81: a search ends EQUIPMENT_CHECK with both kinds entered; a test aborts, its drive DISABLED. -/
theorem test_hard_limit_in_search_and_test :
    left (exec (.hardLimitSwitchEvent .lower) (searching .downward))
      (fun u => (u.mar.seqSlot.map (·.outcome), u.pif.faults.equipmentCheck, u.pif.faults.hardLimit)) =
      some (some .equipmentCheck, true, true) ∧
    left (exec (.hardLimitSwitchEvent .upper) (testing .running 1))
      (fun u => (u.rsl.results.map (·.closure), u.xhc.drive)) = some ([.aborted .hardLimit], .disabled) := by decide +kernel

theorem test_meets_GateOpensAndCloses :
    (gateOpened ready).inputs.gateOpen = true ∧ (ready.inputs.gateOpen = false ∧ ready.tex.test = none ∧ ready.mar.active = none) ∧
    ((moving .sequencer toTheTop).mar.active = some { port := .sequencer, tag := 9, job := .move 1100000 1000 false 0 } ∧
      (moving .sequencer toTheTop).mar.queue = [] ∧ (moving .sequencer toTheTop).xhc.config.holdTime ≠ 0) ∧
    ((testing .placing 1).tex.test = some (context .placing 1) ∧
      (testing .placing 1).mar.active = some { port := .sequencer, tag := 9, job := .test }) ∧
    ((searching .downward).mar.active = some { port := .sequencer, tag := 9, job := .search .downward } ∧
      (searching .downward).mar.queue = [] ∧ (searching .downward).xhc.config.holdTime ≠ 0) ∧
    (jogging.mar.active = some { port := .cell, tag := 9, job := .jog .up 500 100 } ∧ jogging.xhc.drive = .moving ∧
      towardSoftLimit jogging.xhc (500 * 1000) = false ∧ towardSoftLimit (atTop jogging).xhc (500 * 1000) = true ∧
      jogging.mar.queue = [] ∧ jogging.xhc.config.holdTime ≠ 0) := by decide

/-- R70, R82: a cell move of 5,000 µm/s goes on at the jog limit of 1,000 µm/s. -/
theorem test_gate_slows_the_cell :
    left (exec .gateOpening (moving .cell (.move 1100000 5000 false 5000000))) (fun u => (u.xhc.word, u.xhc.drive)) =
      some (1000000, .moving) := by decide +kernel

/-- The emergency stop asserted on a frame at rest. -/
def stopped : State := { ready with inputs := { ready.inputs with estop := true } }

/-- The test in progress is one test (R128). -/
theorem test_oneTest : OneTest (testing .running 1) :=
  ⟨rfl, rfl, rfl, rfl, (by intro h; cases h), by decide, by decide, by decide⟩

theorem test_meets_EmergencyStopStopsAndRefuses :
    (testing .running 1).inputs.estop = false ∧ OneTest (testing .running 1) ∧ PortsSound (testing .running 1) ∧
    cellQueued.mar.queue = [⟨.cell, 7, .moveTo 20000 100⟩] ∧ stopped.inputs.estop = true ∧ (2000000 : Int) ≤ 2000000 ∧
    (10000 : Int) ≤ stopped.xhc.config.vmax :=
  ⟨rfl, test_oneTest, test_ports _ rfl, rfl, rfl, by decide, by decide⟩

/-! ### The standing conditions of a test in progress, a command waiting -/

/-- A RUNNING test, and HOLD TEST at the front of the queue. -/
def inTest : State := (testing .running 1).push (.holdTest seqReq)

theorem test_meets_OneTestKept : OneTest inTest ∧ ∃ t, step inTest = .next t :=
  ⟨⟨rfl, rfl, rfl, rfl, (by intro h; cases h), by decide, by decide, by decide⟩, _, rfl⟩

theorem test_meets_ClaimAndRequestsKept : ClaimOrdered inTest ∧ OneRequestPerPort inTest ∧ ∃ t, step inTest = .next t :=
  ⟨⟨by decide, by decide⟩,
    ⟨by decide, by decide, by decide, by decide, by decide, by decide, by decide, by decide, by decide⟩, _, rfl⟩

theorem test_driveSound : DriveSound inTest := ⟨by decide, by decide, by decide, by decide, by decide⟩

theorem test_configSound : ConfigSound inTest := by constructor <;> decide

theorem test_meets_DriveKept : OneTest inTest ∧ ConfigSound inTest ∧ DriveSound inTest ∧ ∃ t, step inTest = .next t :=
  ⟨test_meets_OneTestKept.1, test_configSound, test_driveSound, _, rfl⟩

theorem test_meets_WordKept :
    OneTest inTest ∧ ConfigSound inTest ∧ DriveSound inTest ∧ WordAllowed inTest ∧ ∃ t, step inTest = .next t :=
  ⟨test_meets_OneTestKept.1, test_configSound, test_driveSound, ⟨by decide, by decide, by decide, by decide, by decide⟩, _, rfl⟩

/-- START TEST sent while the emergency stop is asserted. -/
theorem test_meets_EmergencyStopKept :
    OneTest (stopped.push (.startTest seqReq)) ∧ EstopHolds (stopped.push (.startTest seqReq)) ∧
    (stopped.push (.startTest seqReq)).inputs.estop = true ∧ ∃ t, step (stopped.push (.startTest seqReq)) = .next t :=
  ⟨⟨rfl, rfl, rfl, rfl, fun _ => rfl, by decide, by decide, by decide⟩, fun _ => by decide, rfl, _, rfl⟩

theorem test_meets_FrameAndPositionKept : ConfigSound inTest ∧ PositionSound inTest ∧ ∃ t, step inTest = .next t :=
  ⟨test_configSound, ⟨by decide, by decide⟩, _, rfl⟩

/-- A placement asked for in PLACING, and a sample timer expiry to come. -/
def inPlacing : State := (extensometer .placing .placeRequested (some 59999000) none).push .sampleTimerExpiry

theorem test_meets_ExtensometerTimersKept : TimersSound inPlacing ∧ ∃ t, step inPlacing = .next t :=
  ⟨⟨by decide, by decide, fun _ => ⟨by decide, by rintro ⟨_, h⟩; cases h⟩⟩, _, rfl⟩

theorem test_plansSound : PlansSound inTest := ⟨by decide +kernel, by decide +kernel⟩

theorem test_meets_PlansKept : OneTest inTest ∧ PlansSound inTest ∧ ∃ t, step inTest = .next t :=
  ⟨test_meets_OneTestKept.1, test_plansSound, _, rfl⟩

theorem test_meets_SetPointKept :
    OneTest inTest ∧ ConfigSound inTest ∧ PlansSound inTest ∧ SetPointBounded inTest ∧ ∃ t, step inTest = .next t :=
  ⟨test_meets_OneTestKept.1, test_configSound, test_plansSound, ⟨by decide, by decide⟩, _, rfl⟩

/-- A queue of each band, and a RUSH coupon to come. -/
def inQueue : State :=
  { State.reset with spt := { queue := bands, slot := none } }.push (.enqueueSpecimen recReq (couponParams [65, 49] true))

theorem test_meets_SpecimensKept : SpecimensOrdered inQueue ∧ ∃ t, step inQueue = .next t :=
  ⟨⟨by decide, by decide, by decide, by decide⟩, _, rfl⟩

/-- Seven records and a test in progress. -/
def inResults : State :=
  { inTest with rsl := { inTest.rsl with results := List.replicate 7 record } }

theorem test_meets_ResultsKept : OneTest inResults ∧ ResultsFit inResults ∧ ∃ t, step inResults = .next t :=
  ⟨⟨rfl, rfl, rfl, rfl, (by intro h; cases h), by decide, by decide, by decide⟩, by unfold ResultsFit; decide, _, rfl⟩

theorem test_meets_CaptureKept :
    CaptureSound (pageHeld.push (.readPage recReq)) ∧ ∃ t, step (pageHeld.push (.readPage recReq)) = .next t :=
  ⟨⟨by decide, by decide, by decide, by decide, by decide⟩, _, rfl⟩

theorem test_meets_CountsKept : EventsFit inTest ∧ MissCountBounded inTest ∧ ∃ t, step inTest = .next t :=
  ⟨by unfold EventsFit; decide, by unfold MissCountBounded; decide, _, rfl⟩

theorem test_meets_PortsKept : PortsSound inTest ∧ ∃ t, step inTest = .next t :=
  ⟨test_ports _ rfl, _, rfl⟩

end Sys2Proof.Tests
end

section

/-! PROOF. The test in progress stays the same test (R108): the relation `SameTest`, and each shared operation and each work of a
sample arrival that keeps it. -/

namespace Sys2Proof.Machine

/-- `t` has the test of `s`: the specimens, whether the active motion is a test, the reservation, the capture's serial and the test's
identity are those of `s`, and outside a test the rate loop too. -/
structure SameTest (s t : State) : Prop where
  specimens : t.spt = s.spt
  active : testIsActive t = testIsActive s
  reserved : t.rsl.reserved = s.rsl.reserved
  capture : t.cps.capture.map CaptureContext.serial = s.cps.capture.map CaptureContext.serial
  test : t.tex.test.map TestContext.identity = s.tex.test.map TestContext.identity
  counter : t.tex.serial = s.tex.serial
  loop : s.tex.test = none → t.rlp = s.rlp

namespace SameTest

theorem rfl {s : State} : SameTest s s :=
  ⟨Eq.refl _, Eq.refl _, Eq.refl _, Eq.refl _, Eq.refl _, Eq.refl _, fun _ => Eq.refl _⟩

theorem idle_iff {s t : State} (h : SameTest s t) : t.tex.test = none ↔ s.tex.test = none := by
  rw [← Option.map_eq_none_iff, h.test, Option.map_eq_none_iff]

theorem trans {s t u : State} (h : SameTest s t) (k : SameTest t u) : SameTest s u where
  specimens := k.specimens.trans h.specimens
  active := k.active.trans h.active
  reserved := k.reserved.trans h.reserved
  capture := k.capture.trans h.capture
  test := k.test.trans h.test
  counter := k.counter.trans h.counter
  loop hs := (k.loop (h.idle_iff.2 hs)).trans (h.loop hs)

/-- A change of load channel, extensometer channel, crosshead controller, ports, calibration store and inputs alone keeps the test. -/
theorem of_otherParts {s t : State}
    (h : t = { s with
      ldc := t.ldc, exc := t.exc, xhc := t.xhc, pif := t.pif, cal := t.cal, inputs := t.inputs, freeDraws := t.freeDraws,
      pending := t.pending }) : SameTest s t := by
  rw [h]
  exact ⟨Eq.refl _, Eq.refl _, Eq.refl _, Eq.refl _, Eq.refl _, Eq.refl _, fun _ => Eq.refl _⟩

end SameTest

/-! ### Operations between arrivals that keep the test in progress -/

theorem updateTest_sameTest (f : TestContext → TestContext) (hf : ∀ t, (f t).identity = t.identity) (s : State) :
    SameTest s (updateTest f s) :=
  ⟨rfl, rfl, rfl, rfl, (updateTest_identity f hf s).1, rfl, fun _ => rfl⟩

theorem setPhase_sameTest (p : TestPhase) (s : State) : SameTest s (setPhase p s) :=
  updateTest_sameTest (fun t => { t with phase := p }) (fun _ => rfl) s

theorem setTestFlags_sameTest (f : TestFlags → TestFlags) (s : State) : SameTest s (setTestFlags f s) :=
  updateTest_sameTest (fun t => { t with flags := f t.flags }) (fun _ => rfl) s

theorem updateEvaluation_sameTest (f : Evaluation → Evaluation) (s : State) : SameTest s (updateEvaluation f s) :=
  updateTest_sameTest (fun t => { t with rev := f t.rev }) (fun _ => rfl) s

theorem holdTest_sameTest (c : HoldCause) (s : State) : SameTest s (holdTest c s) where
  specimens := by simp
  active := by simp [testIsActive]
  reserved := by simp
  capture := by simp
  test := by simp
  counter := by simp
  loop hs := by simp [holdTest, State.phase, hs]

theorem releaseTest_sameTest (s : State) : SameTest s (releaseTest s) where
  specimens := by simp
  active := by simp [testIsActive]
  reserved := by simp
  capture := by simp
  test := by simp
  counter := by simp
  loop hs := by simp [releaseTest, hs]

theorem leavePlacing_sameTest (s : State) : SameTest s (leavePlacing s) where
  specimens := by simp
  active := by simp [testIsActive]
  reserved := by simp
  capture := by simp
  test := by simp
  counter := by simp
  loop hs := by simp [leavePlacing, hs]

theorem enterFault_sameTest (k : FaultKind) (s : State) : SameTest s (enterFault k s) := by
  constructor <;> simp [testIsActive]

theorem advanceStage_sameTest (s : State) : SameTest s (advanceStage s) := by
  constructor <;> simp [testIsActive]

theorem driveHold_sameTest (s : State) : SameTest s (driveHold s) := by
  constructor <;> simp [testIsActive]

theorem clearActive_sameTest {s : State} (h : testIsActive s = false) : SameTest s (clearActive s) := by
  refine ⟨rfl, ?_, rfl, rfl, rfl, rfl, fun _ => rfl⟩
  rw [h]
  simp [testIsActive]

theorem activeMotion_not_test {s : State} {a : ActiveMotion} (h : activeMotion s = some a) : testIsActive s = false := by
  obtain ⟨ha, hj⟩ := Option.filter_eq_some_iff.1 h
  simpa [testIsActive, ha] using hj

theorem endMotion_sameTest (o : MotionOutcome) (s : State) : SameTest s (endMotion o s) := by
  unfold endMotion
  split
  next => exact .rfl
  next a h =>
    have filed : SameTest s (fileActiveEnd a o s) := by constructor <;> simp [testIsActive, fileActiveEnd]
    have idle : testIsActive (fileActiveEnd a o s) = false := by rw [filed.active, activeMotion_not_test h]
    exact (filed.trans (clearActive_sameTest idle)).trans (driveHold_sameTest _)

theorem endMotionDisabled_sameTest (o : MotionOutcome) (s : State) : SameTest s (endMotionDisabled o s) := by
  unfold endMotionDisabled
  split
  next => exact .rfl
  next a h =>
    have filed : SameTest s (fileActiveEnd a o s) := by constructor <;> simp [testIsActive, fileActiveEnd]
    exact filed.trans (clearActive_sameTest (by rw [filed.active, activeMotion_not_test h]))

/-- An active motion that is no test can be given other work that is no test (R71, R75, R78). -/
theorem setJob_sameTest {j : ActiveJob} {s : State} (hs : testIsActive s = false) (hj : j ≠ .test) : SameTest s (setJob j s) := by
  refine ⟨rfl, ?_, rfl, rfl, rfl, rfl, fun _ => rfl⟩
  rw [hs]
  cases h : s.mar.active <;> simp [testIsActive, h, hj]

theorem beginMotion_sameTest (s : State) : SameTest s (beginMotion s) := by
  unfold beginMotion
  split
  next h => exact setJob_sameTest (by simp [testIsActive, h]) (by simp)
  next =>
    split
    · exact endMotion_sameTest _ _
    · constructor <;> simp [testIsActive]
  next => exact .rfl

theorem startDrive_sameTest (s : State) : SameTest s (startDrive s) := by
  unfold startDrive
  split
  · constructor <;> simp [testIsActive]
  · refine SameTest.trans ?_ (beginMotion_sameTest _)
    constructor <;> simp [testIsActive]
  · exact .rfl
  · exact .rfl

theorem makeActive_sameTest {rq : MotionRequest} {j : ActiveJob} {s : State} (hs : testIsActive s = false) (hj : j ≠ .test) :
    SameTest s (makeActive rq j s) := by
  have active : SameTest s { s with mar := { s.mar with active := some { port := rq.port, tag := rq.tag, job := j } } } := by
    refine ⟨rfl, ?_, rfl, rfl, rfl, rfl, fun _ => rfl⟩
    rw [hs]
    simpa [testIsActive] using hj
  exact active.trans (startDrive_sameTest _)

/-- A START TEST made the active motion is a test (R111). -/
theorem testIsActive_makeActive (rq : MotionRequest) (s : State) : testIsActive (makeActive rq .test s) = true :=
  (startDrive_sameTest _).active

theorem endAtOnce_sameTest (b : Bool) (rq : MotionRequest) (o : MotionOutcome) (r : Option Reason) (s : State) :
    SameTest s (endAtOnce b rq o r s) := by
  simp only [endAtOnce]
  split <;> constructor <;> simp [testIsActive, fileRequestEnd]

theorem takeMove_sameTest {b : Bool} {rq : MotionRequest} {x v : Int} {s : State} (hs : testIsActive s = false) :
    SameTest s (takeMove b rq x v s) := by
  simp only [takeMove]
  split
  · exact endAtOnce_sameTest ..
  split
  · exact endAtOnce_sameTest ..
  split
  · exact endAtOnce_sameTest ..
  · exact makeActive_sameTest hs (by split <;> simp)

theorem addEvent_sameTest (k : EventKind) (v : Int) (s : State) : SameTest s (addEvent k v s) := by
  constructor <;> simp [testIsActive]

/-! ### A sample arrival's works that keep the test in progress -/

theorem overloadCheck_sameTest (a : Arrival) : SameTest a.s (overloadCheck a).s := by
  constructor <;> simp [testIsActive]

theorem stepUp_sameTest (a : Arrival) : SameTest a.s (stepUp a).s := by
  unfold stepUp
  split
  · exact .rfl
  split
  · simp only [mapState_fields]
    refine SameTest.trans ?_ (setTestFlags_sameTest _ _)
    constructor <;> simp [testIsActive]
  · exact .rfl

theorem formStrain_sameTest (a : Arrival) : SameTest a.s (formStrain a).s := by
  constructor <;> simp [testIsActive]

theorem updatePeak_sameTest (a : Arrival) : SameTest a.s (updatePeak a).s := by
  constructor <;> simp [testIsActive]

theorem formHandover_sameTest (a : Arrival) : SameTest a.s (formHandover a).s := by
  unfold formHandover
  split
  · constructor <;> simp [testIsActive]
  · split
    · constructor <;> simp [testIsActive]
    · exact .rfl
  · exact .rfl

theorem addSampleEvents_sameTest (es : List SampleEvent) (s : State) : SameTest s (addSampleEvents es s) := by
  unfold addSampleEvents
  induction es generalizing s with
  | nil => exact .rfl
  | cons e es ih => exact (addEvent_sameTest e.1 e.2 s).trans (ih _)

theorem evaluateArrival_sameTest (a : Arrival) : SameTest a.s (evaluateArrival a).s := by
  unfold evaluateArrival
  split
  · exact .rfl
  · exact (updateEvaluation_sameTest _ a.s).trans (addSampleEvents_sameTest _ _)

/-- In a test the rate loop is free to move (R131). -/
theorem SameTest.of_inTest {s t : State} (hs : s.tex.test ≠ none) (specimens : t.spt = s.spt)
    (active : testIsActive t = testIsActive s) (reserved : t.rsl.reserved = s.rsl.reserved)
    (capture : t.cps.capture.map CaptureContext.serial = s.cps.capture.map CaptureContext.serial)
    (test : t.tex.test.map TestContext.identity = s.tex.test.map TestContext.identity) (counter : t.tex.serial = s.tex.serial) :
    SameTest s t :=
  ⟨specimens, active, reserved, capture, test, counter, fun h => absurd h hs⟩

theorem SameTest.inTest {s t : State} (h : SameTest s t) (hs : s.tex.test ≠ none) : t.tex.test ≠ none :=
  mt h.idle_iff.1 hs

theorem setSetPoint_sameTest (v : Int) {s : State} (hs : s.tex.test ≠ none) : SameTest s (setSetPoint v s) :=
  .of_inTest hs rfl rfl rfl rfl rfl rfl

theorem enterStage_sameTest (i : Nat) (d : StageDef) {a : Arrival} (ha : a.s.tex.test ≠ none) :
    SameTest a.s (enterStage i d a).s := by
  apply SameTest.of_inTest ha <;> simp [testIsActive, enterStage]

theorem detectFracture_sameTest (a : Arrival) : SameTest a.s (detectFracture a).s := by
  unfold detectFracture
  split
  next h =>
    apply SameTest.of_inTest (by simp [h]) <;> simp [testIsActive, h, updateTest, TestContext.identity]
  next => exact .rfl

theorem endPreload_sameTest (p : Plan) {a : Arrival} (ha : a.s.tex.test ≠ none) : SameTest a.s (endPreload p a).s := by
  have preloaded : SameTest a.s (extPreloadEnd p.extRequired a.latch (addEvent .preloadEnd a.set.force a.s)) := by
    constructor <;> simp [testIsActive]
  have ended q := preloaded.trans (setPhase_sameTest q _)
  simp only [endPreload]
  split
  · exact (ended .placing).trans (setSetPoint_sameTest _ ((ended .placing).inTest ha))
  split
  · exact (ended .running).trans (enterStage_sameTest (a := { a with s := _ }) _ _ ((ended .running).inTest ha))
  · exact ended .running

theorem takeEnd_sameTest (p : Plan) (r : StageRun) (d : StageDef) {a : Arrival} (ha : a.s.tex.test ≠ none) :
    SameTest a.s (takeEnd p r d a).s := by
  unfold takeEnd
  split
  · exact enterStage_sameTest _ _ ha
  · constructor <;> simp [testIsActive]

theorem takeTimeout_sameTest (p : Plan) (r : StageRun) (d : StageDef) {a : Arrival} (ha : a.s.tex.test ≠ none) :
    SameTest a.s (takeTimeout p r d a).s := by
  have logged := addEvent_sameTest .stageTimeout r.index a.s
  simp only [takeTimeout]
  split
  · exact .rfl
  split
  · exact logged.trans (enterStage_sameTest (a := { a with s := _ }) _ _ (logged.inTest ha))
  · constructor <;> simp [testIsActive]

theorem judgeStage_sameTest (t : TestContext) {a : Arrival} (ha : a.s.tex.test ≠ none) : SameTest a.s (judgeStage t a).s := by
  unfold judgeStage
  split
  · exact .rfl
  split
  · exact .rfl
  split
  · exact takeEnd_sameTest _ _ _ ha
  split
  · exact takeTimeout_sameTest _ _ _ ha
  · exact .rfl

theorem countTail_sameTest (p : Plan) (n : Int) (a : Arrival) : SameTest a.s (countTail p n a).s := by
  simp only [countTail]
  split <;> exact setPhase_sameTest ..

theorem judgePhase_sameTest (t : TestContext) {a : Arrival} (ha : a.s.tex.test ≠ none) : SameTest a.s (judgePhase t a).s := by
  unfold judgePhase
  split
  · split
    · exact endPreload_sameTest _ ha
    · exact .rfl
  · split
    · exact .rfl
    · exact judgeStage_sameTest _ ha
  · exact countTail_sameTest ..
  · exact .rfl
  · exact .rfl

theorem removalHold_sameTest (p : Plan) (s : State) : SameTest s (removalHold p s) := by
  unfold removalHold
  split
  · exact holdTest_sameTest ..
  · exact .rfl

theorem handoverHold_sameTest (p : Plan) (a : Arrival) : SameTest a.s (handoverHold p a).s := by
  unfold handoverHold
  split
  · exact removalHold_sameTest ..
  · exact .rfl

theorem executiveTakes_sameTest (a : Arrival) : SameTest a.s (executiveTakes a).s := by
  unfold executiveTakes
  split
  next => exact .rfl
  next t ht =>
    have fractured := detectFracture_sameTest a
    have inTest : (detectFracture a).s.tex.test ≠ none := fractured.inTest (by simp [ht])
    refine fractured.trans ?_
    simp only []
    split
    · exact .rfl
    split
    · split <;> exact .rfl
    split
    · exact holdTest_sameTest ..
    · exact (judgePhase_sameTest t inTest).trans (handoverHold_sameTest ..)

theorem loopTakes_sameTest (a : Arrival) : SameTest a.s (loopTakes a).s where
  specimens := by simp
  active := by simp [testIsActive]
  reserved := by simp
  capture := by simp
  test := by simp
  counter := by simp
  loop hs := by simp [loopTakes, State.plan, hs]

theorem evaluateMove_sameTest (x : Int) (s : State) : SameTest s (evaluateMove x s) := by
  unfold evaluateMove
  split
  · split
    next h =>
      split
      · exact endMotion_sameTest ..
      · exact setJob_sameTest (by simp [testIsActive, h]) (by simp)
    next h =>
      split
      · exact endMotion_sameTest ..
      · exact setJob_sameTest (by simp [testIsActive, h]) (by simp)
    next => exact .rfl
  · exact .rfl

theorem motionTakes_sameTest (a : Arrival) : SameTest a.s (motionTakes a).s := by
  unfold motionTakes
  split
  · simp only [mapState_fields, overloadEnds]
    split
    · exact .rfl
    · exact endMotion_sameTest ..
  · exact evaluateMove_sameTest ..

theorem publish_sameTest (a : Arrival) : SameTest a.s (publish a).s := by
  constructor <;> simp [testIsActive]

theorem keepSample_captureSerial (e : CaptureEntry) (s : State) :
    (keepSample e s).cps.capture.map CaptureContext.serial = s.cps.capture.map CaptureContext.serial := by
  unfold keepSample
  split
  next => rfl
  next c h =>
    split
    · simp
    split
    · have opened : (openPage c e.number s).cps.capture.map CaptureContext.serial = s.cps.capture.map CaptureContext.serial := by
        simp [openPage, h]
      simp only []
      split <;> simp [opened]
    · simp

theorem captureSample_sameTest (k : Int) (b : Bool) (e : CaptureEntry) (s : State) : SameTest s (captureSample k b e s) where
  specimens := by simp
  active := by simp [testIsActive]
  reserved := by simp
  capture := by
    unfold captureSample
    split
    next => rfl
    next =>
      rw [updateCapture_serial _ (by simp)]
      split
      · rw [keepSample_captureSerial, updateCapture_serial _ (by simp)]
      · rw [updateCapture_serial _ (by simp), updateCapture_serial _ (by simp)]
  test := by simp
  counter := by simp
  loop := by simp

theorem captureTakes_sameTest (a : Arrival) : SameTest a.s (captureTakes a).s := by
  unfold captureTakes
  split
  · exact .rfl
  · exact captureSample_sameTest ..

end Sys2Proof.Machine

end

section

/-! PROOF. The course of a test (`TestCourse`): activation, the events of the lines, the timers, the edges and the arrivals. -/

namespace Sys2Proof.Machine

/-- `t` comes from `s` by changes that keep the test in progress, by closures of it (R128) and by activations of a test whose start
conditions hold (R110, R111): all that a command other than a reset and the specimens' four can do with test and specimens. -/
inductive TestCourse (s : State) : State → Prop
  | start : TestCourse s s
  | same {t u : State} : TestCourse s t → SameTest t u → TestCourse s u
  | closes {t : State} (c : Closure) : TestCourse s t → TestCourse s (closeTest c t)
  | starts {t : State} (rq : MotionRequest) (m : MountedSpecimen) (p : Plan) :
      TestCourse s t → startRefusal t = none → t.spt.slot = some m → TestCourse s (activateTest m p (makeActive rq .test t))

namespace TestCourse

theorem of_same {s t : State} (h : SameTest s t) : TestCourse s t :=
  start.same h

theorem trans {s t u : State} (h : TestCourse s t) (k : TestCourse t u) : TestCourse s u := by
  induction k with
  | start => exact h
  | same _ hs ih => exact ih.same hs
  | closes c _ ih => exact ih.closes c
  | starts rq m p _ hr hm ih => exact ih.starts rq m p hr hm

end TestCourse

/-! ### Activation (R94, R95) -/

theorem takeStartTest_course (rq : MotionRequest) (s : State) : TestCourse s (takeStartTest rq s) := by
  unfold takeStartTest
  split
  · exact .of_same (endAtOnce_sameTest ..)
  next startable =>
    split
    · exact .start
    next m slot =>
      split
      · exact .start
      next p _ => exact TestCourse.start.starts rq m p startable slot

theorem takeRequest_course (b : Bool) (rq : MotionRequest) {s : State} (hs : testIsActive s = false) :
    TestCourse s (takeRequest b rq s) := by
  unfold takeRequest
  split
  · exact .of_same (endAtOnce_sameTest ..)
  split
  · exact .of_same (takeMove_sameTest hs)
  · exact .of_same (takeMove_sameTest hs)
  · split
    · exact .of_same (endAtOnce_sameTest ..)
    · have searching : SameTest s (startSearch s) := by constructor <;> simp [testIsActive]
      exact .of_same (searching.trans (makeActive_sameTest (by rw [searching.active, hs]) (by simp)))
  · exact takeStartTest_course ..
  · exact .of_same (makeActive_sameTest hs (by simp))

theorem activationLoop_course (n : Nat) (s : State) : TestCourse s (activationLoop n s) := by
  induction n generalizing s with
  | zero => exact .start
  | succ n ih =>
    unfold activationLoop
    split
    · exact .start
    next idle =>
      split
      · exact .start
      next rq _ =>
        have unqueued : SameTest s (unqueue rq s) := by constructor <;> simp [testIsActive]
        have noTest : testIsActive (unqueue rq s) = false := by
          rw [unqueued.active]
          simp_all [testIsActive]
        exact ((TestCourse.of_same unqueued).trans (takeRequest_course false rq noTest)).trans (ih _)

theorem tryActivate_course (s : State) : TestCourse s (tryActivate s) :=
  activationLoop_course ..

theorem activateAfterEnd_course (b s : State) : TestCourse s (activateAfterEnd b s) := by
  unfold activateAfterEnd
  split
  · exact tryActivate_course s
  · exact .start

/-! ### Events of the drive and the lines -/

theorem abortTest_course (c : AbortCause) (s : State) : TestCourse s (abortTest c s) :=
  TestCourse.start.closes _

theorem sendWordValue_sameTest (w : Int) (s : State) : SameTest s (sendWordValue w s) := by
  constructor <;> simp [testIsActive]

theorem softLimitEvent_course (up : Bool) (s : State) : TestCourse s (softLimitEvent up s) := by
  have stopped := TestCourse.of_same (sendWordValue_sameTest 0 s)
  unfold softLimitEvent
  split
  · split
    · exact stopped.closes _
    · exact stopped
  · exact stopped
  · exact stopped.same (endMotion_sameTest ..)
  · exact stopped

theorem sendWord_course (s : State) : TestCourse s (sendWord s) := by
  unfold sendWord
  split
  · exact softLimitEvent_course ..
  · exact .of_same (sendWordValue_sameTest ..)

theorem setInputs_sameTest (i : Inputs) (s : State) : SameTest s (setInputs i s) := by
  constructor <;> simp [testIsActive]

theorem raiseGate_sameTest (s : State) : SameTest s (raiseGate s) := by
  constructor <;> simp [testIsActive]

theorem gateEndsMotion_sameTest (s : State) : SameTest s (gateEndsMotion s) := by
  unfold gateEndsMotion
  split
  · exact endMotion_sameTest ..
  · exact endMotion_sameTest ..
  · exact .rfl

theorem gateOpens_course (s : State) : TestCourse s (gateOpens s) := by
  unfold gateOpens
  split
  · exact .start
  · have opened := (setInputs_sameTest { s.inputs with gateOpen := true } s).trans (gateEndsMotion_sameTest _)
    have held := TestCourse.of_same (opened.trans (holdTest_sameTest .gate _))
    exact ((held.trans (sendWord_course _)).same (raiseGate_sameTest _)).trans (activateAfterEnd_course ..)

theorem gateCloses_course (s : State) : TestCourse s (gateCloses s) := by
  unfold gateCloses
  split
  · exact .of_same ((setInputs_sameTest _ s).trans (raiseGate_sameTest _))
  · exact .start

theorem limitEndsMotion_sameTest (s : State) : SameTest s (limitEndsMotion s) := by
  unfold limitEndsMotion
  split
  · exact (enterFault_sameTest ..).trans (endMotionDisabled_sameTest ..)
  · exact endMotionDisabled_sameTest ..

theorem driveDisable_sameTest (s : State) : SameTest s (driveDisable s) := by
  constructor <;> simp [testIsActive]

theorem hardLimitOn_course (side : LimitSide) (s : State) : TestCourse s (hardLimitOn side s) := by
  unfold hardLimitOn
  split
  · exact .start
  · have ended := ((setInputs_sameTest (setLimit side true s.inputs) s).trans (driveDisable_sameTest _)).trans
      (limitEndsMotion_sameTest _)
    exact ((TestCourse.of_same (ended.trans (enterFault_sameTest ..))).closes _).trans (activateAfterEnd_course ..)

theorem fileRequestEnd_sameTest (rq : MotionRequest) (o : MotionOutcome) (r : Option Reason) (s : State) :
    SameTest s (fileRequestEnd rq o r s) := by
  constructor <;> simp [testIsActive, fileRequestEnd]

theorem setMotionQueue_sameTest (q : List MotionRequest) (s : State) : SameTest s (setMotionQueue q s) := by
  constructor <;> simp [testIsActive]

theorem fileEnds_sameTest (l : List MotionRequest) (o : MotionOutcome) (s : State) :
    SameTest s (l.foldl (fun s rq => fileRequestEnd rq o none s) s) := by
  induction l generalizing s with
  | nil => exact .rfl
  | cons rq l ih => exact (fileRequestEnd_sameTest rq o none s).trans (ih _)

theorem stopQueue_sameTest (s : State) : SameTest s (stopQueue s) :=
  (setMotionQueue_sameTest [] s).trans (fileEnds_sameTest ..)

theorem raiseAll_sameTest (n : Notice) (s : State) : SameTest s (raiseAll n s) := by
  constructor <;> simp [testIsActive]

theorem emergencyStops_course (s : State) : TestCourse s (emergencyStops s) := by
  unfold emergencyStops
  split
  · exact .start
  · have stopped := ((setInputs_sameTest { s.inputs with estop := true } s).trans (driveDisable_sameTest _)).trans
      (stopQueue_sameTest _)
    exact ((TestCourse.of_same (stopped.trans (endMotionDisabled_sameTest .estop _))).closes _).same (raiseAll_sameTest ..)

theorem referenceSwitchOn_course (s : State) : TestCourse s (referenceSwitchOn s) := by
  unfold referenceSwitchOn
  split
  · exact .start
  · have switched := setInputs_sameTest { s.inputs with referenceSwitch := true } s
    simp only []
    split
    · have found : SameTest s (referenced (setInputs { s.inputs with referenceSwitch := true } s)) := by
        constructor <;> simp [testIsActive]
      exact (TestCourse.of_same (found.trans (endMotion_sameTest ..))).trans (activateAfterEnd_course ..)
    · exact .of_same switched

theorem searchPhase_not_test {s : State} {p : SearchPhase} (h : searchPhase s = some p) : testIsActive s = false := by
  unfold searchPhase at h
  split at h
  next hm => simp [testIsActive, hm]
  next => cases h

theorem referenceSwitchOff_course (s : State) : TestCourse s (referenceSwitchOff s) := by
  unfold referenceSwitchOff
  split
  · have switched := setInputs_sameTest { s.inputs with referenceSwitch := false } s
    simp only []
    split
    next up => exact .of_same (switched.trans (setJob_sameTest (by rw [switched.active, searchPhase_not_test up]) (by simp)))
    next => exact .of_same switched
  · exact .start

theorem verifyTable_sameTest (w : CalWrite) (l : List CalPoint) (s : State) : SameTest s (verifyTable w l s) := by
  constructor <;> simp [testIsActive]

theorem completeProgramming_sameTest (l : List CalPoint) (s : State) : SameTest s (completeProgramming l s) := by
  unfold completeProgramming
  split
  next => exact .rfl
  next w _ =>
    refine (verifyTable_sameTest w l s).trans ?_
    constructor <;> simp [testIsActive]

/-! ### Timers and edges -/

theorem declareLoadFault_course (s : State) : TestCourse s (declareLoadFault s) := by
  have faulted : SameTest s (enterFault .loadFault { s with ldc := { s.ldc with loadFault := true } }) := by
    constructor <;> simp [testIsActive]
  exact (TestCourse.of_same (faulted.trans (endMotion_sameTest ..))).closes _

theorem placementExpires_sameTest (s : State) : SameTest s (placementExpires s) := by
  refine SameTest.trans ?_ (leavePlacing_sameTest _)
  refine SameTest.trans ?_ (updateTest_sameTest (fun t => { t with handoverMark := true }) (fun _ => rfl) _)
  refine SameTest.trans ?_ (setTestFlags_sameTest _ _)
  exact .of_otherParts rfl

theorem removalExpires_sameTest (p : Plan) (s : State) : SameTest s (removalExpires p s) := by
  constructor <;> simp [testIsActive]

theorem advancePlacement_sameTest (p : Plan) (e : Expiry) : SameTest e.s (advancePlacement p e).s := by
  simp only [advancePlacement]
  split
  · exact SameTest.trans (.of_otherParts rfl) (placementExpires_sameTest _)
  · exact .of_otherParts rfl

theorem advanceRemoval_sameTest (p : Plan) (e : Expiry) : SameTest e.s (advanceRemoval p e).s := by
  simp only [advanceRemoval]
  split
  · exact SameTest.trans (.of_otherParts rfl) (removalExpires_sameTest p _)
  · exact .of_otherParts rfl

theorem beginExpiry_sameTest (s : State) : SameTest s (beginExpiry s).s := by
  refine SameTest.trans (t := startConversion s) ?_ (advanceStage_sameTest _)
  constructor <;> simp [testIsActive]

theorem advanceTimers_sameTest (e : Expiry) : SameTest e.s (advanceTimers e).s := by
  unfold advanceTimers
  split
  · exact (advancePlacement_sameTest ..).trans (advanceRemoval_sameTest ..)
  · exact .rfl

theorem declareAtExpiry_course (e : Expiry) : TestCourse e.s (declareAtExpiry e).s := by
  unfold declareAtExpiry
  split
  · exact declareLoadFault_course _
  · exact .start

theorem wordAtExpiry_course (e : Expiry) : TestCourse e.s (wordAtExpiry e).s := by
  unfold wordAtExpiry
  split
  · exact sendWord_course _
  · exact .start

theorem expire_course (s : State) : TestCourse s (expire s).s := by
  have timed := TestCourse.of_same ((beginExpiry_sameTest s).trans (advanceTimers_sameTest _))
  exact ((timed.trans (declareAtExpiry_course _)).trans (wordAtExpiry_course _)).trans (activateAfterEnd_course ..)

theorem boundMet_course (s : State) : TestCourse s (boundMet s) := by
  have unreferenced : SameTest s { s with xhc := { s.xhc with referenceValid := false } } :=
    .of_otherParts rfl
  unfold boundMet
  refine TestCourse.closes _ (TestCourse.of_same (SameTest.trans ?_ (endMotion_sameTest ..)))
  split
  · exact unreferenced.trans (enterFault_sameTest ..)
  · exact unreferenced

theorem softLimitAtEdge_course (s : State) : TestCourse s (softLimitAtEdge s) := by
  unfold softLimitAtEdge
  split
  · exact softLimitEvent_course ..
  · exact .start

theorem edge_course (d : Direction) (s : State) : TestCourse s (edge d s).s := by
  have counted : SameTest s (countEdge d s) := by constructor <;> simp [testIsActive]
  refine TestCourse.trans ?_ (activateAfterEnd_course ..)
  unfold workEdge
  split
  · exact boundMet_course s
  simp only []
  split
  · exact .of_same ((counted.trans (enterFault_sameTest ..)).trans (endMotion_sameTest ..))
  · exact (TestCourse.of_same counted).trans (softLimitAtEdge_course _)

theorem brakeReleased_course (s : State) : TestCourse s (brakeReleased s) := by
  unfold brakeReleased
  split
  · refine TestCourse.trans (.of_same (SameTest.trans ?_ (beginMotion_sameTest _))) (activateAfterEnd_course ..)
    exact .of_otherParts rfl
  · exact .start

/-! ### Arrivals (R24) -/

theorem wordTakes_course (a : Arrival) : TestCourse a.s (wordTakes a).s := by
  unfold wordTakes
  split
  · exact .of_same (sendWordValue_sameTest ..)
  split
  · split
    · split <;> exact .of_same (sendWordValue_sameTest ..)
    · exact softLimitEvent_course ..
  · exact .of_same (sendWordValue_sameTest ..)

theorem closeOrCount_course (a : Arrival) : TestCourse a.s (closeOrCount a).s := by
  unfold closeOrCount
  split
  · exact TestCourse.start.closes _
  · exact .of_same (updateTest_sameTest _ (fun _ => by rfl) _)

theorem beginArrival_sameTest (code : Int) (range : LoadRange) (l : Latch) (s : State) :
    SameTest s (beginArrival code range l s).s :=
  .of_otherParts rfl

theorem workArrival_course (code : Int) (range : LoadRange) (l : Latch) (s : State) :
    TestCourse s (workArrival code range l s).s := by
  have loaded := ((beginArrival_sameTest code range l s).trans (overloadCheck_sameTest _)).trans (stepUp_sameTest _)
  have formed := ((loaded.trans (formStrain_sameTest _)).trans (updatePeak_sameTest _)).trans (formHandover_sameTest _)
  have judged := (formed.trans (evaluateArrival_sameTest _)).trans (executiveTakes_sameTest _)
  have moved := (judged.trans (loopTakes_sameTest _)).trans (motionTakes_sameTest _)
  have published := ((TestCourse.of_same moved).trans (wordTakes_course _)).same (publish_sameTest _)
  exact (published.same (captureTakes_sameTest _)).trans (closeOrCount_course _)

theorem arrive_course {code : Int} {s : State} {a : Arrival} (h : arrive code s = some a) : TestCourse s a.s := by
  obtain ⟨c, _, rfl⟩ := Option.map_eq_some_iff.1 h
  refine (workArrival_course code c.1 c.2 s).trans ?_
  simp only [mapState_fields, activateAfterArrival]
  split
  · exact tryActivate_course _
  · exact activateAfterEnd_course ..

end Sys2Proof.Machine

end

section

/-! PROOF. The course of a test through the requests, and so through every command but those that move specimens. -/

namespace Sys2Proof.Machine

/-! ### Motion requests (R85 to R99) -/

theorem setClaim_sameTest (x y : Option Port) (s : State) : SameTest s (setClaim x y s) := by
  constructor <;> simp [testIsActive]

theorem claimByJog_sameTest (p : Port) (s : State) : SameTest s (claimByJog p s) := by
  unfold claimByJog
  split <;> exact setClaim_sameTest ..

theorem preemptible_not_test {s : State} {a : ActiveMotion} (h : preemptible s = some a) : testIsActive s = false := by
  obtain ⟨ha, hj⟩ := Option.filter_eq_some_iff.1 h
  cases hk : a.job <;> simp_all [testIsActive]

theorem placeRequest_course (rq : MotionRequest) (s : State) : TestCourse s (placeRequest rq s) := by
  unfold placeRequest placeRetract
  split
  · split
    next a h =>
      have filed : SameTest s (fileActiveEnd a .preempted s) := by constructor <;> simp [testIsActive, fileActiveEnd]
      have cleared := filed.trans (clearActive_sameTest (by rw [filed.active, preemptible_not_test h]))
      exact (TestCourse.of_same cleared).trans (takeRequest_course true rq rfl)
    next => exact .of_same (setMotionQueue_sameTest ..)
  · exact .of_same (setMotionQueue_sameTest ..)

theorem admitMotion_course (rq : MotionRequest) (s : State) : TestCourse s (admitMotion rq s) := by
  unfold admitMotion
  refine TestCourse.trans ?_ (tryActivate_course _)
  split
  · exact (TestCourse.of_same (claimByJog_sameTest ..)).trans (placeRequest_course ..)
  · exact placeRequest_course ..

theorem motionReply_course (p : Port) (tag : Tag) (j : MotionJob) (s : State) :
    TestCourse s (motionReply p tag j s).state := by
  unfold motionReply
  split
  · exact .start
  split
  · exact .start
  · exact admitMotion_course ..

theorem ownJogActive_not_test {p : Port} {s : State} (h : ownJogActive p s = true) : testIsActive s = false := by
  unfold ownJogActive at h
  split at h
  next hm =>
    obtain ⟨ha, _⟩ := Option.filter_eq_some_iff.1 hm
    simp [testIsActive, ha]
  next => cases h

theorem refreshJog_course (d : Direction) (v n : Int) {s : State} (hs : testIsActive s = false) :
    TestCourse s (refreshJog d v n s) := by
  have refreshed : SameTest s (setJob (.jog d (min v s.xhc.config.jogLimit) n) s) := setJob_sameTest hs (by simp)
  simp only [refreshJog]
  split
  · exact (TestCourse.of_same (refreshed.trans (endMotion_sameTest ..))).trans (activateAfterEnd_course ..)
  split
  · refine TestCourse.trans (.of_same (refreshed.trans ?_)) (sendWord_course _)
    exact .of_otherParts rfl
  · exact .of_same refreshed

theorem jogReply_course (p : Port) (tag : Tag) (d : Direction) (v n : Int) (s : State) :
    TestCourse s (jogReply p tag d v n s).state := by
  unfold jogReply
  split
  · exact .start
  split
  next own => exact refreshJog_course d v n (ownJogActive_not_test own)
  next => exact motionReply_course ..

theorem claimFrameReply_course (p : Port) (s : State) : TestCourse s (claimFrameReply p s).state := by
  unfold claimFrameReply
  split
  · exact .of_same (setClaim_sameTest ..)
  split
  · exact .start
  · exact .of_same (setClaim_sameTest ..)

theorem passClaim_course (s : State) : TestCourse s (passClaim s) := by
  unfold passClaim
  split
  · refine TestCourse.trans (.of_same ?_) (tryActivate_course _)
    constructor <;> simp [testIsActive]
  · exact .of_same (setClaim_sameTest ..)

theorem cancelRequest_sameTest (rq : MotionRequest) (s : State) : SameTest s (cancelRequest rq s) := by
  have unqueued : SameTest s (unqueue rq s) := by constructor <;> simp [testIsActive]
  exact unqueued.trans (fileRequestEnd_sameTest ..)

theorem withdrawClaim_sameTest (p : Port) (s : State) : SameTest s (withdrawClaim p s) := by
  have withdrawn := setClaim_sameTest s.mar.holder none s
  simp only [withdrawClaim]
  split
  · split
    · exact withdrawn
    · exact withdrawn.trans (cancelRequest_sameTest ..)
  · exact withdrawn

theorem releaseFrameReply_course (p : Port) (s : State) : TestCourse s (releaseFrameReply p s).state := by
  unfold releaseFrameReply
  split
  · split
    · exact .start
    split
    · exact .start
    · exact passClaim_course s
  split
  · exact .of_same (withdrawClaim_sameTest ..)
  · exact .start

theorem stopMotionReply_course (p : Port) (s : State) : TestCourse s (stopMotionReply p s).state := by
  unfold stopMotionReply
  split
  · exact .of_same (cancelRequest_sameTest ..)
  · split
    · exact .start
    · exact (TestCourse.of_same (endMotion_sameTest ..)).trans (activateAfterEnd_course ..)
  · exact .start

theorem collectCompletionReply_course (p : Port) (s : State) : TestCourse s (collectCompletionReply p s).state := by
  unfold collectCompletionReply
  split
  · exact .start
  · refine .of_same ?_
    constructor <;> simp [testIsActive, emptySlot]

/-! ### The test in progress (R119 to R122, R126) -/

theorem holdTestReply_course (s : State) : TestCourse s (holdTestReply s).state := by
  unfold holdTestReply
  split
  · exact .of_same (holdTest_sameTest ..)
  · exact .start

theorem resumeTestReply_course (s : State) : TestCourse s (resumeTestReply s).state := by
  unfold resumeTestReply
  split
  · exact .start
  split
  · exact .start
  · exact .of_same (releaseTest_sameTest s)

theorem abortTestReply_course (s : State) : TestCourse s (abortTestReply s).state := by
  unfold abortTestReply
  split
  · exact .start
  · exact (TestCourse.start.closes _).trans (activateAfterEnd_course ..)
  · exact (TestCourse.start.closes _).trans (activateAfterEnd_course ..)

theorem adjustRateReply_course (whole : Bool) (rate : Int) (s : State) : TestCourse s (adjustRateReply whole rate s).state := by
  unfold adjustRateReply
  split
  · exact .start
  next d adjustable =>
    split
    · exact .start
    split
    · have inTest : s.tex.test ≠ none := by
        intro h
        simp [adjustableStage, h] at adjustable
      refine .of_same (.of_inTest inTest ?_ ?_ ?_ ?_ ?_ ?_) <;> simp [testIsActive]
    · exact .start

/-! ### The extensometer (R49, R57, R58) -/

theorem setExtState_sameTest (e : ExtState) (s : State) : SameTest s (setExtState e s) := by
  constructor <;> simp [testIsActive]

theorem extensometerPlacedReply_course (s : State) : TestCourse s (extensometerPlacedReply s).state := by
  have zeroed : SameTest s (beginActive (zeroAtRequest (stopPlacement s))) := by constructor <;> simp [testIsActive]
  unfold extensometerPlacedReply
  split
  · split
    · exact .of_same (zeroed.trans (leavePlacing_sameTest _))
    split
    · exact .of_same (setExtState_sameTest ..)
    · exact .start
  · split
    · exact .of_same (setExtState_sameTest ..)
    · exact .start
  all_goals exact .start

theorem confirmRemoval_sameTest (s : State) : SameTest s (confirmRemoval s) := by
  have parked : SameTest s (setExtState .parked (stopRemoval s)) := by constructor <;> simp [testIsActive]
  simp only [confirmRemoval]
  split
  · exact parked.trans (releaseTest_sameTest _)
  · exact parked

theorem extensometerRemovedReply_course (s : State) : TestCourse s (extensometerRemovedReply s).state := by
  have removed : SameTest s (unannouncedRemoval s) := by constructor <;> simp [testIsActive]
  unfold extensometerRemovedReply
  split
  · exact .of_same (confirmRemoval_sameTest s)
  · exact .of_same (confirmRemoval_sameTest s)
  · exact .of_same (setExtState_sameTest ..)
  · exact .of_same removed
  · exact .start
  · exact .start

/-! ### Requests on the other blocks -/

theorem setPort_sameTest (p : Port) (v : PortState) (s : State) : SameTest s (s.setPort p v) := by
  constructor <;> simp [testIsActive]

theorem ackFlagsReply_course (p : Port) (w : BitVec 16) (s : State) : TestCourse s (ackFlagsReply p w s).state := by
  unfold ackFlagsReply
  split
  · exact .of_same (setPort_sameTest ..)
  · exact .start

theorem setNoticesReply_course (p : Port) (w : BitVec 16) (b : Byte) (s : State) :
    TestCourse s (setNoticesReply p w b s).state := by
  unfold setNoticesReply
  split
  · exact .start
  split
  · exact .of_same (setPort_sameTest ..)
  · exact .start

/-- A check that refuses leaves the state. -/
theorem TestCourse.refusedIf {c : Prop} [Decidable c] {s : State} {o : RequestOutcome} {r : Reply} (h : TestCourse s r.state) :
    TestCourse s (if c then .plain s o else r).state := by
  split
  · exact .start
  · exact h

theorem configureFrameReply_course (u : FrameUpdate) (s : State) : TestCourse s (configureFrameReply u s).state := by
  have configured : SameTest s (setConfig (FrameUpdate.applyTo u s.xhc.config) s) := by constructor <;> simp [testIsActive]
  unfold configureFrameReply
  refine .refusedIf ?_
  split
  · exact .start
  · exact .refusedIf (.refusedIf (.refusedIf (.of_same configured)))

theorem setRangeReply_course (x : Int) (s : State) : TestCourse s (setRangeReply x s).state := by
  unfold setRangeReply
  split
  · exact .start
  · refine .refusedIf (.refusedIf (.of_same ?_))
    constructor <;> simp [testIsActive]

theorem tareReply_course (s : State) : TestCourse s (tareReply s).state := by
  unfold tareReply
  refine .refusedIf (.refusedIf ?_)
  split
  · exact .start
  split
  · refine .of_same ?_
    constructor <;> simp [testIsActive]
  · exact .start

theorem definePlanReply_course (x : Int) (g : PlanUpdate) (l : List StageDef) (s : State) :
    TestCourse s (definePlanReply x g l s).state := by
  unfold definePlanReply
  split
  · refine .refusedIf (.refusedIf (.refusedIf (.of_same ?_)))
    constructor <;> simp [testIsActive]
  · exact .start

theorem readPlanReply_course (x : Int) (s : State) : TestCourse s (readPlanReply x s).state := by
  unfold readPlanReply
  split
  · exact .start
  split <;> exact .start

theorem setGradeLimitsReply_course (g : Int) (l : Option GradeLimits) (s : State) :
    TestCourse s (setGradeLimitsReply g l s).state := by
  unfold setGradeLimitsReply
  split
  · exact .start
  split
  · refine .of_same ?_
    constructor <;> simp [testIsActive]
  · exact .start

theorem readGradeLimitsReply_course (g : Int) (s : State) : TestCourse s (readGradeLimitsReply g s).state := by
  unfold readGradeLimitsReply
  split
  · exact .start
  split <;> exact .start

theorem collectResultReply_course (s : State) : TestCourse s (collectResultReply s).state := by
  unfold collectResultReply
  split
  · exact .start
  · refine .of_same ?_
    constructor <;> simp [testIsActive]

theorem peekResultReply_course (s : State) : TestCourse s (peekResultReply s).state := by
  unfold peekResultReply
  split <;> exact .start

theorem readPageReply_course (s : State) : TestCourse s (readPageReply s).state := by
  unfold readPageReply
  split
  · exact .start
  · refine .of_same ?_
    constructor <;> simp [testIsActive]

theorem writeSiteCalibrationReply_course (x : CalSection) (n : Int) (l : List CalPoint) (s : State) :
    TestCourse s (writeSiteCalibrationReply x n l s).state := by
  unfold writeSiteCalibrationReply
  split
  · exact .start
  · refine .refusedIf (.refusedIf (.refusedIf ?_))
    split
    · refine .of_same ?_
      constructor <;> simp [testIsActive]
    · exact .start

/-! ### Every command -/

/-- The commands that move specimens or discard the test: the four requests on queue and slot (R5, R6, R10, R13) and the two resets
(R18, R130). -/
def movesSpecimens : Instr → Bool
  | .enqueueSpecimen _ _ | .cancelSpecimen _ _ | .specimenMounted _ _ _ _ _ | .specimenUnmounted _ => true
  | .powerOnReset | .warmReset => true
  | _ => false

theorem request_course {k : RequestKind} {r : Req} {s t : State} {body : State → Reply} (hbody : TestCourse s (body s).state)
    (h : request k r s body = .next t) : TestCourse s t :=
  request_keeps (fun _ _ _ hu => hu.same (setPort_sameTest ..)) (fun _ => hbody) .start h

/-- A command that is one case of an event is that event or none (log entry 19). -/
theorem TestCourse.ite {s t u : State} {c : Prop} [Decidable c] (h : TestCourse s t) (hu : (if c then t else s) = u) :
    TestCourse s u := by
  subst hu
  split
  · exact h
  · exact .start

theorem next_course {s t u : State} (h : TestCourse s t) (e : (.next t : Result) = .next u) : TestCourse s u := by
  cases e
  exact h

theorem arrived_course (code : Int) (s : State) : TestCourse s (arrived code s) := by
  unfold arrived
  split
  next h => exact arrive_course h
  next => exact .start

theorem exec_course {i : Instr} {s t : State} (hi : movesSpecimens i = false) (h : exec i s = .next t) : TestCourse s t := by
  cases i with
  | readStatus r => exact request_course .start h
  | readLive r => exact request_course .start h
  | readFlags r => exact request_course (.of_same (setPort_sameTest ..)) h
  | ackFlags r w => exact request_course (ackFlagsReply_course ..) h
  | setNotices r w b => exact request_course (setNoticesReply_course ..) h
  | readQueue r => exact request_course .start h
  | nop r => exact request_course .start h
  | configureFrame r u => exact request_course (configureFrameReply_course ..) h
  | setRange r x => exact request_course (setRangeReply_course ..) h
  | tare r => exact request_course (tareReply_course s) h
  | clearFaults r => exact request_course (.of_same (.of_otherParts rfl)) h
  | definePlan r x g l => exact request_course (definePlanReply_course ..) h
  | readPlan r x => exact request_course (readPlanReply_course ..) h
  | referenceSearch r => exact request_course (motionReply_course ..) h
  | startTest r => exact request_course (motionReply_course ..) h
  | holdTest r => exact request_course (holdTestReply_course s) h
  | resumeTest r => exact request_course (resumeTestReply_course s) h
  | abortTest r => exact request_course (abortTestReply_course s) h
  | adjustRate r x => exact request_course (adjustRateReply_course ..) h
  | claimFrame r => exact request_course (claimFrameReply_course ..) h
  | releaseFrame r => exact request_course (releaseFrameReply_course ..) h
  | moveTo r x v => exact request_course (motionReply_course ..) h
  | stopMotion r => exact request_course (stopMotionReply_course ..) h
  | collectCompletion r => exact request_course (collectCompletionReply_course ..) h
  | jog r d v n => exact request_course (jogReply_course ..) h
  | retract r => exact request_course (motionReply_course ..) h
  | extensometerPlaced r => exact request_course (extensometerPlacedReply_course s) h
  | extensometerRemoved r => exact request_course (extensometerRemovedReply_course s) h
  | setGradeLimits r g l => exact request_course (setGradeLimitsReply_course ..) h
  | readGradeLimits r g => exact request_course (readGradeLimitsReply_course ..) h
  | collectResult r => exact request_course (collectResultReply_course s) h
  | peekResult r => exact request_course (peekResultReply_course s) h
  | readPage r => exact request_course (readPageReply_course s) h
  | writeSiteCalibration r x n l => exact request_course (writeSiteCalibrationReply_course ..) h
  | readCalibration r => exact request_course .start h
  | unknownRequest p tag k => exact next_course (.of_same (setPort_sameTest ..)) h
  | writeNotTaken p b => exact next_course (.ite (.of_same (setPort_sameTest ..)) rfl) h
  | readTransaction p n => exact next_course (.of_same (setPort_sameTest ..)) h
  | sampleTimerExpiry => exact next_course (expire_course s) h
  | loadFaultDeclaration => exact next_course (.ite (expire_course s) rfl) h
  | placementTimeout => exact next_course (.ite (expire_course s) rfl) h
  | removalTimeout => exact next_course (.ite (expire_course s) rfl) h
  | conversionEndStrobe =>
    have strobed : ∀ c, SameTest s { s with ldc := { s.ldc with conversion := c } } :=
      fun _ => .of_otherParts rfl
    simp only [exec, execConversionEndStrobe] at h
    split at h
    · exact next_course (.of_same (strobed _)) h
    · exact next_course .start h
  | sampleArrival code => exact next_course (arrived_course code s) h
  | stageTimeout code =>
    simp only [exec, execStageTimeout] at h
    split at h
    next arriving => exact next_course (.ite (arrive_course arriving) rfl) h
    next => exact next_course .start h
  | endOfTail code =>
    simp only [exec, execEndOfTail] at h
    split at h
    next arriving => exact next_course (.ite (arrive_course arriving) rfl) h
    next => exact next_course .start h
  | brakeReleaseExpiry => exact next_course (brakeReleased_course s) h
  | holdTimerExpiry =>
    have expired : SameTest s { s with xhc := { s.xhc with drive := .disabled, holdTimer := none } } :=
      .of_otherParts rfl
    exact next_course (.ite (.of_same expired) rfl) h
  | jogDurationExpiry =>
    exact next_course (.ite ((TestCourse.of_same (endMotion_sameTest ..)).trans (activateAfterEnd_course ..)) rfl) h
  | activation => exact next_course (tryActivate_course s) h
  | encoderEdge d => exact next_course (edge_course d s) h
  | searchTravelLimit d => exact next_course (.ite (edge_course d s) rfl) h
  | extQuadratureEdge d =>
    have counted : SameTest s { s with exc := { s.exc with count := s.exc.count + countStep d } } :=
      .of_otherParts rfl
    exact next_course (.of_same counted) h
  | referenceSwitchEvent => exact next_course (referenceSwitchOn_course s) h
  | referenceSwitchRelease => exact next_course (referenceSwitchOff_course s) h
  | hardLimitSwitchEvent side => exact next_course (hardLimitOn_course side s) h
  | hardLimitSwitchRelease side => exact next_course (.of_same (setInputs_sameTest ..)) h
  | gateOpening => exact next_course (gateOpens_course s) h
  | gateClosing => exact next_course (gateCloses_course s) h
  | emergencyStopAssertion => exact next_course (emergencyStops_course s) h
  | emergencyStopRelease => exact next_course (.of_same (setInputs_sameTest ..)) h
  | calProgrammingCompletion l => exact next_course (.of_same (completeProgramming_sameTest l s)) h
  | enqueueSpecimen r p => cases hi
  | cancelSpecimen r x => cases hi
  | specimenMounted r x w t d => cases hi
  | specimenUnmounted r => cases hi
  | powerOnReset => cases hi
  | warmReset => cases hi

end Sys2Proof.Machine

end

section

/-! PROOF. A course keeps that one test is in progress and that every block takes part in it (R108, R111, R128). -/

namespace Sys2Proof.Machine

/-! ### One test (R108, R128) -/

/-- What one test asks of a state, of test and capture only by what stays the same through a test. -/
theorem oneTest_iff (s : State) :
    OneTest s ↔
      testIsActive s = s.tex.test.isSome ∧ slotTesting s = s.tex.test.isSome ∧ s.rsl.reserved = s.tex.test.isSome ∧
      s.cps.capture.isSome = s.tex.test.isSome ∧ (s.tex.test = none → s.rlp = idleLoop) ∧
      ∀ k ∈ s.tex.test.map TestContext.identity, k.1 = s.tex.serial ∧
        (∀ c ∈ s.cps.capture.map CaptureContext.serial, c = k.1) ∧ ∀ m ∈ s.spt.slot, m.specimen.id = k.2.1 := by
  constructor
  · rintro ⟨active, slot, reserved, capturing, loop, serial, captured, specimen⟩
    refine ⟨active, slot, reserved, capturing, loop, ?_⟩
    simp only [Option.mem_map]
    rintro _ ⟨t, ht, rfl⟩
    refine ⟨serial t ht, ?_, specimen t ht⟩
    rintro _ ⟨c, hc, rfl⟩
    exact captured t ht c hc
  · rintro ⟨active, slot, reserved, capturing, loop, same⟩
    have of_test t (ht : t ∈ s.tex.test) := same t.identity (Option.mem_map_of_mem _ ht)
    exact ⟨active, slot, reserved, capturing, loop, fun t ht => (of_test t ht).1,
      fun t ht c hc => (of_test t ht).2.1 _ (Option.mem_map_of_mem _ hc), fun t ht => (of_test t ht).2.2⟩

theorem SameTest.oneTest {s t : State} (h : SameTest s t) (hs : OneTest s) : OneTest t := by
  have inTest : t.tex.test.isSome = s.tex.test.isSome := by simpa using congrArg Option.isSome h.test
  have capturing : t.cps.capture.isSome = s.cps.capture.isSome := by simpa using congrArg Option.isSome h.capture
  have slot : slotTesting t = slotTesting s := by simp only [slotTesting, h.specimens]
  rw [oneTest_iff] at hs ⊢
  obtain ⟨hactive, hslot, hreserved, hcapturing, hloop, hsame⟩ := hs
  rw [h.active, slot, h.reserved, capturing, inTest, h.test, h.counter, h.capture, h.specimens]
  exact ⟨hactive, hslot, hreserved, hcapturing, fun hn => (h.loop (h.idle_iff.1 hn)).trans (hloop (h.idle_iff.1 hn)), hsame⟩

/-- With no test in progress nothing is asked but that no block takes part in one. -/
theorem oneTest_of_idle {s : State} (test : s.tex.test = none) (active : testIsActive s = false) (slot : slotTesting s = false)
    (reserved : s.rsl.reserved = false) (capture : s.cps.capture = none) (loop : s.rlp = idleLoop) : OneTest s := by
  constructor <;> simp [*]

theorem closeTest_of_idle (c : Closure) {s : State} (h : s.tex.test = none) : closeTest c s = s := by
  simp [closeTest, h]

/-- What a closure leaves (R128): no test, no motion, no reservation, no capture, the loop at rest, the slot's specimen TESTED. -/
theorem closeTest_fields (c : Closure) {s : State} {t : TestContext} (h : s.tex.test = some t) :
    (closeTest c s).tex.test = none ∧ (closeTest c s).mar.active = none ∧ (closeTest c s).rsl.reserved = false ∧
      (closeTest c s).cps.capture = none ∧ (closeTest c s).rlp = idleLoop ∧ (closeTest c s).spt.queue = s.spt.queue ∧
      (closeTest c s).spt.slot = s.spt.slot.map (fun m => { m with state := .tested }) := by
  have filed (n : BitVec 16) (u : State) : (fileTestEnd n c u).mar.active = none := by
    unfold fileTestEnd
    split <;> simp [*]
  have recorded (k) (u : State) : (recordTest t c k u).rsl.reserved = false := by
    unfold recordTest
    split <;> simp
  simp only [closeTest, h]
  refine ⟨trivial, ?_, ?_, ?_, trivial, ?_, ?_⟩ <;> (repeat' split) <;> simp [filed, recorded]

/-- What an activation leaves (R111): the specimen TESTING, the reservation, and a test and a capture of the next serial. -/
theorem activateTest_fields (m : MountedSpecimen) (p : Plan) (s : State) :
    (activateTest m p s).spt = { s.spt with slot := some { m with state := .testing } } ∧
      (activateTest m p s).rsl.reserved = true ∧ (activateTest m p s).tex.serial = s.tex.serial + 1 ∧
      (activateTest m p s).tex.test.map TestContext.identity = some (newTest (s.tex.serial + 1) m p).identity ∧
      (activateTest m p s).cps.capture.map CaptureContext.serial = some (s.tex.serial + 1) := by
  simp [activateTest, startCapture, newCapture]

theorem closeTest_oneTest (c : Closure) {s : State} (hs : OneTest s) : OneTest (closeTest c s) := by
  cases h : s.tex.test with
  | none => rwa [closeTest_of_idle c h]
  | some t =>
    obtain ⟨test, active, reserved, capture, loop, -, slot⟩ := closeTest_fields c h
    refine oneTest_of_idle test (by simp [testIsActive, active]) ?_ reserved capture loop
    cases hm : s.spt.slot <;> simp [slotTesting, slot, hm]

/-- A test's activation joins every block in it. -/
theorem activateTest_oneTest (rq : MotionRequest) (m : MountedSpecimen) (p : Plan) (s : State) :
    OneTest (activateTest m p (makeActive rq .test s)) := by
  obtain ⟨specimens, reserved, counter, test, capture⟩ := activateTest_fields m p (makeActive rq .test s)
  obtain ⟨t, ht, identity⟩ := Option.map_eq_some_iff.1 test
  obtain ⟨c, hc, captured⟩ := Option.map_eq_some_iff.1 capture
  obtain ⟨serial, specimen, -, -⟩ : t.serial = s.tex.serial + 1 ∧ t.specimenId = m.specimen.id ∧ _ ∧ _ := by
    simpa [TestContext.identity, newTest] using identity
  have active : testIsActive (activateTest m p (makeActive rq .test s)) = true := by
    rw [← testIsActive_makeActive rq s]
    simp [testIsActive]
  exact {
    active := by simp [active, ht]
    slot := by simp [slotTesting, specimens, ht]
    reserved := by simp [reserved, ht]
    capturing := by simp [hc, ht]
    loop := by simp [ht]
    serial := by simp [ht, serial, counter]
    captured := by simp [ht, hc, captured, serial]
    specimen := by simp [ht, specimens, specimen] }

theorem TestCourse.oneTest {s t : State} (h : TestCourse s t) (hs : OneTest s) : OneTest t := by
  induction h with
  | start => exact hs
  | same _ same ih => exact same.oneTest ih
  | closes c _ ih => exact closeTest_oneTest c ih
  | starts rq m p _ _ _ => exact activateTest_oneTest ..

end Sys2Proof.Machine

end

section

/-! PROOF. The specimen queue (R3 to R6), the commands that move specimens, and the two conditions over every step. -/

namespace Sys2Proof.Machine

/-! ### The specimen queue (R3, R4) -/

/-- The order of the bands between two records of the queue, the first ahead of the second (R4). -/
def bandOrder (x y : QueuedSpecimen) : Prop :=
  x.band = .returned ∨ (x.band = .rush ∧ y.band ≠ .returned) ∨ (x.band = .normal ∧ y.band = .normal)

theorem removeById_sublist (id : Text) (q : List QueuedSpecimen) : (removeById id q).Sublist q :=
  List.eraseP_sublist

theorem removeById_append {id : Text} {before after : List QueuedSpecimen} {q : QueuedSpecimen} (hq : q.specimen.id = id)
    (hb : ∀ x ∈ before, x.specimen.id ≠ id) : removeById id (before ++ q :: after) = before ++ after := by
  unfold removeById
  rw [List.eraseP_append_right _ (by simpa using hb), List.eraseP_cons_of_pos (by simp [hq])]

theorem queuedById_append {id : Text} {before after : List QueuedSpecimen} {q : QueuedSpecimen} (hq : q.specimen.id = id)
    (hb : ∀ x ∈ before, x.specimen.id ≠ id) : queuedById id (before ++ q :: after) = some q := by
  have none_before : before.find? (fun x => x.specimen.id == id) = none := by simpa using hb
  simp [queuedById, none_before, hq]

theorem queuedById_eq_none {id : Text} {q : List QueuedSpecimen} : queuedById id q = none ↔ ∀ x ∈ q, x.specimen.id ≠ id := by
  simp [queuedById]

theorem queuedById_eq_some {id : Text} {q : List QueuedSpecimen} {x : QueuedSpecimen} (h : queuedById id q = some x) :
    ∃ before after, q = before ++ x :: after ∧ x.specimen.id = id ∧ ∀ y ∈ before, y.specimen.id ≠ id := by
  obtain ⟨hx, before, after, hq, hb⟩ := List.find?_eq_some_iff_append.1 h
  exact ⟨before, after, hq, by simpa using hx, by simpa using hb⟩

/-- Behind the first NORMAL record of an ordered queue stand NORMAL records only (R4). -/
theorem normal_of_mem_dropWhile {q : List QueuedSpecimen} (h : q.Pairwise bandOrder) :
    ∀ x ∈ q.dropWhile (fun y => y.band != .normal), x.band = .normal := by
  induction q with
  | nil => simp
  | cons y q ih =>
    obtain ⟨hy, hq⟩ := List.pairwise_cons.1 h
    by_cases normal : y.band = .normal
    · have behind x (hx : x ∈ q) : x.band = .normal := by simpa [bandOrder, normal] using hy x hx
      simpa [List.dropWhile_cons, normal] using behind
    · simpa [List.dropWhile_cons, normal] using ih hq

/-- A record joins the queue without another leaving it (R4). -/
theorem joinQueue_perm (x : SpecimenRecord) (q : List QueuedSpecimen) :
    ∃ b, (joinQueue x q).Perm ({ specimen := x, band := b } :: q) := by
  unfold joinQueue
  split
  · refine ⟨.rush, List.perm_middle.trans ?_⟩
    rw [List.takeWhile_append_dropWhile]
  · exact ⟨.normal, List.perm_append_singleton _ _⟩

theorem joinQueue_bands (x : SpecimenRecord) {q : List QueuedSpecimen} (h : q.Pairwise bandOrder) :
    (joinQueue x q).Pairwise bandOrder := by
  unfold joinQueue
  split
  · have split_q := List.takeWhile_append_dropWhile (p := fun y : QueuedSpecimen => y.band != .normal) (l := q)
    have early y (hy : y ∈ q.takeWhile fun y => y.band != .normal) : y.band ≠ .normal := by simpa using List.mem_takeWhile_imp hy
    have normal := normal_of_mem_dropWhile h
    rw [← split_q, List.pairwise_append] at h
    obtain ⟨within_early, within_normal, _⟩ := h
    refine List.pairwise_append.2 ⟨within_early, List.pairwise_cons.2 ⟨?_, within_normal⟩, ?_⟩
    · intro y hy
      simp [bandOrder, normal y hy]
    · intro y hy z hz
      have hb := early y hy
      have hz : z.band ≠ .returned := by
        rcases List.mem_cons.1 hz with rfl | hz
        · simp
        · simp [normal z hz]
      cases h : y.band <;> simp_all [bandOrder]
  · refine List.pairwise_append.2 ⟨h, List.pairwise_singleton _ _, ?_⟩
    intro y _ z hz
    obtain rfl := List.mem_singleton.1 hz
    cases hy : y.band <;> simp [bandOrder, hy]

/-- A RUSH record stands behind the records of the early bands and ahead of the NORMAL ones (R4). -/
theorem joinQueue_rush {x : SpecimenRecord} {early normal : List QueuedSpecimen} (hx : x.rush = true)
    (he : ∀ q ∈ early, q.band ≠ .normal) (hn : ∀ q ∈ normal, q.band = .normal) :
    joinQueue x (early ++ normal) = early ++ { specimen := x, band := .rush } :: normal := by
  have all_early : early.takeWhile (fun y => y.band != .normal) = early := List.takeWhile_eq_self_iff.2 (by simpa using he)
  have none_early : early.dropWhile (fun y => y.band != .normal) = [] := List.dropWhile_eq_nil_iff.2 (by simpa using he)
  cases normal with
  | nil => simp [joinQueue, hx, all_early, none_early]
  | cons y normal =>
    have first : y.band = .normal := hn y (List.mem_cons_self ..)
    simp [joinQueue, hx, List.takeWhile_append, List.dropWhile_append, all_early, none_early, first]

/-- The specimens' order speaks of the queue and of the slot's record only. -/
theorem SpecimensOrdered.of_eq {s t : State} (hs : SpecimensOrdered s) (queue : t.spt.queue = s.spt.queue)
    (slot : t.spt.slot.map (·.specimen) = s.spt.slot.map (·.specimen)) : SpecimensOrdered t where
  count := queue ▸ hs.count
  bands := queue ▸ hs.bands
  distinct := queue ▸ hs.distinct
  slot m hm := by
    obtain ⟨n, hn, same⟩ := Option.map_eq_some_iff.1 (slot ▸ Option.map_eq_some_iff.2 ⟨m, hm, rfl⟩)
    rw [queue, ← same]
    exact hs.slot n hn

/-- Records can leave an ordered queue, and the slot can be emptied. -/
theorem SpecimensOrdered.of_sublist {s t : State} (hs : SpecimensOrdered s) (queue : t.spt.queue.Sublist s.spt.queue)
    (slot : ∀ m ∈ t.spt.slot, ∀ x ∈ t.spt.queue, x.specimen.id ≠ m.specimen.id) : SpecimensOrdered t where
  count := queue.length_le.trans hs.count
  bands := hs.bands.sublist queue
  distinct := hs.distinct.sublist (queue.map _)
  slot := slot

theorem TestCourse.specimensOrdered {s t : State} (h : TestCourse s t) (hs : SpecimensOrdered s) : SpecimensOrdered t := by
  induction h with
  | start => exact hs
  | same _ same ih => exact ih.of_eq (by rw [same.specimens]) (by rw [same.specimens])
  | @closes t c _ ih =>
    cases ht : t.tex.test with
    | none => rwa [closeTest_of_idle c ht]
    | some x =>
      obtain ⟨-, -, -, -, -, queue, slot⟩ := closeTest_fields c ht
      exact ih.of_eq queue (by simp [slot, Function.comp_def])
  | @starts t rq m p _ _ slot ih =>
    obtain ⟨specimens, -⟩ := activateTest_fields m p (makeActive rq .test t)
    exact ih.of_eq (by simp [specimens]) (by simp [specimens, slot])

/-! ### The requests and resets that move specimens (R5, R6, R10 to R14, R18) -/

theorem mount_spt (id : Text) (m : MountedSpecimen) (s : State) :
    (mount id m s).spt = { queue := removeById id s.spt.queue, slot := some m } := by
  simp only [mount]
  split <;> simp

theorem specimenMountedReply_ordered (id : Text) (w t d : Option Int) {s : State} (hs : SpecimensOrdered s) :
    SpecimensOrdered (specimenMountedReply id w t d s).state := by
  unfold specimenMountedReply
  split
  · exact hs
  split
  · exact hs
  split
  · exact hs
  next q found =>
    split
    · exact hs
    split
    · exact hs
    · obtain ⟨before, after, queue, hq, hb⟩ := queuedById_eq_some found
      have left : removeById id s.spt.queue = before ++ after := by rw [queue, removeById_append hq hb]
      have others : ∀ x ∈ before ++ after, x.specimen.id ≠ q.specimen.id := by
        have distinct := hs.distinct
        rw [queue, List.map_append, List.map_cons, List.nodup_middle, ← List.map_append] at distinct
        intro x hx same
        exact (List.nodup_cons.1 distinct).1 (List.mem_map.2 ⟨x, hx, same⟩)
      refine hs.of_sublist ?_ ?_
      · simpa [mount_spt] using removeById_sublist id s.spt.queue
      · simpa [mount_spt, left, mountedOf] using others

theorem specimenUnmountedReply_ordered {s : State} (hs : SpecimensOrdered s) :
    SpecimensOrdered (specimenUnmountedReply s).state := by
  have emptied : SpecimensOrdered (setSlotSpecimen none s) := hs.of_sublist (by simp) (by simp)
  unfold specimenUnmountedReply
  split
  · exact hs
  next m slot =>
    split
    · exact hs
    · exact emptied
    · split
      next room =>
        have new : ∀ x ∈ s.spt.queue, x.specimen.id ≠ m.specimen.id := hs.slot m slot
        exact {
          count := Nat.succ_le_of_lt room
          bands := List.pairwise_cons.2 ⟨fun _ _ => .inl rfl, hs.bands⟩
          distinct := by simpa using ⟨new, hs.distinct⟩
          slot := by simp }
      next => exact emptied

theorem slotHolds_iff {id : Text} {s : State} : slotHolds id s = true ↔ ∃ m, s.spt.slot = some m ∧ m.specimen.id = id := by
  unfold slotHolds
  split <;> simp [*]

theorem enqueueSpecimenReply_ordered (p : SpecimenParams) {s : State} (hs : SpecimensOrdered s) :
    SpecimensOrdered (enqueueSpecimenReply p s).state := by
  unfold enqueueSpecimenReply
  split
  · exact hs
  next x _ =>
    split
    · exact hs
    next new =>
      obtain ⟨notQueued, notMounted⟩ : queuedById x.id s.spt.queue = none ∧ ¬ slotHolds x.id s = true := by simpa using new
      rw [queuedById_eq_none] at notQueued
      rw [slotHolds_iff] at notMounted
      split
      next room =>
        obtain ⟨b, joined⟩ := joinQueue_perm x s.spt.queue
        exact {
          count := by simpa [joined.length_eq, Config.queueCapacity] using room
          bands := joinQueue_bands x hs.bands
          distinct := by
            have distinct : (x.id :: s.spt.queue.map fun y => y.specimen.id).Nodup := by
              simpa using ⟨notQueued, hs.distinct⟩
            exact (joined.map _).nodup_iff.2 distinct
          slot := by
            intro m hm y hy
            rcases List.mem_cons.1 (joined.subset hy) with rfl | hy
            · exact fun same => notMounted ⟨m, hm, same.symm⟩
            · exact hs.slot m hm y hy }
      next => exact hs

theorem cancelSpecimenReply_ordered (id : Text) {s : State} (hs : SpecimensOrdered s) :
    SpecimensOrdered (cancelSpecimenReply id s).state := by
  have left := removeById_sublist id s.spt.queue
  unfold cancelSpecimenReply
  split
  · exact hs
  split
  · exact hs.of_sublist left fun m hm x hx => hs.slot m hm x (left.subset hx)
  split <;> exact hs

theorem poweredOn_ordered (s : State) : SpecimensOrdered (poweredOn s) := by
  constructor <;> simp [poweredOn, State.reset]

theorem warmed_ordered {s : State} (hs : SpecimensOrdered s) : SpecimensOrdered (warmed s) :=
  hs.of_sublist (by simp [warmed]) (by simp [warmed])

/-! ### One test through the requests and resets that move specimens -/

/-- A slot that is changed keeps one test when neither the old nor the new specimen is TESTING. -/
theorem OneTest.of_slot {s t : State} (hs : OneTest s) (old : slotTesting s = false) (new : slotTesting t = false)
    (active : testIsActive t = testIsActive s) (test : t.tex = s.tex) (reserved : t.rsl = s.rsl) (capture : t.cps = s.cps)
    (loop : t.rlp = s.rlp) : OneTest t := by
  have idle : s.tex.test = none := by simpa [old] using hs.slot.symm
  refine oneTest_of_idle (test ▸ idle) ?_ new ?_ ?_ (loop ▸ hs.loop idle)
  · simpa [active, idle] using hs.active
  · simpa [reserved, idle] using hs.reserved
  · simpa [capture, idle] using hs.capturing

theorem OneTest.of_queue {s t : State} (hs : OneTest s) (slot : t.spt.slot = s.spt.slot)
    (active : testIsActive t = testIsActive s) (test : t.tex = s.tex) (reserved : t.rsl = s.rsl) (capture : t.cps = s.cps)
    (loop : t.rlp = s.rlp) : OneTest t := by
  have testing : slotTesting t = slotTesting s := by simp only [slotTesting, slot]
  rw [oneTest_iff] at hs ⊢
  rwa [active, testing, test, reserved, capture, loop, slot]

theorem specimenMountedReply_oneTest (id : Text) (w t d : Option Int) {s : State} (hs : OneTest s) :
    OneTest (specimenMountedReply id w t d s).state := by
  unfold specimenMountedReply
  split
  · exact hs
  split
  · exact hs
  next empty =>
    split
    · exact hs
    split
    · exact hs
    split
    · exact hs
    · refine hs.of_slot ?_ ?_ ?_ ?_ ?_ ?_ ?_ <;> simp_all [slotTesting, mount_spt, mountedOf, testIsActive]

theorem specimenUnmountedReply_oneTest {s : State} (hs : OneTest s) : OneTest (specimenUnmountedReply s).state := by
  unfold specimenUnmountedReply
  split
  · exact hs
  next m slot =>
    split
    · exact hs
    next => refine hs.of_slot ?_ ?_ ?_ ?_ ?_ ?_ ?_ <;> simp_all [slotTesting, testIsActive]
    next =>
      split
      all_goals refine hs.of_slot ?_ ?_ ?_ ?_ ?_ ?_ ?_ <;> simp_all [slotTesting, testIsActive]

theorem setQueue_oneTest (q : List QueuedSpecimen) {s : State} (hs : OneTest s) : OneTest (setQueue q s) :=
  hs.of_queue rfl rfl rfl rfl rfl rfl

theorem enqueueSpecimenReply_oneTest (p : SpecimenParams) {s : State} (hs : OneTest s) :
    OneTest (enqueueSpecimenReply p s).state := by
  unfold enqueueSpecimenReply
  split
  · exact hs
  split
  · exact hs
  split
  · exact setQueue_oneTest _ hs
  · exact hs

theorem cancelSpecimenReply_oneTest (id : Text) {s : State} (hs : OneTest s) : OneTest (cancelSpecimenReply id s).state := by
  unfold cancelSpecimenReply
  split
  · exact hs
  split
  · exact setQueue_oneTest _ hs
  split <;> exact hs

/-! ### Every command and every step -/

/-- A property that a test's course keeps is kept by every command, if the requests and resets that move specimens keep it. -/
theorem exec_keeps {P : State → Prop} (course : ∀ {s t}, TestCourse s t → P s → P t)
    (enqueue : ∀ p {s}, P s → P (enqueueSpecimenReply p s).state) (cancel : ∀ id {s}, P s → P (cancelSpecimenReply id s).state)
    (mounted : ∀ id w t d {s}, P s → P (specimenMountedReply id w t d s).state)
    (unmounted : ∀ {s}, P s → P (specimenUnmountedReply s).state) (power : ∀ s, P (poweredOn s))
    (warm : ∀ {s}, P s → P (warmed s)) {i : Instr} {s t : State} (hs : P s) (h : exec i s = .next t) : P t := by
  have answering p b u (hu : P u) : P (u.setPort p { u.portOf p with buffer := b, dataOut := .zeros }) :=
    course (.of_same (setPort_sameTest ..)) hu
  cases i with
  | enqueueSpecimen r p => exact request_keeps answering (fun _ => enqueue p hs) hs h
  | cancelSpecimen r id => exact request_keeps answering (fun _ => cancel id hs) hs h
  | specimenMounted r id w t d => exact request_keeps answering (fun _ => mounted id w t d hs) hs h
  | specimenUnmounted r => exact request_keeps answering (fun _ => unmounted hs) hs h
  | powerOnReset =>
    obtain rfl : poweredOn s = t := Host.Outcome.next.inj h
    exact power s
  | warmReset =>
    obtain rfl : warmed s = t := Host.Outcome.next.inj h
    exact warm hs
  | _ => exact course (exec_course rfl h) hs

/-- What holds of the state with the command taken from the queue, and of what the command leaves, is kept by a step. -/
theorem step_keeps {P : State → Prop} (taken : ∀ l s, P s → P (s.withPending l))
    (exec_keeps : ∀ i s t, P s → exec i s = .next t → P t) {s t : State} (hs : P s) (h : step s = .next t) : P t := by
  unfold step at h
  split at h
  · cases h
    exact hs
  · exact exec_keeps _ _ _ (taken _ s hs) h

end Sys2Proof.Machine

open Sys2Proof Sys2Proof.Machine

/-- Settles O47: a step but the specimens' requests and the resets runs a course of the test (`exec_course`), in which a closure takes
every block out of the test at once and an activation brings every block into it. -/
theorem oneTestKeptByEveryStep : Obligations.OneTestKeptByEveryStep := by
  unfold Obligations.OneTestKeptByEveryStep
  intro s t hs h
  refine step_keeps (fun l s hs => hs.of_queue rfl rfl rfl rfl rfl rfl) (fun i s t hs h => ?_) hs h
  exact exec_keeps (fun h hs => h.oneTest hs) enqueueSpecimenReply_oneTest cancelSpecimenReply_oneTest
    specimenMountedReply_oneTest specimenUnmountedReply_oneTest (fun _ => oneTest_of_idle rfl rfl rfl rfl rfl rfl)
    (fun _ => oneTest_of_idle rfl rfl rfl rfl rfl rfl) hs h

/-- Settles O56: the course of a test leaves the queue and the slot's record (`TestCourse.specimensOrdered`), and each of the requests
and resets that move specimens keeps the order. -/
theorem specimensKeptByEveryStep : Obligations.SpecimensKeptByEveryStep := by
  unfold Obligations.SpecimensKeptByEveryStep
  intro s t hs h
  refine step_keeps (fun l s hs => hs.of_eq rfl rfl) (fun i s t hs h => ?_) hs h
  exact exec_keeps (fun h hs => h.specimensOrdered hs) enqueueSpecimenReply_ordered cancelSpecimenReply_ordered
    specimenMountedReply_ordered specimenUnmountedReply_ordered poweredOn_ordered warmed_ordered hs h

end

section

/-! PROOF. The requests on the specimens, answered (R5, R6, R10 to R14). -/

namespace Sys2Proof.Machine

/-! ### Answers of whole requests (R201, R202) -/

/-- A request in form from a permitted port is answered with its block's reply. -/
theorem request_answered {k : RequestKind} {r : Req} {s u : State} {body : State → Reply} {o : RequestOutcome} {p : Payload}
    (hp : permitted k r.port = true) (hf : r.form = .whole) (hb : body s = { state := u, outcome := o, payload := p }) :
    request k r s body = .next (answered k r o p u) := by
  rw [request_next, checkedReply_whole k r s body hp hf, hb]
  rfl

/-! ### SPECIMEN MOUNTED and SPECIMEN UNMOUNTED (R10 to R14) -/

theorem optAll_eq_true {α : Type} {o : Option α} {check : α → Bool} : optAll o check = true ↔ ∀ x ∈ o, check x = true := by
  cases o <;> simp [optAll]

theorem dimensionForm_iff (x : Int) : dimensionForm x = true ↔ 200 ≤ x ∧ x ≤ 100000 := by
  simp [dimensionForm, within]

/-- SPECIMEN MOUNTED with operands in form, a queued record and an EMPTY slot: only the area is left to check (R10). -/
theorem specimenMountedReply_queued {id : Text} {w t d : Option Int} {s : State} {q : QueuedSpecimen}
    (hid : textForm 1 12 id = true) (hw : ∀ x ∈ w, 200 ≤ x ∧ x ≤ 100000) (ht : ∀ x ∈ t, 200 ≤ x ∧ x ≤ 100000)
    (hd : ∀ x ∈ d, 200 ≤ x ∧ x ≤ 100000) (slot : s.spt.slot = none) (found : queuedById id s.spt.queue = some q)
    (fit : measuredFit q.specimen.dims w t d = true) :
    specimenMountedReply id w t d s =
      if areaFits (mountedOf q.specimen w t d).area then .plain (mount id (mountedOf q.specimen w t d) s) .ok
      else .plain s .badGeometry := by
  have form : (identifierForm id && optAll w dimensionForm && optAll t dimensionForm && optAll d dimensionForm) = true := by
    simp only [Bool.and_eq_true, optAll_eq_true, dimensionForm_iff]
    exact ⟨⟨⟨hid, hw⟩, ht⟩, hd⟩
  cases area : areaFits (mountedOf q.specimen w t d).area <;> simp [specimenMountedReply, form, slot, found, fit, area]

/-- The measured dimensions fit the record's shape when they give the dimensions used (R10, R11). -/
theorem measured_used {dims used : Dims} {w t d : Option Int}
    (h : (∃ w0 t0, dims = .flat w0 t0 ∧ d = none ∧ used = .flat (w.getD w0) (t.getD t0)) ∨
      (∃ d0, dims = .round d0 ∧ w = none ∧ t = none ∧ used = .round (d.getD d0))) :
    measuredFit dims w t d = true ∧ dimsUsed dims w t d = used := by
  rcases h with ⟨w0, t0, rfl, rfl, rfl⟩ | ⟨d0, rfl, rfl, rfl, rfl⟩ <;> simp [measuredFit, dimsUsed]

/-- What a mount leaves: the queue without the record, and QUEUE_EMPTY raised with the last one (R12). -/
theorem mount_eq (id : Text) (m : MountedSpecimen) (s : State) :
    mount id m s =
      if removeById id s.spt.queue = [] then
        raise .record .queueEmpty { s with spt := { queue := removeById id s.spt.queue, slot := some m } }
      else { s with spt := { queue := removeById id s.spt.queue, slot := some m } } := by
  simp [mount, List.isEmpty_iff]

theorem areaFits_iff (x : Int) : areaFits x = true ↔ 100 ≤ x ∧ x ≤ 5000000 := by
  simp [areaFits, within]

/-! ### ENQUEUE SPECIMEN and CANCEL SPECIMEN (R4 to R6) -/

theorem queuedById_isSome {id : Text} {q : List QueuedSpecimen} :
    (queuedById id q).isSome = true ↔ ∃ x ∈ q, x.specimen.id = id := by
  simp [queuedById]

/-- ENQUEUE SPECIMEN of a record in form whose identifier stands in the queue or the slot (R5). -/
theorem enqueueSpecimenReply_known {p : SpecimenParams} {x : SpecimenRecord} {s : State} (hx : specimenOf p = some x)
    (known : (∃ q ∈ s.spt.queue, q.specimen.id = x.id) ∨ (∃ m, s.spt.slot = some m ∧ m.specimen.id = x.id)) :
    enqueueSpecimenReply p s = .plain s .duplicate := by
  rw [← queuedById_isSome, ← slotHolds_iff, ← Bool.or_eq_true] at known
  simp only [enqueueSpecimenReply, hx, if_pos known]

/-- ENQUEUE SPECIMEN of a record in form with a new identifier: only the queue's room is left to check (R5). -/
theorem enqueueSpecimenReply_new {p : SpecimenParams} {x : SpecimenRecord} {s : State} (hx : specimenOf p = some x)
    (notQueued : ∀ q ∈ s.spt.queue, q.specimen.id ≠ x.id) (notMounted : ∀ m, s.spt.slot = some m → m.specimen.id ≠ x.id) :
    enqueueSpecimenReply p s =
      if s.spt.queue.length < 16 then .plain (setQueue (joinQueue x s.spt.queue) s) .ok else .plain s .queueFull := by
  have new : ¬ ((queuedById x.id s.spt.queue).isSome || slotHolds x.id s) = true := by
    rw [Bool.or_eq_true, queuedById_isSome, slotHolds_iff]
    rintro (⟨q, hq, same⟩ | ⟨m, hm, same⟩)
    · exact notQueued q hq same
    · exact notMounted m hm same
  simp only [enqueueSpecimenReply, hx]
  exact if_neg new

/-- CANCEL SPECIMEN of a queued record (R6). -/
theorem cancelSpecimenReply_queued {id : Text} {s : State} (hid : textForm 1 12 id = true)
    (queued : ∃ q ∈ s.spt.queue, q.specimen.id = id) :
    cancelSpecimenReply id s = .plain (setQueue (removeById id s.spt.queue) s) .ok := by
  simp [cancelSpecimenReply, identifierForm, hid, queuedById_isSome.2 queued]

/-- CANCEL SPECIMEN of an identifier that is not queued, by the slot (R6). -/
theorem cancelSpecimenReply_notQueued {id : Text} {s : State} (hid : textForm 1 12 id = true)
    (notQueued : ∀ q ∈ s.spt.queue, q.specimen.id ≠ id) :
    cancelSpecimenReply id s = if slotHolds id s then .plain s .mounted else .plain s .unknownSpecimen := by
  simp [cancelSpecimenReply, identifierForm, hid, queuedById_eq_none.2 notQueued]

end Sys2Proof.Machine

open Sys2Proof Sys2Proof.Machine

/-- Settles O25, by SPECIMEN MOUNTED's reply for a queued record and SPECIMEN UNMOUNTED's for each state of the slot. -/
theorem specimenMountedAndUnmounted : Obligations.SpecimenMountedAndUnmounted := by
  unfold Obligations.SpecimenMountedAndUnmounted
  constructor
  · intro r id w t d before after q used s form port hid hw ht hd slot queue hq others measured
    obtain ⟨fit, hused⟩ := measured_used measured
    have found : queuedById id s.spt.queue = some q := by rw [queue, queuedById_append hq others]
    have left : removeById id s.spt.queue = before ++ after := by rw [queue, removeById_append hq others]
    have area : (mountedOf q.specimen w t d).area = areaOf used := by rw [← hused]; rfl
    have reply := specimenMountedReply_queued hid hw ht hd slot found fit
    have allowed : permitted .specimenMounted r.port = true := by rw [port]; rfl
    constructor
    · intro misfit
      refine request_answered allowed form ?_
      rw [reply, if_neg (by rwa [areaFits_iff, area])]
      rfl
    · rintro low high u rfl
      refine request_answered allowed form ?_
      rw [reply, if_pos (by rw [areaFits_iff, area]; exact ⟨low, high⟩), mount_eq, left, ← hused]
      rfl
  · intro r s form port
    have allowed : permitted .specimenUnmounted r.port = true := by rw [port]; rfl
    refine ⟨fun slot => ?_, fun m slot => ⟨fun state => ?_, fun state => ?_, fun state room => ?_, fun state full => ?_⟩⟩
    all_goals refine request_answered allowed form ?_
    · simp [specimenUnmountedReply, slot, Reply.plain]
    · simp [specimenUnmountedReply, slot, state, Reply.plain]
    · simp [specimenUnmountedReply, slot, state, Reply.plain, setSlotSpecimen]
    · simp [specimenUnmountedReply, slot, state, Reply.plain, returnSpecimen, Config.queueCapacity, room]
    · simp [specimenUnmountedReply, slot, state, Reply.plain, setSlotSpecimen, Config.queueCapacity, Nat.not_lt.2 full]

/-- Settles O27, by the replies of ENQUEUE SPECIMEN to known and new records, and of CANCEL SPECIMEN to queued and other ones. -/
theorem specimenEnqueuedAndCancelled : Obligations.SpecimenEnqueuedAndCancelled := by
  unfold Obligations.SpecimenEnqueuedAndCancelled
  constructor
  · intro r p x s form port hx
    have allowed : permitted .enqueueSpecimen r.port = true := by rw [port]; rfl
    refine ⟨fun known => ?_, fun notQueued notMounted => ?_⟩
    · exact request_answered allowed form (enqueueSpecimenReply_known hx known)
    · have reply := enqueueSpecimenReply_new hx notQueued notMounted
      refine ⟨fun full => ?_, fun room normal => ?_, fun early late room rush queue he hl => ?_⟩
      all_goals refine request_answered allowed form ?_
      · rw [reply, if_neg (Nat.not_lt.2 full)]
        rfl
      · rw [reply, if_pos room]
        simp [joinQueue, normal, setQueue, Reply.plain]
      · rw [reply, if_pos room, queue, joinQueue_rush rush he hl]
        rfl
  · intro r id s form port
    have allowed : permitted .cancelSpecimen r.port = true := by rw [port]; rfl
    refine ⟨fun misformed => ?_, fun hid => ⟨fun before q after queue hq others => ?_, fun notQueued => ?_⟩⟩
    · exact request_answered allowed form (by simp [cancelSpecimenReply, identifierForm, misformed, Reply.plain])
    · refine request_answered allowed form ?_
      rw [cancelSpecimenReply_queued hid ⟨q, by simp [queue], hq⟩, queue, removeById_append hq others]
      rfl
    · have reply := cancelSpecimenReply_notQueued hid notQueued
      refine ⟨fun m slot hm => ?_, fun notMounted => ?_⟩
      all_goals refine request_answered allowed form ?_
      · rw [reply, if_pos (slotHolds_iff.2 ⟨m, slot, hm⟩)]
        rfl
      · rw [reply, if_neg (by simpa [slotHolds_iff] using notMounted)]
        rfl

end

section

/-! PROOF. What the two resets leave, and the standing conditions after a power-on reset. -/

namespace Sys2Proof.Machine

/-! ### The calibration store through a reset (R25, R213) -/

theorem calThroughReset_site_get (draw : Nat) (c : Calibration) (x : LoadRange) :
    (calThroughReset draw c).site.get x = siteThroughReset draw (c.site.get x) := by
  cases x <;> rfl

theorem chosenTables_get (c : Calibration) (x : LoadRange) :
    (chosenTables c).get x = chosenTable (c.factory.get x) (c.site.get x) := by
  cases x <;> rfl

theorem keptTables_get (c : Calibration) (active : PerRange ActiveTable) (x : LoadRange) :
    (keptTables c active).get x = keptTable (c.factory.get x) (c.site.get x) (active.get x) := by
  cases x <;> rfl

theorem siteThroughReset_cut {t : SiteTable} (h : t.validity = .programming) (draw : Nat) :
    siteThroughReset draw t = { validity := .invalid, points := interruptedPoints draw } := by
  simp [siteThroughReset, programming, h]

theorem siteThroughReset_kept {t : SiteTable} (h : t.validity ≠ .programming) (draw : Nat) : siteThroughReset draw t = t := by
  simp [siteThroughReset, programming, h]

/-- A table whose programming is cut short is not chosen, and any other is chosen as it was valid before (R25). -/
theorem chosenTable_siteThroughReset (draw : Nat) (factory : List CalPoint) (t : SiteTable) :
    chosenTable factory (siteThroughReset draw t) =
      if t.validity = .valid then { source := .site, points := t.points } else { source := .factory, points := factory } := by
  by_cases h : t.validity = .programming
  · simp [siteThroughReset_cut h, chosenTable, h]
  · simp [siteThroughReset_kept h, chosenTable]

theorem keptTable_cut {t : SiteTable} (h : t.validity = .programming) (factory : List CalPoint) (active : ActiveTable) :
    keptTable factory t active = { source := .factory, points := factory } := by
  simp [keptTable, programming, h]

theorem keptTable_kept {t : SiteTable} (h : t.validity ≠ .programming) (factory : List CalPoint) (active : ActiveTable) :
    keptTable factory t active = active := by
  simp [keptTable, programming, h]

end Sys2Proof.Machine

open Sys2Proof Sys2Proof.Machine

/-- Settles O34: every field is read off `poweredOn` and `warmed`, the tables range by range. -/
theorem resetsLeave : Obligations.ResetsLeave := by
  unfold Obligations.ResetsLeave
  constructor
  · intro s
    refine ⟨poweredOn s, rfl, rfl, rfl, rfl, rfl, ?_, rfl, rfl, rfl, rfl, rfl, rfl, ?_, rfl, rfl, rfl, rfl, rfl, rfl, ?_, rfl, rfl,
      rfl, rfl, rfl, rfl, rfl, rfl, rfl, rfl, rfl, rfl⟩
    · intro i
      simp [poweredOn, State.reset]
    · intro g
      simp [poweredOn, State.reset]
    · intro x
      have site : (poweredOn s).cal.site.get x = siteThroughReset s.freeDraws (s.cal.site.get x) :=
        calThroughReset_site_get ..
      refine ⟨fun cut => ?_, fun kept => ?_, ?_⟩
      · rw [site, siteThroughReset_cut cut]
      · rw [site, siteThroughReset_kept kept]
      · calc (poweredOn s).ldc.active.get x
          _ = chosenTable (s.cal.factory.get x) ((calThroughReset s.freeDraws s.cal).site.get x) := chosenTables_get ..
          _ = _ := by rw [calThroughReset_site_get, chosenTable_siteThroughReset]
  · intro s
    refine ⟨warmed s, rfl, rfl, rfl, rfl, rfl, rfl, rfl, rfl, rfl, rfl, rfl, rfl, rfl, rfl, rfl, ?_, rfl, rfl, rfl, rfl, rfl, rfl,
      rfl, rfl, rfl, rfl, rfl, rfl⟩
    intro x
    have site : (warmed s).cal.site.get x = siteThroughReset s.freeDraws (s.cal.site.get x) := calThroughReset_site_get ..
    have active : (warmed s).ldc.active.get x = keptTable (s.cal.factory.get x) (s.cal.site.get x) (s.ldc.active.get x) :=
      keptTables_get ..
    refine ⟨fun cut => ?_, fun kept => ?_⟩
    · rw [site, active, siteThroughReset_cut cut, keptTable_cut cut]
      exact ⟨rfl, rfl⟩
    · rw [site, active, siteThroughReset_kept kept, keptTable_kept kept]
      exact ⟨rfl, rfl⟩

namespace Sys2Proof.Machine

/-! ### The state after a power-on reset of the part as manufactured -/

theorem reset_oneTest : OneTest State.reset :=
  oneTest_of_idle rfl rfl rfl rfl rfl rfl

theorem reset_claimOrdered : ClaimOrdered State.reset := by
  constructor <;> simp [State.reset, resetArbiter]

theorem reset_oneRequestPerPort : OneRequestPerPort State.reset := by
  constructor <;> simp [State.reset, resetArbiter]

theorem reset_driveSound : DriveSound State.reset := by
  constructor <;> simp [State.reset, resetArbiter, resetCrosshead]

theorem reset_estopHolds : EstopHolds State.reset := by
  simp [EstopHolds, State.reset]

theorem reset_wordAllowed : WordAllowed State.reset := by
  constructor <;> simp [State.reset, resetCrosshead]

theorem reset_configSound : ConfigSound State.reset := by
  constructor <;> simp [State.reset, resetCrosshead, resetLoad, powerOnConfig]

theorem reset_positionSound : PositionSound State.reset := by
  constructor <;> simp [State.reset, resetCrosshead]

theorem reset_timersSound : TimersSound State.reset := by
  constructor <;> simp [State.reset, resetExtensometer]

theorem reset_plansSound : PlansSound State.reset := by
  constructor <;> simp [State.reset]

theorem reset_setPointBounded : SetPointBounded State.reset := by
  simp [SetPointBounded, State.reset, idleLoop, resetCrosshead, powerOnConfig]

theorem reset_specimensOrdered : SpecimensOrdered State.reset := by
  constructor <;> simp [State.reset]

theorem reset_resultsFit : ResultsFit State.reset := by
  simp [ResultsFit, State.reset]

theorem reset_captureSound : CaptureSound State.reset := by
  constructor <;> simp [State.reset, fillingCount]

theorem reset_eventsFit : EventsFit State.reset := by
  simp [EventsFit, State.reset]

theorem reset_missCountBounded : MissCountBounded State.reset := by
  simp [MissCountBounded, State.reset, resetLoad]

/-- The ports as either reset leaves them are sound: each has its own flags, all enabled, and nothing promoted (R213). -/
theorem portsSound_of_resetPorts {s : State} (h : s.pif = resetPorts) : PortsSound s := by
  have port p : s.portOf p = resetPort p := by cases p <;> simp [State.portOf, h, resetPorts]
  constructor <;> simp [port, resetPort, Function.comp_def]

end Sys2Proof.Machine

/-- Settles O46, condition by condition. -/
theorem resetMeetsEveryCondition : Obligations.ResetMeetsEveryCondition :=
  ⟨reset_oneTest, reset_claimOrdered, reset_oneRequestPerPort, reset_driveSound, reset_estopHolds, reset_wordAllowed,
    reset_configSound, reset_positionSound, reset_timersSound, reset_plansSound, reset_setPointBounded, reset_specimensOrdered,
    reset_resultsFit, reset_captureSound, reset_eventsFit, reset_missCountBounded, portsSound_of_resetPorts rfl⟩

end

section

/-! PROOF. READ STATUS, READ LIVE, READ QUEUE and NOP report the state (R7, R24, R202, R205). -/

namespace Sys2Proof.Machine

/-! ### READ STATUS: the motion request (R90) -/

theorem activeOf_eq_some {m : Arbiter} {p : Port} {a : ActiveMotion} (ha : m.active = some a) (hp : a.port = p) :
    activeOf m p = some a := by
  simp [activeOf, ha, hp]

theorem activeOf_eq_none {m : Arbiter} {p : Port} (h : ∀ a ∈ m.active, a.port ≠ p) : activeOf m p = none := by
  simpa [activeOf, Option.filter_eq_none_iff] using h

theorem queuedOf_append {m : Arbiter} {p : Port} {before after : List MotionRequest} {rq : MotionRequest}
    (hq : m.queue = before ++ rq :: after) (hp : rq.port = p) (hb : ∀ x ∈ before, x.port ≠ p) : queuedOf m p = some rq := by
  have none_before : before.find? (fun x => x.port == p) = none := by simpa using hb
  simp [queuedOf, hq, none_before, hp]

theorem queuedOf_eq_none {m : Arbiter} {p : Port} (h : ∀ x ∈ m.queue, x.port ≠ p) : queuedOf m p = none := by
  simpa [queuedOf] using h

theorem queuePosition_append {p : Port} {before after : List MotionRequest} {rq : MotionRequest} (hp : rq.port = p)
    (hb : ∀ x ∈ before, x.port ≠ p) : queuePosition p (before ++ rq :: after) = some (before.length + 1) := by
  induction before with
  | nil => simp [queuePosition, hp]
  | cons x before ih =>
    obtain ⟨hx, hb⟩ := List.forall_mem_cons.1 hb
    simp [queuePosition, hx, ih hb]

theorem queuePosition_eq_none {p : Port} {q : List MotionRequest} (h : ∀ x ∈ q, x.port ≠ p) : queuePosition p q = none := by
  induction q with
  | nil => rfl
  | cons x q ih =>
    obtain ⟨hx, hq⟩ := List.forall_mem_cons.1 h
    simp [queuePosition, hx, ih hq]

theorem requestReport_item (p : Port) (s : State) : RequestItem p s (requestReport s.mar p) where
  active a ha hp := by simp [requestReport, requestCondition, requestIdentity, activeOf_eq_some ha hp]
  queued idle before rq after hq hp hb := by
    simp [requestReport, requestCondition, requestIdentity, activeOf_eq_none idle, queuedOf_append hq hp hb, hq,
      queuePosition_append hp hb]
  filed idle notQueued := by
    cases h : s.mar.slot p <;>
      simp [requestReport, requestCondition, requestIdentity, activeOf_eq_none idle, queuedOf_eq_none notQueued,
        queuePosition_eq_none notQueued, h]

/-! ### READ STATUS: test, evaluation, capture (R108, R146, R186) -/

theorem testReport_items (s : State) : TestItems s (testReport s) where
  idle h := by simp [testReport, State.testState, h]
  inTest t ht := by
    have ht : s.tex.test = some t := ht
    refine ⟨?_, ?_, ?_, ?_, ?_⟩
    all_goals simp only [testReport, State.testState, ht, Option.map_some, Option.bind_some]
    cases h : t.phase <;> rfl

theorem evaluationReport_items (t : TestContext) : EvaluationItems t (evaluationReport t) where
  fit := ⟨rfl, rfl, rfl, rfl⟩
  search := ⟨rfl, rfl⟩
  tracker := ⟨rfl, rfl, rfl, rfl⟩
  flags := ⟨rfl, rfl, rfl, rfl⟩

theorem captureReport_items (p : Port) (s : State) : CaptureItems p s (captureReport s (p == .record)) where
  counts := ⟨rfl, rfl⟩
  head := by simp [captureReport]
  idle h := by simp [captureReport, reportedLevel, h]
  capturing c hc t ht := by
    have hc : s.cps.capture = some c := hc
    have ht : s.tex.test = some t := ht
    simp [captureReport, reportedLevel, capturingReport, thinningFactor, State.plan, hc, ht]

/-! ### READ STATUS: all items (R202) -/

theorem statusReport_items (p : Port) (s : State) : StatusItems p s (statusReport p s) where
  slot := rfl
  frame := ⟨rfl, rfl, rfl⟩
  claim := ⟨rfl, rfl⟩
  request := by
    refine ⟨fun hp => if_pos hp, fun hp => ⟨_, if_neg hp, requestReport_item p s⟩⟩
  test := testReport_items s
  events := rfl
  loop := rfl
  evaluation := by
    refine ⟨fun hp => if_neg hp, fun hp => ⟨fun ht => ?_, fun t ht => ⟨_, ?_, evaluationReport_items t⟩⟩⟩
    · simp [statusReport, hp, ht]
    · have ht : s.tex.test = some t := ht
      simp [statusReport, hp, ht]
  capture := ⟨fun hp => if_pos hp, fun hp => ⟨_, if_neg hp, captureReport_items p s⟩⟩
  results := rfl
  notices := ⟨rfl, rfl⟩
  faults := by
    simp [statusReport, activeFaults, faultActive]
  calibration := rfl

/-! ### The first pending kind (R205) -/

/-- In a flag list without repeats a flag's state is the one listed with it. -/
theorem flagIn_eq_of_mem {l : List (Notice × FlagState)} (hl : (l.map fun e => e.1).Nodup) :
    ∀ e ∈ l, flagIn l e.1 = e.2 := by
  induction l with
  | nil => simp
  | cons e l ih =>
    obtain ⟨new, hl⟩ := List.nodup_cons.1 hl
    intro x hx
    rcases List.mem_cons.1 hx with rfl | hx
    · simp [flagIn]
    · have other : e.1 ≠ x.1 := fun same => new (List.mem_map.2 ⟨x, hx, same.symm⟩)
      simpa [flagIn, other] using ih hl x hx

/-- The enabled pending flags of a port, in its order (R205). -/
theorem enabledPending_eq {v : PortState} {l : List Notice} (names : v.flags.map (fun e => e.1) = l) (hl : l.Nodup) :
    enabledPending v = l.filter fun m => v.enables.contains m && flagIn v.flags m != .clear := by
  subst names
  have pending : pendingFlags v.flags = v.flags.filter fun e => flagIn v.flags e.1 != .clear :=
    List.filter_congr fun e he => by rw [flagIn_eq_of_mem hl e he]
  rw [enabledPending, pending, List.filter_map, List.filter_map, List.filter_filter]
  rfl

theorem noticesOf_nodup (p : Port) : (noticesOf p).Nodup := by
  cases p <;> decide

theorem firstPending_of_portsSound {s : State} (hs : PortsSound s) (p : Port) : FirstPending p s (firstPending (s.portOf p)) := by
  have pending := enabledPending_eq (hs.flags p) (noticesOf_nodup p)
  have mem_pending m : (enabledPending (s.portOf p)).contains m = true ↔
      m ∈ noticesOf p ∧ m ∈ (s.portOf p).enables ∧ s.flag p m ≠ .clear := by
    simp [pending, State.flag]
  have head : (enabledPending (s.portOf p)).head? =
      (noticesOf p).find? fun m => (s.portOf p).enables.contains m && s.flag p m != .clear := by
    rw [pending, List.head?_filter]
    rfl
  constructor
  · intro m hm enabled raised
    have hm : (s.portOf p).promoted = some m := hm
    simp only [firstPending, hm, if_pos ((mem_pending m).2 ⟨hs.enables p m enabled, enabled, raised⟩)]
  · intro quiet
    rw [← head]
    unfold firstPending
    split
    next m hm =>
      refine if_neg fun held => ?_
      obtain ⟨_, enabled, raised⟩ := (mem_pending m).1 held
      exact raised (quiet m hm enabled)
    next => rfl

/-- READ QUEUE is answered OK whatever bytes follow its header (R7). -/
theorem readQueue_answered {r : Req} (hr : r.form ≠ .badLength) (s : State) :
    exec (.readQueue r) s = .next (answered .readQueue r .ok (.specimens s.spt.queue s.spt.slot) s) := by
  have checked (body : State → Reply) : checkedReply .readQueue r s body = body s := by
    simp [checkedReply, permitted, layoutRefused, hasParameters, hr]
  simp only [exec, execReadQueue, request_next, checked]
  rfl

end Sys2Proof.Machine

open Sys2Proof Sys2Proof.Machine

/-- Settles O6: `statusReport` has the items of every chapter, and no check of R202 turns these requests away. -/
theorem readsReportTheState : Obligations.ReadsReportTheState := by
  unfold Obligations.ReadsReportTheState
  intro r s form
  have items := statusReport_items r.port s
  refine ⟨⟨statusReport r.port s, ?_, items, fun sound => firstPending_of_portsSound sound r.port⟩, ?_, ?_, ?_⟩
  · exact request_answered rfl form rfl
  · exact request_answered rfl form rfl
  · exact fun q hq => readQueue_answered hq s
  · exact request_answered rfl form rfl

end

section

/-! PROOF. The event list, its dropped count and the miss count stay within their bounds (R21, R129): each shared operation, each
work of an expiry, an edge and an arrival, and each command keeps them. -/

namespace Sys2Proof.Machine

variable {s₀ s : State} {a : Arrival} {e : Expiry}

/-! ### The bounds of a test context and of a state -/

/-- A test context's event list and its dropped count are within their bounds (R129). -/
def TestContext.Fits (t : TestContext) : Prop :=
  t.events.length ≤ 24 ∧ t.dropped ≤ 65535

/-- What O59 claims of a state: the event list and its dropped count (R129) and the miss count (R21) within their bounds. -/
def CountsFit (s : State) : Prop :=
  EventsFit s ∧ MissCountBounded s

theorem countsFit_iff : CountsFit s ↔ (∀ t, s.tex.test = some t → t.Fits) ∧ s.ldc.missCount ≤ 4 :=
  Iff.rfl

/-- The bounds speak of the test in progress and of the miss count only. -/
theorem CountsFit.of_eq {t : State} (hs : CountsFit s) (test : t.tex.test = s.tex.test)
    (miss : t.ldc.missCount = s.ldc.missCount) : CountsFit t := by
  rw [countsFit_iff] at hs ⊢
  rwa [test, miss]

/-- With no test in progress only the miss count is bounded. -/
theorem CountsFit.of_idle {t : State} (test : t.tex.test = none) (miss : t.ldc.missCount ≤ 4) : CountsFit t :=
  countsFit_iff.2 ⟨by simp [test], miss⟩

/-- An operation that either does nothing or keeps the bounds keeps them. -/
theorem CountsFit.ite {t : State} {c : Prop} [Decidable c] (ht : CountsFit t) (hs : CountsFit s) :
    CountsFit (if c then t else s) := by
  split
  · exact ht
  · exact hs

/-! ### A test context that grows -/

/-- `t'` comes from `t` by entries added to the event list (R129) and changes of other parts that leave the RANGE_STEPPED flag. -/
structure TestContext.Grows (t t' : TestContext) : Prop where
  events : t.events <+: t'.events
  stepped : t'.flags.rangeStepped = t.flags.rangeStepped
  fits : t.Fits → t'.Fits

theorem TestContext.Grows.rfl {t : TestContext} : t.Grows t :=
  ⟨List.prefix_rfl, Eq.refl _, id⟩

theorem TestContext.Grows.trans {t u v : TestContext} (h : t.Grows u) (k : u.Grows v) : t.Grows v :=
  ⟨h.events.trans k.events, k.stepped.trans h.stepped, k.fits ∘ h.fits⟩

theorem logEvent_grows (t : TestContext) (e : Event) : t.Grows (t.logEvent e) := by
  unfold TestContext.logEvent
  split
  next room => exact ⟨List.prefix_append .., rfl, fun ht => ⟨by simpa [Config.eventCapacity] using room, ht.2⟩⟩
  next => exact ⟨List.prefix_rfl, rfl, fun ht => ⟨ht.1, Nat.min_le_left ..⟩⟩

/-- `s` has the test of `s₀`, grown, or no test as `s₀` has none, and the miss count of `s₀`. -/
structure TestGrows (s₀ s : State) : Prop where
  test : Option.Rel TestContext.Grows s₀.tex.test s.tex.test
  miss : s.ldc.missCount = s₀.ldc.missCount

theorem TestGrows.rfl : TestGrows s s where
  test := by
    cases s.tex.test
    · exact .none
    · exact .some .rfl
  miss := Eq.refl _

theorem TestGrows.of_eq {t : State} (hs : TestGrows s₀ s) (test : t.tex.test = s.tex.test)
    (miss : t.ldc.missCount = s.ldc.missCount) : TestGrows s₀ t :=
  ⟨test ▸ hs.test, miss.trans hs.miss⟩

theorem TestGrows.ite {t : State} {c : Prop} [Decidable c] (ht : TestGrows s₀ t) (hs : TestGrows s₀ s) :
    TestGrows s₀ (if c then t else s) := by
  split
  · exact ht
  · exact hs

/-- What a test was before it grew. -/
theorem TestGrows.of_grown (hs : TestGrows s₀ s) {t' : TestContext} (ht' : s.tex.test = some t') :
    ∃ t, s₀.tex.test = some t ∧ t.Grows t' := by
  have test := hs.test
  revert test ht'
  generalize s₀.tex.test = o, s.tex.test = o'
  rintro rfl (h | -)
  exact ⟨_, Eq.refl _, h⟩

/-- What a test has become. -/
theorem TestGrows.grown (hs : TestGrows s₀ s) {t t' : TestContext} (ht : s₀.tex.test = some t)
    (ht' : s.tex.test = some t') : t.Grows t' := by
  obtain ⟨u, hu, grown⟩ := hs.of_grown ht'
  rw [ht] at hu
  cases hu
  exact grown

theorem CountsFit.grow (hs : CountsFit s₀) (h : TestGrows s₀ s) : CountsFit s := by
  obtain ⟨events, missCount⟩ := countsFit_iff.1 hs
  refine countsFit_iff.2 ⟨fun t' ht' => ?_, h.miss ▸ missCount⟩
  obtain ⟨t, ht, grown⟩ := h.of_grown ht'
  exact grown.fits (events t ht)

/-! ### Operations that let the test grow: the test context (R108, R129) -/

theorem updateTest_grows {f : TestContext → TestContext} (hf : ∀ t : TestContext, t.Grows (f t)) (hs : TestGrows s₀ s) :
    TestGrows s₀ (updateTest f s) := by
  obtain ⟨test, miss⟩ := hs
  refine ⟨?_, miss⟩
  rw [updateTest_tex_test]
  revert test
  generalize s₀.tex.test = o₀, s.tex.test = o
  rintro (h | -)
  · exact .some (h.trans (hf _))
  · exact .none

/-- A change of the test context outside the event list, its dropped count and the flags. -/
theorem updateTest_grows_of_eq {f : TestContext → TestContext}
    (hf : ∀ t, (f t).events = t.events ∧ (f t).dropped = t.dropped ∧ (f t).flags = t.flags) (hs : TestGrows s₀ s) :
    TestGrows s₀ (updateTest f s) := by
  refine updateTest_grows (fun t => ?_) hs
  obtain ⟨events, dropped, flags⟩ := hf t
  exact ⟨by rw [events], by rw [flags], by simp [TestContext.Fits, events, dropped]⟩

theorem setPhase_grows (p : TestPhase) (hs : TestGrows s₀ s) : TestGrows s₀ (setPhase p s) :=
  updateTest_grows_of_eq (fun _ => ⟨rfl, rfl, rfl⟩) hs

theorem setTestFlags_grows {f : TestFlags → TestFlags} (hf : ∀ g, (f g).rangeStepped = g.rangeStepped)
    (hs : TestGrows s₀ s) : TestGrows s₀ (setTestFlags f s) :=
  updateTest_grows (fun t => ⟨List.prefix_rfl, hf t.flags, id⟩) hs

theorem updateEvaluation_grows (f : Evaluation → Evaluation) (hs : TestGrows s₀ s) :
    TestGrows s₀ (updateEvaluation f s) :=
  updateTest_grows_of_eq (fun _ => ⟨rfl, rfl, rfl⟩) hs

theorem markStage_grows (f : StageRun → StageRun) (hs : TestGrows s₀ s) : TestGrows s₀ (markStage f s) :=
  updateTest_grows_of_eq (fun _ => ⟨rfl, rfl, rfl⟩) hs

theorem markHandover_grows (hs : TestGrows s₀ s) : TestGrows s₀ (markHandover s) :=
  updateTest_grows_of_eq (fun _ => ⟨rfl, rfl, rfl⟩) hs

theorem addEventAt_grows (k : EventKind) (n : Nat) (v : Int) (hs : TestGrows s₀ s) : TestGrows s₀ (addEventAt k n v s) := by
  unfold addEventAt
  split
  · exact hs
  · have logged : TestGrows s₀ (updateTest (fun t => t.logEvent ⟨k, n, v⟩) s) :=
      updateTest_grows (fun t => logEvent_grows t _) hs
    exact logged.of_eq rfl rfl

theorem raise_grows (p : Port) (n : Notice) (hs : TestGrows s₀ s) : TestGrows s₀ (raise p n s) :=
  hs.of_eq (by simp) (by simp)

theorem raiseAll_grows (n : Notice) (hs : TestGrows s₀ s) : TestGrows s₀ (raiseAll n s) :=
  raise_grows _ _ (raise_grows _ _ (raise_grows _ _ hs))

theorem addEvent_grows (k : EventKind) (v : Int) (hs : TestGrows s₀ s) : TestGrows s₀ (addEvent k v s) := by
  unfold addEvent
  split
  · exact hs
  · exact addEventAt_grows _ _ _ hs

/-! ### The test state's moves (R112 to R122) -/

theorem setSetPoint_grows (v : Int) (hs : TestGrows s₀ s) : TestGrows s₀ (setSetPoint v s) :=
  hs.of_eq rfl rfl

theorem holdTest_grows (c : HoldCause) (hs : TestGrows s₀ s) : TestGrows s₀ (holdTest c s) := by
  unfold holdTest
  split
  · exact hs
  · exact addEvent_grows _ _ (setSetPoint_grows 0 (setPhase_grows _ hs))

theorem releaseTest_grows (hs : TestGrows s₀ s) : TestGrows s₀ (releaseTest s) := by
  unfold releaseTest
  split
  · exact hs
  split
  next c r _ =>
    have resumed : TestGrows s₀ (addEvent .resume (causeNumber c) (setPhase (returnPhase r) s)) :=
      addEvent_grows _ _ (setPhase_grows _ hs)
    cases r <;> exact resumed.of_eq rfl rfl
  next => exact hs

theorem beginStage_grows (i : Nat) (d : StageDef) (hs : TestGrows s₀ s) : TestGrows s₀ (beginStage i d s) :=
  addEvent_grows _ _ (updateTest_grows_of_eq (fun _ => ⟨rfl, rfl, rfl⟩) hs)

theorem leavePlacing_grows (hs : TestGrows s₀ s) : TestGrows s₀ (leavePlacing s) := by
  have entered p d : TestGrows s₀ (loopEnterPending d (beginStage 1 d (setPhase p s))) :=
    (beginStage_grows 1 d (setPhase_grows p hs)).of_eq rfl rfl
  unfold leavePlacing
  split
  · exact hs
  split
  · exact hs
  split
  · exact entered ..
  · exact entered ..
  · exact hs

theorem leavePlacing_fits (hs : CountsFit s) : CountsFit (leavePlacing s) :=
  hs.grow (leavePlacing_grows .rfl)

theorem adjustRate_grows (rate : Int) (hs : TestGrows s₀ s) : TestGrows s₀ (adjustRate rate s) :=
  (addEvent_grows .rateChanged rate (markStage_grows _ hs)).of_eq rfl rfl

/-! ### The capture store (R176 to R185) -/

theorem setLevel_grows (hs : TestGrows s₀ s) : TestGrows s₀ (setLevel s) := by
  unfold setLevel
  split
  · exact hs
  next c _ =>
    have set (k : Nat) : TestGrows s₀ (updateCapture (fun c => { c with level := k }) s) := hs.of_eq rfl rfl
    simp only []
    split
    · exact raise_grows _ _ (addEvent_grows _ _ (set _))
    · exact set _

theorem setLevel_fits (hs : CountsFit s) : CountsFit (setLevel s) :=
  hs.grow (setLevel_grows .rfl)

theorem openPage_grows (c : CaptureContext) (n : Nat) (hs : TestGrows s₀ s) : TestGrows s₀ (openPage c n s) :=
  setLevel_grows (hs.of_eq rfl rfl)

theorem writeEntry_grows (e : CaptureEntry) (p : CapturePage) (hs : TestGrows s₀ s) : TestGrows s₀ (writeEntry e p s) :=
  hs.of_eq (by simp) (by simp)

theorem loseSample_grows (c : CaptureContext) (hs : TestGrows s₀ s) : TestGrows s₀ (loseSample c s) := by
  have lost : TestGrows s₀ (setTestFlags (fun f => { f with captureGap := true })
      (updateCapture (fun c => { c with lost := c.lost + 1, lossRun := true }) s)) :=
    setTestFlags_grows (fun _ => rfl) (hs.of_eq rfl rfl)
  exact lost.ite (addEvent_grows _ _ lost)

theorem keepSample_grows (e : CaptureEntry) (hs : TestGrows s₀ s) : TestGrows s₀ (keepSample e s) := by
  unfold keepSample
  split
  · exact hs
  next c _ =>
    split
    · exact writeEntry_grows _ _ hs
    split
    · have opened := openPage_grows c e.number hs
      simp only []
      split
      · exact opened
      · exact writeEntry_grows _ _ opened
    · exact loseSample_grows c hs

theorem captureSample_grows (k : Int) (b : Bool) (e : CaptureEntry) (hs : TestGrows s₀ s) :
    TestGrows s₀ (captureSample k b e s) := by
  have counted (f : CaptureContext → CaptureContext) : TestGrows s₀ (updateCapture f s) := hs.of_eq rfl rfl
  unfold captureSample
  split
  · exact hs
  · refine TestGrows.of_eq (s := ite _ _ _) (TestGrows.ite ?_ ?_) rfl rfl
    · exact keepSample_grows _ (counted _)
    · exact hs.of_eq rfl rfl

/-! ### The extensometer channel (R47 to R62) -/

theorem setP0_grows (x : Int) (hs : TestGrows s₀ s) : TestGrows s₀ (setP0 x s) :=
  hs.of_eq rfl rfl

theorem handoverEntry_grows (n : Nat) (h : Int) (hs : TestGrows s₀ s) : TestGrows s₀ (handoverEntry n h s) :=
  markHandover_grows (addEventAt_grows _ _ _ (hs.of_eq rfl rfl))

theorem removalHandover_grows (n : Nat) (h : Int) (hs : TestGrows s₀ s) : TestGrows s₀ (removalHandover n h s) :=
  handoverEntry_grows n h (hs.of_eq (by simp) (by simp))

theorem slipHandover_grows (m : SlipRecord) (hs : TestGrows s₀ s) : TestGrows s₀ (slipHandover m s) :=
  handoverEntry_grows _ _ (setTestFlags_grows (fun _ => rfl) (hs.of_eq (by simp) (by simp)))

theorem unannouncedRemoval_grows (hs : TestGrows s₀ s) : TestGrows s₀ (unannouncedRemoval s) :=
  updateEvaluation_grows _ (handoverEntry_grows _ _ (setTestFlags_grows (fun _ => rfl) (hs.of_eq rfl rfl)))

theorem removalHold_grows (p : Plan) (hs : TestGrows s₀ s) : TestGrows s₀ (removalHold p s) := by
  unfold removalHold
  split
  · exact holdTest_grows _ hs
  · exact hs

theorem extPreloadEnd_grows (b : Bool) (l : Latch) (hs : TestGrows s₀ s) : TestGrows s₀ (extPreloadEnd b l s) := by
  have notPlaced : TestGrows s₀ (markHandover (setP0 l.position
      (setTestFlags (fun f => { f with extNotPlaced := true }) (raise .cell .extRemoveReq s)))) :=
    markHandover_grows (setP0_grows _ (setTestFlags_grows (fun _ => rfl) (raise_grows _ _ hs)))
  unfold extPreloadEnd
  split
  · split
    · exact hs.of_eq rfl rfl
    · exact raise_grows _ _ (hs.of_eq rfl rfl)
    · exact notPlaced
    · exact notPlaced
    · exact hs
    · exact hs
  · exact markHandover_grows (hs.of_eq rfl rfl)

theorem placementExpires_grows (hs : TestGrows s₀ s) : TestGrows s₀ (placementExpires s) :=
  leavePlacing_grows (markHandover_grows (setTestFlags_grows (fun _ => rfl) (hs.of_eq rfl rfl)))

theorem removalExpires_grows (p : Plan) (hs : TestGrows s₀ s) : TestGrows s₀ (removalExpires p s) := by
  have late : TestGrows s₀
      (setTestFlags (fun f => { f with extLate := true }) { s with exc := { s.exc with removal := none } }) :=
    setTestFlags_grows (fun _ => rfl) (hs.of_eq rfl rfl)
  unfold removalExpires
  simp only []
  split
  · exact late
  split
  · exact raise_grows _ _ (addEvent_grows _ _ (setPhase_grows _ late))
  · exact raise_grows _ _ late
  · exact late

theorem extFracture_grows (hs : TestGrows s₀ s) : TestGrows s₀ (extFracture s) :=
  TestGrows.ite (setTestFlags_grows (fun _ => rfl) (hs.of_eq rfl rfl)) (hs.of_eq rfl rfl)

/-! ### Closure, words and activation (R94, R95, R111, R128) -/

theorem selectRange_ldc (r : LoadRange) (n : Nat) (s : State) :
    (selectRange r n s).ldc.missCount = s.ldc.missCount ∧ (selectRange r n s).ldc.latest = s.ldc.latest ∧
      (selectRange r n s).ldc.peak = s.ldc.peak := by
  unfold selectRange
  split <;> exact ⟨rfl, rfl, rfl⟩

/-- A closure touches the range and its settling only of the load channel (R128). -/
theorem closeTest_ldc (c : Closure) (s : State) :
    (closeTest c s).ldc.missCount = s.ldc.missCount ∧ (closeTest c s).ldc.latest = s.ldc.latest ∧
      (closeTest c s).ldc.peak = s.ldc.peak := by
  unfold closeTest
  split
  · exact ⟨rfl, rfl, rfl⟩
  · simp only []
    (repeat' split) <;> simp [selectRange_ldc]

theorem closeTest_fits (c : Closure) (hs : CountsFit s) : CountsFit (closeTest c s) := by
  cases h : s.tex.test with
  | none => rwa [closeTest_of_idle c h]
  | some t => exact .of_idle (closeTest_fields c h).1 ((closeTest_ldc c s).1 ▸ hs.2)

theorem endMotion_grows (o : MotionOutcome) (hs : TestGrows s₀ s) : TestGrows s₀ (endMotion o s) :=
  hs.of_eq (by simp) (by simp)

theorem softLimitEvent_fits (up : Bool) (hs : CountsFit s) : CountsFit (softLimitEvent up s) := by
  have stopped : CountsFit (sendWordValue 0 s) := hs.of_eq rfl rfl
  unfold softLimitEvent
  split
  · exact (closeTest_fits _ stopped).ite stopped
  · exact stopped
  · exact stopped.grow (endMotion_grows _ .rfl)
  · exact stopped

theorem sendWord_fits (hs : CountsFit s) : CountsFit (sendWord s) :=
  (softLimitEvent_fits _ hs).ite (hs.of_eq rfl rfl)

/-- A test starts with an empty event list (R111); an opening capture may enter the first event in it (R178). -/
theorem activateTest_fits (m : MountedSpecimen) (p : Plan) (hs : CountsFit s) : CountsFit (activateTest m p s) := by
  have started : CountsFit
      { s with tex := { s.tex with serial := s.tex.serial + 1, test := some (newTest (s.tex.serial + 1) m p) } } :=
    countsFit_iff.2 ⟨by simp [newTest, TestContext.Fits], hs.2⟩
  exact setLevel_fits (started.of_eq (by simp) (by simp [selectRange_ldc]))

theorem takeStartTest_fits (rq : MotionRequest) (hs : CountsFit s) : CountsFit (takeStartTest rq s) := by
  unfold takeStartTest
  split
  · exact hs.of_eq (by simp) (by simp)
  split
  · exact hs
  split
  · exact hs
  · exact activateTest_fits _ _ (hs.of_eq (by simp) (by simp))

theorem takeRequest_fits (b : Bool) (rq : MotionRequest) (hs : CountsFit s) : CountsFit (takeRequest b rq s) := by
  unfold takeRequest
  split
  · exact hs.of_eq (by simp) (by simp)
  split
  · exact hs.of_eq (by simp) (by simp)
  · exact hs.of_eq (by simp) (by simp)
  · exact .ite (hs.of_eq (by simp) (by simp)) (hs.of_eq (by simp) (by simp))
  · exact takeStartTest_fits _ hs
  · exact hs.of_eq (by simp) (by simp)

theorem activationLoop_fits (n : Nat) (hs : CountsFit s) : CountsFit (activationLoop n s) := by
  induction n generalizing s with
  | zero => exact hs
  | succ n ih =>
    unfold activationLoop
    split
    · exact hs
    split
    · exact hs
    · exact ih (takeRequest_fits _ _ (hs.of_eq (by simp) (by simp)))

theorem tryActivate_fits (hs : CountsFit s) : CountsFit (tryActivate s) :=
  activationLoop_fits _ hs

theorem activateAfterEnd_fits (b : State) (hs : CountsFit s) : CountsFit (activateAfterEnd b s) :=
  (tryActivate_fits hs).ite hs

/-! ### Expiries (R21, R22, R50, R56, R118) -/

/-- The miss count stops at 4 (R21). -/
theorem startConversion_fits (hs : CountsFit s) : CountsFit (startConversion s) := by
  refine countsFit_iff.2 ⟨hs.1, ?_⟩
  rw [startConversion_ldc_missCount, missCountAfter]
  split
  · exact Nat.min_le_left ..
  · exact hs.2

theorem advanceStage_grows (hs : TestGrows s₀ s) : TestGrows s₀ (advanceStage s) := by
  unfold advanceStage
  split
  · exact markStage_grows _ hs
  · exact hs

theorem advancePlacement_grows (p : Plan) (he : TestGrows s₀ e.s) : TestGrows s₀ (advancePlacement p e).s := by
  simp only [advancePlacement]
  split
  · exact placementExpires_grows (he.of_eq rfl rfl)
  · exact he.of_eq rfl rfl

theorem advanceRemoval_grows (p : Plan) (he : TestGrows s₀ e.s) : TestGrows s₀ (advanceRemoval p e).s := by
  simp only [advanceRemoval]
  split
  · exact removalExpires_grows p (he.of_eq rfl rfl)
  · exact he.of_eq rfl rfl

theorem advanceTimers_grows (he : TestGrows s₀ e.s) : TestGrows s₀ (advanceTimers e).s := by
  unfold advanceTimers
  split
  · exact advanceRemoval_grows _ (advancePlacement_grows _ he)
  · exact he

theorem declareLoadFault_fits (hs : CountsFit s) : CountsFit (declareLoadFault s) :=
  closeTest_fits _ (hs.of_eq (by simp) (by simp))

theorem declareAtExpiry_fits (he : CountsFit e.s) : CountsFit (declareAtExpiry e).s := by
  unfold declareAtExpiry
  split
  · exact declareLoadFault_fits he
  · exact he

theorem wordAtExpiry_fits (he : CountsFit e.s) : CountsFit (wordAtExpiry e).s := by
  unfold wordAtExpiry
  split
  · exact sendWord_fits he
  · exact he

theorem expire_fits (hs : CountsFit s) : CountsFit (expire s).s := by
  have timed : TestGrows (startConversion s) (advanceTimers (beginExpiry s)).s := advanceTimers_grows (advanceStage_grows .rfl)
  exact activateAfterEnd_fits s (wordAtExpiry_fits (declareAtExpiry_fits ((startConversion_fits hs).grow timed)))

/-! ### Edges and lines (R67 to R83) -/

theorem softLimitAtEdge_fits (hs : CountsFit s) : CountsFit (softLimitAtEdge s) :=
  (softLimitEvent_fits _ hs).ite hs

theorem edge_fits (d : Direction) (hs : CountsFit s) : CountsFit (edge d s).s := by
  have unreferenced : CountsFit { s with xhc := { s.xhc with referenceValid := false } } := hs.of_eq rfl rfl
  refine activateAfterEnd_fits s ?_
  unfold workEdge
  split
  · exact closeTest_fits _ (CountsFit.grow (.ite (unreferenced.of_eq (by simp) (by simp)) unreferenced) (endMotion_grows _ .rfl))
  simp only []
  split
  · exact hs.of_eq (by simp) (by simp)
  · exact softLimitAtEdge_fits (hs.of_eq rfl rfl)

theorem hardLimitOn_fits (side : LimitSide) (hs : CountsFit s) : CountsFit (hardLimitOn side s) :=
  .ite hs (activateAfterEnd_fits s (closeTest_fits _ (hs.of_eq (by simp) (by simp))))

theorem gateOpens_fits (hs : CountsFit s) : CountsFit (gateOpens s) := by
  have opened : CountsFit (gateEndsMotion (setInputs { s.inputs with gateOpen := true } s)) := hs.of_eq (by simp) (by simp)
  have sent := sendWord_fits (opened.grow (holdTest_grows .gate .rfl))
  exact .ite hs (activateAfterEnd_fits s (sent.of_eq (by simp) (by simp)))

theorem emergencyStops_fits (hs : CountsFit s) : CountsFit (emergencyStops s) :=
  .ite hs (CountsFit.grow (closeTest_fits _ (hs.of_eq (by simp) (by simp))) (raiseAll_grows .estop .rfl))

theorem referenceSwitchOn_fits (hs : CountsFit s) : CountsFit (referenceSwitchOn s) := by
  have found : CountsFit (endMotion .done (referenced (setInputs { s.inputs with referenceSwitch := true } s))) :=
    hs.of_eq (by simp) (by simp)
  exact .ite hs (.ite (activateAfterEnd_fits s found) (hs.of_eq rfl rfl))

theorem referenceSwitchOff_fits (hs : CountsFit s) : CountsFit (referenceSwitchOff s) :=
  .ite (.ite (hs.of_eq rfl rfl) (hs.of_eq rfl rfl)) hs

theorem brakeReleased_fits (hs : CountsFit s) : CountsFit (brakeReleased s) :=
  .ite (activateAfterEnd_fits s (hs.of_eq (by simp) (by simp))) hs

theorem verifyTable_missCount (w : CalWrite) (l : List CalPoint) (s : State) :
    (verifyTable w l s).ldc.missCount = s.ldc.missCount := by
  unfold verifyTable
  split
  · rfl
  · simp

theorem completeProgramming_fits (l : List CalPoint) (hs : CountsFit s) : CountsFit (completeProgramming l s) := by
  unfold completeProgramming
  split
  · exact hs
  · exact hs.of_eq (by simp) (by simp [verifyTable_missCount])

/-! ### Arrivals (R24) -/

/-- An arrival clears the miss count (R21). -/
theorem beginArrival_fits (code : Int) (range : LoadRange) (l : Latch) (hs : CountsFit s) :
    CountsFit (beginArrival code range l s).s :=
  countsFit_iff.2 ⟨hs.1, Nat.zero_le _⟩

theorem overloadCheck_grows (ha : TestGrows s₀ a.s) : TestGrows s₀ (overloadCheck a).s := by
  refine ha.of_eq (by simp) ?_
  unfold overloadCheck
  simp only []
  split <;> simp

theorem setTestFlags_fits (f : TestFlags → TestFlags) (hs : CountsFit s) : CountsFit (setTestFlags f s) := by
  obtain ⟨events, missCount⟩ := countsFit_iff.1 hs
  refine countsFit_iff.2 ⟨fun t' ht' => ?_, missCount⟩
  obtain ⟨t, ht, rfl⟩ := Option.map_eq_some_iff.1 ht'
  exact events t ht

theorem stepUp_fits (ha : CountsFit a.s) : CountsFit (stepUp a).s := by
  unfold stepUp
  split
  · exact ha
  split
  next t _ _ =>
    have raised : CountsFit (selectRange (nextRange a.s.ldc.range) t.plan.settleSamples.toNat a.s) :=
      ha.of_eq (by simp) (selectRange_ldc ..).1
    exact setTestFlags_fits _ (raised.grow (addEvent_grows _ _ .rfl))
  next => exact ha

theorem formStrain_grows (ha : TestGrows s₀ a.s) : TestGrows s₀ (formStrain a).s :=
  ha.of_eq (by simp) (by simp)

theorem updatePeak_grows (ha : TestGrows s₀ a.s) : TestGrows s₀ (updatePeak a).s := by
  unfold updatePeak
  split
  · exact ha.of_eq rfl rfl
  · exact ha

theorem formHandover_grows (ha : TestGrows s₀ a.s) : TestGrows s₀ (formHandover a).s := by
  unfold formHandover
  split
  · exact slipHandover_grows _ ha
  · split
    · exact removalHandover_grows _ _ ha
    · exact ha
  · exact ha

theorem addSampleEvents_grows (es : List SampleEvent) (hs : TestGrows s₀ s) : TestGrows s₀ (addSampleEvents es s) := by
  unfold addSampleEvents
  induction es generalizing s with
  | nil => exact hs
  | cons e es ih => exact ih (addEvent_grows e.1 e.2 hs)

theorem evaluateArrival_grows (ha : TestGrows s₀ a.s) : TestGrows s₀ (evaluateArrival a).s := by
  unfold evaluateArrival
  split
  · exact ha
  · exact addSampleEvents_grows _ (updateEvaluation_grows _ ha)

theorem detectFracture_grows (ha : TestGrows s₀ a.s) : TestGrows s₀ (detectFracture a).s := by
  unfold detectFracture
  split
  next t _ _ =>
    have tail n (v : Int) : TestGrows s₀ (extFracture (addEventAt .fracture n v
        (updateTest (fun t => { t with phase := .tail 0, fractureNumber := some n }) a.s))) :=
      extFracture_grows (addEventAt_grows _ _ _ (updateTest_grows_of_eq (fun _ => ⟨rfl, rfl, rfl⟩) ha))
    exact (tail _ _).of_eq rfl rfl
  next => exact ha

theorem enterStage_grows (i : Nat) (d : StageDef) (ha : TestGrows s₀ a.s) : TestGrows s₀ (enterStage i d a).s :=
  (beginStage_grows i d ha).of_eq rfl rfl

theorem endPreload_grows (p : Plan) (ha : TestGrows s₀ a.s) : TestGrows s₀ (endPreload p a).s := by
  have ended := extPreloadEnd_grows p.extRequired a.latch (addEvent_grows .preloadEnd a.set.force ha)
  simp only [endPreload]
  split
  · exact setSetPoint_grows 0 (setPhase_grows _ ended)
  split
  · exact enterStage_grows (a := { a with s := _ }) _ _ (setPhase_grows _ ended)
  · exact setPhase_grows _ ended

theorem takeEnd_grows (p : Plan) (r : StageRun) (d : StageDef) (ha : TestGrows s₀ a.s) :
    TestGrows s₀ (takeEnd p r d a).s := by
  unfold takeEnd
  split
  · exact enterStage_grows _ _ ha
  · exact addEvent_grows _ _ (markStage_grows _ ha)

theorem takeTimeout_grows (p : Plan) (r : StageRun) (d : StageDef) (ha : TestGrows s₀ a.s) :
    TestGrows s₀ (takeTimeout p r d a).s := by
  have logged := addEvent_grows .stageTimeout r.index ha
  simp only [takeTimeout]
  split
  · exact ha
  split
  · exact enterStage_grows (a := { a with s := _ }) _ _ logged
  · exact markStage_grows _ logged

theorem judgeStage_grows (t : TestContext) (ha : TestGrows s₀ a.s) : TestGrows s₀ (judgeStage t a).s := by
  unfold judgeStage
  split
  · exact ha
  split
  · exact ha
  split
  · exact takeEnd_grows _ _ _ ha
  split
  · exact takeTimeout_grows _ _ _ ha
  · exact ha

theorem countTail_grows (p : Plan) (n : Int) (ha : TestGrows s₀ a.s) : TestGrows s₀ (countTail p n a).s := by
  simp only [countTail]
  split <;> exact setPhase_grows _ ha

theorem judgePhase_grows (t : TestContext) (ha : TestGrows s₀ a.s) : TestGrows s₀ (judgePhase t a).s := by
  unfold judgePhase
  split
  · split
    · exact endPreload_grows _ ha
    · exact ha
  · split
    · exact ha
    · exact judgeStage_grows _ ha
  · exact countTail_grows _ _ ha
  · exact ha
  · exact ha

theorem handoverHold_grows (p : Plan) (ha : TestGrows s₀ a.s) : TestGrows s₀ (handoverHold p a).s := by
  unfold handoverHold
  split
  · exact removalHold_grows p ha
  · exact ha

theorem executiveTakes_grows (ha : TestGrows s₀ a.s) : TestGrows s₀ (executiveTakes a).s := by
  unfold executiveTakes
  split
  · exact ha
  next t _ =>
    have fractured := detectFracture_grows ha
    simp only []
    split
    · exact fractured
    split
    · split <;> exact fractured
    split
    · exact holdTest_grows _ fractured
    · exact handoverHold_grows _ (judgePhase_grows t fractured)

theorem loopTakes_grows (ha : TestGrows s₀ a.s) : TestGrows s₀ (loopTakes a).s :=
  ha.of_eq (by simp) (by simp)

/-- The works of an arrival on the sample set, from the forming of its strain to the rate loop's (R24). -/
theorem arrivalSampled_grows (ha : TestGrows s₀ a.s) :
    TestGrows s₀ (loopTakes (executiveTakes (evaluateArrival (formHandover (updatePeak (formStrain a)))))).s :=
  loopTakes_grows (executiveTakes_grows (evaluateArrival_grows (formHandover_grows (updatePeak_grows (formStrain_grows ha)))))

theorem evaluateMove_grows (x : Int) (hs : TestGrows s₀ s) : TestGrows s₀ (evaluateMove x s) := by
  unfold evaluateMove
  split
  · split
    · exact .ite (endMotion_grows _ hs) (hs.of_eq rfl rfl)
    · exact .ite (endMotion_grows _ hs) (hs.of_eq rfl rfl)
    · exact hs
  · exact hs

theorem motionTakes_grows (ha : TestGrows s₀ a.s) : TestGrows s₀ (motionTakes a).s := by
  unfold motionTakes
  split
  · simp only [mapState_fields, overloadEnds]
    split
    · exact ha
    · exact endMotion_grows _ ha
  · exact evaluateMove_grows _ ha

theorem wordTakes_fits (ha : CountsFit a.s) : CountsFit (wordTakes a).s := by
  have sent w : CountsFit (sendWordValue w a.s) := ha.of_eq rfl rfl
  unfold wordTakes
  split
  · exact sent 0
  split
  · split
    · split <;> exact sent 0
    · exact softLimitEvent_fits _ ha
  · exact sent _

theorem publish_grows (ha : TestGrows s₀ a.s) : TestGrows s₀ (publish a).s :=
  ha.of_eq rfl rfl

theorem captureTakes_grows (ha : TestGrows s₀ a.s) : TestGrows s₀ (captureTakes a).s := by
  unfold captureTakes
  split
  · exact ha
  · exact captureSample_grows _ _ _ ha

theorem closeOrCount_fits (ha : CountsFit a.s) : CountsFit (closeOrCount a).s := by
  unfold closeOrCount
  split
  · exact closeTest_fits _ ha
  · exact ha.grow (updateTest_grows_of_eq (fun _ => ⟨rfl, rfl, rfl⟩) .rfl)

theorem workArrival_fits (code : Int) (range : LoadRange) (l : Latch) (hs : CountsFit s) :
    CountsFit (workArrival code range l s).s := by
  have loaded := stepUp_fits ((beginArrival_fits code range l hs).grow (overloadCheck_grows .rfl))
  have sampled := wordTakes_fits (loaded.grow (motionTakes_grows (arrivalSampled_grows .rfl)))
  exact closeOrCount_fits (sampled.grow (captureTakes_grows (publish_grows .rfl)))

theorem arrive_fits {code : Int} (hs : CountsFit s) (h : arrive code s = some a) : CountsFit a.s := by
  obtain ⟨c, _, rfl⟩ := Option.map_eq_some_iff.1 h
  have worked := workArrival_fits code c.1 c.2 hs
  exact .ite (tryActivate_fits worked) (activateAfterEnd_fits s worked)

/-! ### Requests (R202) -/

theorem refreshJog_fits (d : Direction) (v n : Int) (hs : CountsFit s) : CountsFit (refreshJog d v n s) := by
  have refreshed : CountsFit (setJob (.jog d (min v s.xhc.config.jogLimit) n) s) := hs.of_eq rfl rfl
  exact .ite (activateAfterEnd_fits s (refreshed.grow (endMotion_grows _ .rfl)))
    (.ite (sendWord_fits (refreshed.of_eq rfl rfl)) refreshed)

theorem placeRequest_fits (rq : MotionRequest) (hs : CountsFit s) : CountsFit (placeRequest rq s) := by
  unfold placeRequest placeRetract
  split
  · split
    · exact takeRequest_fits _ _ (hs.of_eq (by simp) (by simp))
    · exact hs.of_eq rfl rfl
  · exact hs.of_eq rfl rfl

theorem admitMotion_fits (rq : MotionRequest) (hs : CountsFit s) : CountsFit (admitMotion rq s) :=
  tryActivate_fits (placeRequest_fits _ (.ite (hs.of_eq (by simp) (by simp)) hs))

theorem motionReply_fits (p : Port) (tag : Tag) (j : MotionJob) (hs : CountsFit s) : CountsFit (motionReply p tag j s).state := by
  unfold motionReply
  split
  · exact hs
  split
  · exact hs
  · exact admitMotion_fits _ hs

theorem jogReply_fits (p : Port) (tag : Tag) (d : Direction) (v n : Int) (hs : CountsFit s) :
    CountsFit (jogReply p tag d v n s).state := by
  unfold jogReply
  split
  · exact hs
  split
  · exact refreshJog_fits d v n hs
  · exact motionReply_fits _ _ _ hs

theorem passClaim_fits (hs : CountsFit s) : CountsFit (passClaim s) := by
  unfold passClaim
  split
  · exact tryActivate_fits (hs.of_eq (by simp) (by simp))
  · exact hs.of_eq rfl rfl

theorem releaseFrameReply_fits (p : Port) (hs : CountsFit s) : CountsFit (releaseFrameReply p s).state := by
  unfold releaseFrameReply
  split
  · split
    · exact hs
    split
    · exact hs
    · exact passClaim_fits hs
  split
  · exact hs.of_eq (by simp) (by simp)
  · exact hs

theorem stopMotionReply_fits (p : Port) (hs : CountsFit s) : CountsFit (stopMotionReply p s).state := by
  unfold stopMotionReply
  split
  · exact hs.of_eq (by simp) (by simp)
  · split
    · exact hs
    · exact activateAfterEnd_fits s (hs.grow (endMotion_grows _ .rfl))
  · exact hs

theorem holdTestReply_fits (hs : CountsFit s) : CountsFit (holdTestReply s).state := by
  unfold holdTestReply
  split
  · exact hs.grow (holdTest_grows _ .rfl)
  · exact hs

theorem resumeTestReply_fits (hs : CountsFit s) : CountsFit (resumeTestReply s).state := by
  unfold resumeTestReply
  split
  · exact hs
  split
  · exact hs
  · exact hs.grow (releaseTest_grows .rfl)

theorem abortTestReply_fits (hs : CountsFit s) : CountsFit (abortTestReply s).state := by
  unfold abortTestReply
  split
  · exact hs
  · exact activateAfterEnd_fits s (closeTest_fits _ hs)
  · exact activateAfterEnd_fits s (closeTest_fits _ hs)

theorem adjustRateReply_fits (whole : Bool) (rate : Int) (hs : CountsFit s) : CountsFit (adjustRateReply whole rate s).state := by
  unfold adjustRateReply
  split
  · exact hs
  split
  · exact hs
  split
  · exact hs.grow (adjustRate_grows _ .rfl)
  · exact hs

theorem extensometerPlacedReply_fits (hs : CountsFit s) : CountsFit (extensometerPlacedReply s).state := by
  unfold extensometerPlacedReply
  split
  · split
    · exact leavePlacing_fits (hs.of_eq (by simp) rfl)
    split
    · exact hs.of_eq rfl rfl
    · exact hs
  · split
    · exact hs.of_eq rfl rfl
    · exact hs
  all_goals exact hs

theorem confirmRemoval_fits (hs : CountsFit s) : CountsFit (confirmRemoval s) := by
  have parked : CountsFit (setExtState .parked (stopRemoval s)) := hs.of_eq rfl rfl
  unfold confirmRemoval
  simp only []
  split
  · exact parked.grow (releaseTest_grows .rfl)
  · exact parked

theorem extensometerRemovedReply_fits (hs : CountsFit s) : CountsFit (extensometerRemovedReply s).state := by
  unfold extensometerRemovedReply
  split
  · exact confirmRemoval_fits hs
  · exact confirmRemoval_fits hs
  · exact hs.of_eq rfl rfl
  · exact hs.grow (unannouncedRemoval_grows .rfl)
  · exact hs
  · exact hs

theorem readPageReply_fits (hs : CountsFit s) : CountsFit (readPageReply s).state := by
  unfold readPageReply
  split
  · exact hs
  · exact setLevel_fits (hs.of_eq rfl rfl)

/-- A request's reply touches neither the test in progress nor the miss count. -/
def CountsUntouched (s : State) (r : Reply) : Prop :=
  r.state.tex.test = s.tex.test ∧ r.state.ldc.missCount = s.ldc.missCount

theorem CountsUntouched.fits {r : Reply} (h : CountsUntouched s r) (hs : CountsFit s) : CountsFit r.state :=
  hs.of_eq h.1 h.2

theorem ackFlagsReply_untouched (p : Port) (w : BitVec 16) (s : State) : CountsUntouched s (ackFlagsReply p w s) := by
  unfold ackFlagsReply
  split <;> simp [CountsUntouched]

theorem setNoticesReply_untouched (p : Port) (w : BitVec 16) (b : Byte) (s : State) :
    CountsUntouched s (setNoticesReply p w b s) := by
  unfold setNoticesReply
  (repeat' split) <;> simp [CountsUntouched]

theorem configureFrameReply_untouched (u : FrameUpdate) (s : State) : CountsUntouched s (configureFrameReply u s) := by
  unfold configureFrameReply
  simp only []
  (repeat' split) <;> simp [CountsUntouched]

theorem setRangeReply_untouched (x : Int) (s : State) : CountsUntouched s (setRangeReply x s) := by
  unfold setRangeReply
  (repeat' split) <;> simp [CountsUntouched, selectRange_ldc]

theorem tareReply_untouched (s : State) : CountsUntouched s (tareReply s) := by
  unfold tareReply
  (repeat' split) <;> simp [CountsUntouched]

theorem definePlanReply_untouched (x : Int) (g : PlanUpdate) (l : List StageDef) (s : State) :
    CountsUntouched s (definePlanReply x g l s) := by
  unfold definePlanReply
  (repeat' split) <;> simp [CountsUntouched]

theorem readPlanReply_untouched (x : Int) (s : State) : CountsUntouched s (readPlanReply x s) := by
  unfold readPlanReply
  (repeat' split) <;> simp [CountsUntouched]

theorem claimFrameReply_untouched (p : Port) (s : State) : CountsUntouched s (claimFrameReply p s) := by
  unfold claimFrameReply
  (repeat' split) <;> simp [CountsUntouched]

theorem collectCompletionReply_untouched (p : Port) (s : State) : CountsUntouched s (collectCompletionReply p s) := by
  unfold collectCompletionReply
  split <;> simp [CountsUntouched]

theorem specimenMountedReply_untouched (id : Text) (w t d : Option Int) (s : State) :
    CountsUntouched s (specimenMountedReply id w t d s) := by
  unfold specimenMountedReply
  (repeat' split) <;> simp [CountsUntouched]

theorem specimenUnmountedReply_untouched (s : State) : CountsUntouched s (specimenUnmountedReply s) := by
  unfold specimenUnmountedReply
  (repeat' split) <;> simp [CountsUntouched]

theorem enqueueSpecimenReply_untouched (p : SpecimenParams) (s : State) : CountsUntouched s (enqueueSpecimenReply p s) := by
  unfold enqueueSpecimenReply
  (repeat' split) <;> simp [CountsUntouched]

theorem cancelSpecimenReply_untouched (id : Text) (s : State) : CountsUntouched s (cancelSpecimenReply id s) := by
  unfold cancelSpecimenReply
  (repeat' split) <;> simp [CountsUntouched]

theorem setGradeLimitsReply_untouched (g : Int) (l : Option GradeLimits) (s : State) :
    CountsUntouched s (setGradeLimitsReply g l s) := by
  unfold setGradeLimitsReply
  (repeat' split) <;> simp [CountsUntouched]

theorem readGradeLimitsReply_untouched (g : Int) (s : State) : CountsUntouched s (readGradeLimitsReply g s) := by
  unfold readGradeLimitsReply
  (repeat' split) <;> simp [CountsUntouched]

theorem collectResultReply_untouched (s : State) : CountsUntouched s (collectResultReply s) := by
  unfold collectResultReply
  split <;> simp [CountsUntouched]

theorem peekResultReply_untouched (s : State) : CountsUntouched s (peekResultReply s) := by
  unfold peekResultReply
  split <;> simp [CountsUntouched]

theorem writeSiteCalibrationReply_untouched (x : CalSection) (n : Int) (l : List CalPoint) (s : State) :
    CountsUntouched s (writeSiteCalibrationReply x n l s) := by
  unfold writeSiteCalibrationReply
  (repeat' split) <;> simp [CountsUntouched]

/-! ### Every command -/

theorem setPort_fits (p : Port) (v : PortState) (hs : CountsFit s) : CountsFit (s.setPort p v) :=
  hs.of_eq (by simp) (by simp)

theorem request_fits {k : RequestKind} {r : Req} {s t : State} {body : State → Reply} (hs : CountsFit s)
    (hbody : CountsFit (body s).state) (h : request k r s body = .next t) : CountsFit t :=
  request_keeps (fun _ _ _ hu => setPort_fits _ _ hu) (fun _ => hbody) hs h

theorem next_fits {s t : State} (h : (.next s : Result) = .next t) (hs : CountsFit s) : CountsFit t := by
  cases h
  exact hs

theorem exec_fits {i : Instr} {s t : State} (hs : CountsFit s) (h : exec i s = .next t) : CountsFit t := by
  cases i with
  | readStatus r => exact request_fits hs hs h
  | readLive r => exact request_fits hs hs h
  | readFlags r => exact request_fits hs (setPort_fits _ _ hs) h
  | ackFlags r w => exact request_fits hs ((ackFlagsReply_untouched ..).fits hs) h
  | setNotices r w b => exact request_fits hs ((setNoticesReply_untouched ..).fits hs) h
  | readQueue r => exact request_fits hs hs h
  | nop r => exact request_fits hs hs h
  | configureFrame r u => exact request_fits hs ((configureFrameReply_untouched ..).fits hs) h
  | setRange r x => exact request_fits hs ((setRangeReply_untouched ..).fits hs) h
  | tare r => exact request_fits hs ((tareReply_untouched s).fits hs) h
  | clearFaults r => exact request_fits hs (hs.of_eq rfl rfl) h
  | definePlan r x g l => exact request_fits hs ((definePlanReply_untouched ..).fits hs) h
  | readPlan r x => exact request_fits hs ((readPlanReply_untouched ..).fits hs) h
  | referenceSearch r => exact request_fits hs (motionReply_fits _ _ _ hs) h
  | startTest r => exact request_fits hs (motionReply_fits _ _ _ hs) h
  | holdTest r => exact request_fits hs (holdTestReply_fits hs) h
  | resumeTest r => exact request_fits hs (resumeTestReply_fits hs) h
  | abortTest r => exact request_fits hs (abortTestReply_fits hs) h
  | adjustRate r x => exact request_fits hs (adjustRateReply_fits _ _ hs) h
  | claimFrame r => exact request_fits hs ((claimFrameReply_untouched ..).fits hs) h
  | releaseFrame r => exact request_fits hs (releaseFrameReply_fits _ hs) h
  | moveTo r x v => exact request_fits hs (motionReply_fits _ _ _ hs) h
  | stopMotion r => exact request_fits hs (stopMotionReply_fits _ hs) h
  | collectCompletion r => exact request_fits hs ((collectCompletionReply_untouched ..).fits hs) h
  | jog r d v n => exact request_fits hs (jogReply_fits _ _ _ _ _ hs) h
  | retract r => exact request_fits hs (motionReply_fits _ _ _ hs) h
  | specimenMounted r x w t d => exact request_fits hs ((specimenMountedReply_untouched ..).fits hs) h
  | specimenUnmounted r => exact request_fits hs ((specimenUnmountedReply_untouched s).fits hs) h
  | extensometerPlaced r => exact request_fits hs (extensometerPlacedReply_fits hs) h
  | extensometerRemoved r => exact request_fits hs (extensometerRemovedReply_fits hs) h
  | enqueueSpecimen r p => exact request_fits hs ((enqueueSpecimenReply_untouched ..).fits hs) h
  | cancelSpecimen r x => exact request_fits hs ((cancelSpecimenReply_untouched ..).fits hs) h
  | setGradeLimits r g l => exact request_fits hs ((setGradeLimitsReply_untouched ..).fits hs) h
  | readGradeLimits r g => exact request_fits hs ((readGradeLimitsReply_untouched ..).fits hs) h
  | collectResult r => exact request_fits hs ((collectResultReply_untouched s).fits hs) h
  | peekResult r => exact request_fits hs ((peekResultReply_untouched s).fits hs) h
  | readPage r => exact request_fits hs (readPageReply_fits hs) h
  | writeSiteCalibration r x n l => exact request_fits hs ((writeSiteCalibrationReply_untouched ..).fits hs) h
  | readCalibration r => exact request_fits hs hs h
  | unknownRequest p tag k => exact next_fits h (setPort_fits _ _ hs)
  | writeNotTaken p b => exact next_fits h (.ite (setPort_fits _ _ hs) hs)
  | readTransaction p n => exact next_fits h (setPort_fits _ _ hs)
  | powerOnReset => exact next_fits h (.of_idle rfl (Nat.zero_le _))
  | warmReset => exact next_fits h (.of_idle rfl (Nat.zero_le _))
  | sampleTimerExpiry => exact next_fits h (expire_fits hs)
  | loadFaultDeclaration => exact next_fits h (.ite (expire_fits hs) hs)
  | placementTimeout => exact next_fits h (.ite (expire_fits hs) hs)
  | removalTimeout => exact next_fits h (.ite (expire_fits hs) hs)
  | conversionEndStrobe =>
    simp only [exec, execConversionEndStrobe] at h
    split at h
    · exact next_fits h (hs.of_eq rfl rfl)
    · exact next_fits h hs
  | sampleArrival code =>
    simp only [exec, execSampleArrival, arrived] at h
    split at h
    next arriving => exact next_fits h (arrive_fits hs arriving)
    next => exact next_fits h hs
  | stageTimeout code =>
    simp only [exec, execStageTimeout] at h
    split at h
    next arriving => exact next_fits h (.ite (arrive_fits hs arriving) hs)
    next => exact next_fits h hs
  | endOfTail code =>
    simp only [exec, execEndOfTail] at h
    split at h
    next arriving => exact next_fits h (.ite (arrive_fits hs arriving) hs)
    next => exact next_fits h hs
  | brakeReleaseExpiry => exact next_fits h (brakeReleased_fits hs)
  | holdTimerExpiry => exact next_fits h (.ite (hs.of_eq rfl rfl) hs)
  | jogDurationExpiry => exact next_fits h (.ite (activateAfterEnd_fits s (hs.grow (endMotion_grows _ .rfl))) hs)
  | activation => exact next_fits h (tryActivate_fits hs)
  | encoderEdge d => exact next_fits h (edge_fits d hs)
  | searchTravelLimit d => exact next_fits h (.ite (edge_fits d hs) hs)
  | extQuadratureEdge d => exact next_fits h (hs.of_eq rfl rfl)
  | referenceSwitchEvent => exact next_fits h (referenceSwitchOn_fits hs)
  | referenceSwitchRelease => exact next_fits h (referenceSwitchOff_fits hs)
  | hardLimitSwitchEvent side => exact next_fits h (hardLimitOn_fits side hs)
  | hardLimitSwitchRelease side => exact next_fits h (hs.of_eq rfl rfl)
  | gateOpening => exact next_fits h (gateOpens_fits hs)
  | gateClosing => exact next_fits h (.ite (hs.of_eq (by simp) (by simp)) hs)
  | emergencyStopAssertion => exact next_fits h (emergencyStops_fits hs)
  | emergencyStopRelease => exact next_fits h (hs.of_eq rfl rfl)
  | calProgrammingCompletion l => exact next_fits h (completeProgramming_fits l hs)

end Sys2Proof.Machine

open Sys2Proof Sys2Proof.Machine

/-- Settles O59: an entry joins the event list only while it has room, or raises the dropped count to at most 65,535
(`logEvent_grows`); an expiry raises the miss count to at most 4 (`startConversion_fits`); every command is made of operations
that keep these bounds. -/
theorem countsKeptByEveryStep : Obligations.CountsKeptByEveryStep := by
  unfold Obligations.CountsKeptByEveryStep
  intro s t events miss h
  exact step_keeps (P := CountsFit) (fun _ _ hs => hs.of_eq rfl rfl) (fun _ _ _ hs h => exec_fits hs h) ⟨events, miss⟩ h

end

section

/-! PROOF. SET RANGE, TARE and WRITE SITE CALIBRATION, answered, and the completion of a programming (R29, R30, R33, R210,
R211). -/

namespace Sys2Proof.Machine

theorem testIdle_of_none {s : State} (h : s.tex.test = none) : s.testIdle = true := by
  simp [State.testIdle, h]

theorem testIdle_of_test {s : State} (h : s.tex.test ≠ none) : s.testIdle = false := by
  simpa [State.testIdle, Option.isSome_iff_ne_none] using h

theorem isSome_of_ne_none {α : Type} {o : Option α} (h : o ≠ none) : o.isSome = true :=
  Option.isSome_iff_ne_none.2 h

theorem rangeOfNumber_rangeNumber (x : LoadRange) : rangeOfNumber (rangeNumber x) = some x := by
  cases x <;> rfl

theorem rangeOfNumber_eq_none {n : Int} (h : ¬ (1 ≤ n ∧ n ≤ 4)) : rangeOfNumber n = none := by
  have other k (hk : 1 ≤ k ∧ k ≤ 4) : n ≠ k := fun same => h (same ▸ hk)
  simp [rangeOfNumber, other]

/-- The bound of R29 without the magnitude. -/
theorem tareInRange_iff {fcap g : Int} : tareInRange fcap g = true ↔ g * 100 ≤ fcap * 5 ∧ -(g * 100) ≤ fcap * 5 := by
  simp only [tareInRange, decide_eq_true_eq]
  omega

end Sys2Proof.Machine

open Sys2Proof Sys2Proof.Machine

/-- Settles O12, check by check of R33. -/
theorem rangeSet : Obligations.RangeSet := by
  unfold Obligations.RangeSet
  intro r n s form port
  have allowed : permitted .setRange r.port = true := by rw [port]; rfl
  refine ⟨fun outside => ?_, ?_⟩
  · exact request_answered allowed form (by simp [setRangeReply, rangeOfNumber_eq_none outside, Reply.plain])
  · rintro x rfl
    have number := rangeOfNumber_rangeNumber x
    refine ⟨fun inTest => ?_, fun idle busy => ?_, fun idle free same => ?_, fun idle free other => ?_⟩
    all_goals refine request_answered allowed form ?_
    · simp [setRangeReply, number, testIdle_of_test inTest, Reply.plain]
    · simp [setRangeReply, number, testIdle_of_none idle, isSome_of_ne_none busy, Reply.plain]
    · simp [setRangeReply, number, testIdle_of_none idle, free, selectRange, same, Reply.plain]
    · simp [setRangeReply, number, testIdle_of_none idle, free, selectRange, other, Reply.plain]

/-- Settles O13, check by check of R29; the bound on the magnitude is `tareInRange_iff`. -/
theorem tareTakesTheLastGrossForce : Obligations.TareTakesTheLastGrossForce := by
  unfold Obligations.TareTakesTheLastGrossForce
  intro r s form port
  have allowed : permitted .tare r.port = true := by rw [port]; rfl
  refine ⟨fun inTest => ?_, fun idle => ⟨fun busy => ?_, fun free => ⟨fun noGross => ?_, fun g gross => ⟨fun fits => ?_,
    fun far => ?_⟩⟩⟩⟩
  all_goals refine request_answered allowed form ?_
  · simp [tareReply, testIdle_of_test inTest, Reply.plain]
  · simp [tareReply, testIdle_of_none idle, isSome_of_ne_none busy, Reply.plain]
  · simp [tareReply, testIdle_of_none idle, free, noGross, Reply.plain]
  · simp [tareReply, testIdle_of_none idle, free, gross, tareInRange_iff.2 fits, setTare]
  · simp [tareReply, testIdle_of_none idle, free, gross, mt tareInRange_iff.1 far, Reply.plain]

namespace Sys2Proof.Machine

/-! ### Programming a site table (R210, R211) -/

/-- WRITE SITE CALIBRATION outside a test and with no write in flight: a factory table is protected, a site table is checked for
its form (R210). -/
theorem writeSiteCalibrationReply_idle {s : State} (idle : s.tex.test = none) (free : s.cal.inFlight = none) (x : LoadRange)
    (points : List CalPoint) :
    writeSiteCalibrationReply .factory (rangeNumber x) points s = .plain s .isProtected ∧
    writeSiteCalibrationReply .site (rangeNumber x) points s =
      if tableForm points then .plain (beginProgramming x points s) .ok else .plain s .badTable := by
  simp [writeSiteCalibrationReply, rangeOfNumber_rangeNumber, testIdle_of_none idle, free]

theorem completeProgramming_eq {w : CalWrite} {s : State} (h : s.cal.inFlight = some w) (read : List CalPoint) :
    completeProgramming read s =
      raise .record .calDone { verifyTable w read s with ldc := { (verifyTable w read s).ldc with tare := 0 } } := by
  simp [completeProgramming, h]

end Sys2Proof.Machine

open Sys2Proof Sys2Proof.Machine

/-- Settles O32: the reply of a write from R210's checks, the completion from `verifyTable` by whether the table reads back as
written. -/
theorem siteCalibrationProgrammed : Obligations.SiteCalibrationProgrammed := by
  unfold Obligations.SiteCalibrationProgrammed
  constructor
  · intro r x points s form port idle free
    have allowed : permitted .writeSiteCalibration r.port = true := by rw [port]; rfl
    obtain ⟨protect, site⟩ := writeSiteCalibrationReply_idle idle free x points
    refine ⟨request_answered allowed form protect, fun bad => request_answered allowed form ?_,
      fun good => request_answered allowed form ?_⟩
    · rw [site, bad]
      rfl
    · rw [site, good]
      rfl
  · intro w read s flying
    have completed : exec (.calProgrammingCompletion read) s = .next (completeProgramming read s) := rfl
    rw [completed, completeProgramming_eq flying]
    refine ⟨fun same => ?_, fun differ => ?_⟩
    · simp [verifyTable, same]
    · simp only [verifyTable, if_neg differ, enterFault_frame]
      rfl

end

section

/-! PROOF. The sample timer's expiry, outside a test and in one, and the conversion-end strobe (R20 to R22, R118). -/

namespace Sys2Proof.Machine

variable {s : State} {t : TestContext}

/-! ### Events and expired timers in a test -/

theorem phase_of_test (h : s.tex.test = some t) : s.phase = some t.phase := by
  simp [State.phase, h]

theorem raise_test (p : Port) (n : Notice) (s : State) : (raise p n s).tex.test = s.tex.test := by
  simp

theorem updateTest_test (f : TestContext → TestContext) (h : s.tex.test = some t) : (updateTest f s).tex.test = some (f t) := by
  simp [h]

/-- An entry changes the event list or its dropped count only (R129). -/
theorem logEvent_kept (t : TestContext) (e : Event) :
    (t.logEvent e).phase = t.phase ∧ (t.logEvent e).stage = t.stage ∧ (t.logEvent e).flags = t.flags := by
  unfold TestContext.logEvent
  split <;> exact ⟨rfl, rfl, rfl⟩

theorem addEvent_test (k : EventKind) (v : Int) (h : s.tex.test = some t) :
    (addEvent k v s).tex.test = some (t.logEvent ⟨k, sampleNumber t.arrivals, v⟩) := by
  simp [addEvent, addEventAt, h]

/-- A removal timeout leaves the stage as it is, and a RUNNING test RUNNING (R56). -/
theorem removalExpires_test (p : Plan) (h : s.tex.test = some t) :
    ∃ t', (removalExpires p s).tex.test = some t' ∧ t'.stage = t.stage ∧ (t.phase = .running → t'.phase = .running) := by
  have late : (setTestFlags (fun f => { f with extLate := true }) { s with exc := { s.exc with removal := none } }).tex.test =
      some { t with flags := { t.flags with extLate := true } } := updateTest_test _ h
  simp only [removalExpires]
  split
  · exact ⟨_, late, rfl, id⟩
  split
  next r held =>
    have cause : t.phase = .held .extRemoval r := by simpa [phase_of_test late] using held
    exact ⟨_, (raise_test ..).trans (addEvent_test _ _ (updateTest_test _ late)), by simp [logEvent_kept], by simp [cause]⟩
  next => exact ⟨_, (raise_test ..).trans late, rfl, id⟩
  next => exact ⟨_, late, rfl, id⟩

/-! ### The extensometer's timers at an expiry -/

/-- A placement timer that stands still does not expire. -/
theorem advancePlacement_off (p : Plan) {e : Expiry} (off : e.s.exc.placement = none) : advancePlacement p e = e := by
  have still : advanceTimer e.s.ldc.sampleInterval (timersPaused e.s) e.s.exc.placement = e.s.exc.placement := by
    simp [advanceTimer, off]
  have running : timerReached e.s.exc.placement p.placementTimeout = false := by rw [off]; rfl
  simp only [advancePlacement, still, running]
  simp

/-- What the removal timer at an expiry leaves of a test (R56). -/
theorem advanceRemoval_test (p : Plan) {e : Expiry} (h : e.s.tex.test = some t) :
    ∃ t', (advanceRemoval p e).s.tex.test = some t' ∧ t'.stage = t.stage ∧
      (t.phase = .running → t'.phase = .running) := by
  simp only [advanceRemoval]
  split
  · exact removalExpires_test p h
  · exact ⟨t, h, rfl, id⟩

theorem advanceRemoval_kept (p : Plan) (e : Expiry) :
    (advanceRemoval p e).s.ldc = e.s.ldc ∧ (advanceRemoval p e).s.xhc = e.s.xhc ∧ (advanceRemoval p e).s.mar = e.s.mar ∧
      (advanceRemoval p e).s.rlp = e.s.rlp ∧ (advanceRemoval p e).declared = e.declared := by
  simp only [advanceRemoval]
  split <;> simp

@[simp] theorem advanceTimers_kept (e : Expiry) :
    (advanceTimers e).s.ldc = e.s.ldc ∧ (advanceTimers e).s.xhc = e.s.xhc ∧ (advanceTimers e).s.mar = e.s.mar ∧
      (advanceTimers e).declared = e.declared := by
  unfold advanceTimers
  split
  · simp only [advanceRemoval_kept, advancePlacement]
    split <;> simp
  · simp

/-- An expiry begins with the load channel and the stage (R21, R118). -/
@[simp] theorem beginExpiry_kept (s : State) :
    (beginExpiry s).s.ldc = (startConversion s).ldc ∧ (beginExpiry s).s.exc = s.exc ∧ (beginExpiry s).s.xhc = s.xhc ∧
      (beginExpiry s).s.mar = s.mar ∧ (beginExpiry s).s.rlp = s.rlp := by
  simp [beginExpiry]

/-! ### An expiry in a test -/

/-- Stage time advances in RUNNING alone (R118). -/
theorem advanceStage_test {x : StageRun} (h : s.tex.test = some t) (stage : t.stage = some x) :
    ∃ t', (advanceStage s).tex.test = some t' ∧ t'.phase = t.phase ∧
      t'.stage = some (if t.phase = .running then { x with elapsed := x.elapsed + s.ldc.sampleInterval } else x) := by
  have phase := phase_of_test h
  unfold advanceStage
  split
  next running =>
    have now : t.phase = .running := by simpa [phase] using running
    exact ⟨_, updateTest_test _ h, rfl, by simp [stage, now]⟩
  next other =>
    have not : t.phase ≠ .running := fun now => other (by rw [phase, now])
    exact ⟨t, h, rfl, by simp [stage, not]⟩

/-- An expiry with no load fault, none declared: the conversion, stage time and the timers (R21, R118). -/
theorem workExpiry_undeclared (fault : s.ldc.loadFault = false) (calm : missCountReaches s = false) :
    workExpiry s = advanceTimers (beginExpiry s) := by
  have declared : (beginExpiry s).declared = false := calm
  simp [workExpiry, declareAtExpiry, wordAtExpiry, declared, fault]

theorem advanceTimers_test {e : Expiry} (h : e.s.tex.test = some t) (off : e.s.exc.placement = none) :
    (advanceTimers e).s.rlp = e.s.rlp ∧
    ∃ t', (advanceTimers e).s.tex.test = some t' ∧ t'.stage = t.stage ∧ (t.phase = .running → t'.phase = .running) := by
  have plan : e.s.plan = some t.plan := by simp [State.plan, h]
  simp only [advanceTimers, plan, advancePlacement_off _ off]
  exact ⟨by simp only [advanceRemoval_kept], advanceRemoval_test _ h⟩

/-! ### An expiry outside a test -/

/-- With no motion active the word is zero (R70). -/
theorem sendWord_idle (h : s.mar.active = none) : sendWord s = sendWordValue 0 s := by
  have base : baseValue s = 0 := by simp [baseValue, h]
  have word : formWord s 0 = 0 := by
    cases gate : s.inputs.gateOpen <;> simp [formWord, forcedZero, cellMotion, h, gate]
  simp [sendWord, base, towardSoftLimit, word]

theorem endMotion_idle (o : MotionOutcome) (h : s.mar.active = none) : endMotion o s = s := by
  simp [endMotion, activeMotion, h]

/-- No activation follows a work that ended no motion (R94). -/
theorem activateAfterEnd_of_active {b : State} (h : s.mar.active = b.mar.active) : activateAfterEnd b s = s := by
  cases active : b.mar.active <;> simp [activateAfterEnd, h, active]

/-- Outside a test neither stage time nor a timer advances. -/
theorem advanceTimers_idle (h : s.tex.test = none) :
    advanceTimers (beginExpiry s) = ⟨startConversion s, missCountReaches s, false, false⟩ := by
  have phase : (startConversion s).phase = none := by simp [State.phase, h]
  have stage : advanceStage (startConversion s) = startConversion s := by simp [advanceStage, phase]
  simp [advanceTimers, beginExpiry, stage, State.plan, h]

/-- LOAD_FAULT is declared outside a test with no motion active (R22). -/
theorem declareLoadFault_idle (test : s.tex.test = none) (active : s.mar.active = none) :
    declareLoadFault s = enterFault .loadFault { s with ldc := { s.ldc with loadFault := true } } := by
  have ended : ∀ o, endMotion o (enterFault .loadFault { s with ldc := { s.ldc with loadFault := true } }) = _ :=
    fun o => endMotion_idle o (by simpa using active)
  simp only [declareLoadFault, ended, abortTest]
  exact closeTest_of_idle _ (by simpa using test)

/-- A step of the sample timer that leaves the miss count below 4. -/
theorem expire_idle_calm (test : s.tex.test = none) (fault : s.ldc.loadFault = false) (calm : missCountReaches s = false) :
    (expire s).s = startConversion s := by
  simp [expire, workExpiry_undeclared fault calm, advanceTimers_idle test, activateAfterEnd_of_active]

/-- A step of the sample timer that brings the miss count to 4 (R22). -/
theorem expire_idle_declared (test : s.tex.test = none) (active : s.mar.active = none) (fourth : missCountReaches s = true) :
    (expire s).declared = true ∧
    (expire s).s = enterFault .loadFault { startConversion s with
      ldc := { (startConversion s).ldc with loadFault := true }, xhc := { s.xhc with word := 0 } } := by
  have declared : (declareAtExpiry (advanceTimers (beginExpiry s))) =
      ⟨enterFault .loadFault { startConversion s with ldc := { (startConversion s).ldc with loadFault := true } },
        true, false, false⟩ := by
    simp only [advanceTimers_idle test, fourth, declareAtExpiry, if_true]
    rw [declareLoadFault_idle (s := startConversion s) test active]
  have word := sendWord_idle (s := (declareAtExpiry (advanceTimers (beginExpiry s))).s) (by simp [declared, active])
  have worked : workExpiry s = { declareAtExpiry (advanceTimers (beginExpiry s)) with
      s := sendWordValue 0 (declareAtExpiry (advanceTimers (beginExpiry s))).s } := by
    rw [← word, workExpiry, wordAtExpiry, if_pos (by simp [declared])]
  simp only [expire, worked, declared]
  exact ⟨trivial, activateAfterEnd_of_active (by simp)⟩

theorem missCountReaches_iff : missCountReaches s = true ↔ s.ldc.conversion ≠ none ∧ s.ldc.missCount = 3 := by
  simp [missCountReaches, conversionMissed, Option.isSome_iff_ne_none]

end Sys2Proof.Machine

open Sys2Proof Sys2Proof.Machine

/-- Settles O35: an expiry in a test by `advanceStage_test` and `advanceTimers_test`, one outside by whether it is the fourth
miss, the strobe by the conversion in flight. -/
theorem expiryAndStrobe : Obligations.ExpiryAndStrobe := by
  unfold Obligations.ExpiryAndStrobe
  refine ⟨?_, ?_, fun s => ⟨?_, ?_, ?_⟩⟩
  · intro s t x test stage fault off calm
    have undeclared : missCountReaches s = false := by
      rw [← Bool.not_eq_true, missCountReaches_iff]
      tauto
    obtain ⟨t₁, test₁, phase₁, stage₁⟩ := advanceStage_test (s := startConversion s) test stage
    obtain ⟨loop, t', test', stage', running⟩ := advanceTimers_test (e := beginExpiry s) test₁ (by simpa using off)
    have expired : (expire s).s = (advanceTimers (beginExpiry s)).s := by
      simp only [expire, workExpiry_undeclared fault undeclared]
      exact activateAfterEnd_of_active (by simp)
    refine ⟨(expire s).s, t', rfl, by rw [expired, test'], fun now => ?_, fun other => ?_, ?_, ?_, ?_, ?_⟩
    · exact ⟨running (phase₁.trans now), by simp [stage', stage₁, now]⟩
    · simp [stage', stage₁, other]
    all_goals simp [expired, loop]
  · intro s test active fault
    have expiry : exec .sampleTimerExpiry s = .next (expire s).s := rfl
    have declaration : exec .loadFaultDeclaration s = .next (if (expire s).declared then (expire s).s else s) := rfl
    refine ⟨fun free => ?_, fun c flying few => ?_, fun c flying third => ?_⟩
    · rw [expiry, expire_idle_calm test fault (by simp [missCountReaches, conversionMissed, free])]
      simp [startConversion, missCountAfter, conversionMissed, free]
    · have below : s.ldc.missCount + 1 ≤ 4 := by omega
      rw [expiry, expire_idle_calm test fault (by simp [missCountReaches]; omega)]
      simp [startConversion, missCountAfter, conversionMissed, flying, below]
    · obtain ⟨declared, expired⟩ := expire_idle_declared test active (missCountReaches_iff.2 ⟨by simp [flying], third⟩)
      rw [declaration, expiry, declared, expired]
      simp [startConversion, missCountAfter, conversionMissed, flying, third]
  · intro free
    simp [exec, execConversionEndStrobe, free]
  · intro range l latched
    simp [exec, execConversionEndStrobe, latched]
  · intro range flying
    simp [exec, execConversionEndStrobe, flying, latchNow]

end

section

/-! PROOF. A sample arrival outside a test (R24 to R28, R36, R70, R75, R79): the works that a test alone would give effect, the
end and the word of another active motion, and the arrival with no motion. -/

namespace Sys2Proof.Machine

variable {s : State} {a : Arrival}

/-- An arrival begins with the load channel alone (R21, R23, R32). -/
@[simp] theorem beginArrival_fields (code : Int) (range : LoadRange) (l : Latch) (s : State) :
    (beginArrival code range l s).s = loadTaken s ∧ (beginArrival code range l s).latch = l ∧
      (beginArrival code range l s).set = loadSample code range l s ∧
      (beginArrival code range l s).settled = (s.ldc.settle == 0) ∧ (beginArrival code range l s).slip = none ∧
      (beginArrival code range l s).closing = none := by
  simp [beginArrival]

@[simp] theorem loadTaken_kept (s : State) :
    (loadTaken s).spt = s.spt ∧ (loadTaken s).exc = s.exc ∧ (loadTaken s).xhc = s.xhc ∧ (loadTaken s).mar = s.mar ∧
      (loadTaken s).tex = s.tex ∧ (loadTaken s).rlp = s.rlp ∧ (loadTaken s).cal = s.cal ∧
      (loadTaken s).inputs = s.inputs := by
  simp [loadTaken]

/-! ### The works that leave an arrival outside a test as it is -/

theorem stepUp_idle (h : a.s.tex.test = none) : stepUp a = a := by
  simp [stepUp, h]

theorem formStrain_slip_idle (h : a.s.tex.test = none) (slip : a.slip = none) : (formStrain a).slip = none := by
  unfold formStrain
  split
  · exact slip
  simp only []
  split
  · cases tracker : a.s.exc.tracker <;> simp [slipAt, State.plan, tracker, h]
  · exact slip

theorem updatePeak_idle (h : a.s.tex.test = none) : updatePeak a = a := by
  simp [updatePeak, raisesPeak, State.testIdle, h]

theorem formHandover_idle (h : a.s.tex.test = none) (slip : a.slip = none) : formHandover a = a := by
  simp [formHandover, State.plan, slip, h]

theorem evaluateArrival_idle (h : a.s.tex.test = none) : evaluateArrival a = a := by
  simp [evaluateArrival, h]

theorem executiveTakes_idle (h : a.s.tex.test = none) : executiveTakes a = a := by
  simp [executiveTakes, h]

theorem loopTakes_idle (h : a.s.tex.test = none) : loopTakes a = a := by
  simp [loopTakes, State.plan, h]

theorem captureTakes_idle (h : a.s.tex.test = none) : captureTakes a = a := by
  simp [captureTakes, State.plan, h]

theorem updateTest_idle (f : TestContext → TestContext) (h : s.tex.test = none) : updateTest f s = s := by
  have same : s.tex.test.map f = s.tex.test := by simp [h]
  simp only [updateTest, same]

theorem closeOrCount_idle (h : a.s.tex.test = none) (closing : a.closing = none) : (closeOrCount a).s = a.s := by
  rw [closeOrCount_counts a closing, updateTest_idle _ h]

/-! ### The end of another motion (R69, R98) -/

theorem testIsActive_of_active {m : ActiveMotion} (h : s.mar.active = some m) (other : m.job ≠ .test) :
    testIsActive s = false := by
  simpa [testIsActive, h] using other

theorem testIsActive_of_none (h : s.mar.active = none) : testIsActive s = false := by
  simp [testIsActive, h]

theorem activeMotion_of_active {m : ActiveMotion} (h : s.mar.active = some m) (other : m.job ≠ .test) :
    activeMotion s = some m := by
  rw [activeMotion, h]
  exact Option.filter_eq_some_iff.2 ⟨rfl, by simpa using other⟩

/-- No motion other than a test outlives its end. -/
theorem endMotion_active (o : MotionOutcome) (other : testIsActive s = false) : (endMotion o s).mar.active = none := by
  cases active : s.mar.active with
  | none => rw [endMotion_idle o active, active]
  | some m =>
    have job : m.job ≠ .test := by simpa [testIsActive, active] using other
    simp [endMotion, activeMotion_of_active active job]

theorem endMotion_queue (o : MotionOutcome) (s : State) : (endMotion o s).mar.queue = s.mar.queue := by
  unfold endMotion
  split <;> simp [fileActiveEnd]

/-- The end of another motion, for a hold time other than 0: the drive holds, and its completion stands in its port's slot. -/
theorem endMotion_other {port : Port} {tag : Tag} {j : ActiveJob} (o : MotionOutcome)
    (active : s.mar.active = some ⟨port, tag, j⟩) (other : j ≠ .test) (hold : s.xhc.config.holdTime ≠ 0) :
    (endMotion o s).xhc = holdingDrive s.xhc ∧
      (endMotion o s).mar = { s.mar with active := none }.setSlot port (some (ended (activeKind j) tag o s)) := by
  simp only [endMotion, activeMotion_of_active active other]
  constructor
  · simp [driveHold, stopDriveTimers, holdingDrive, hold, fileActiveEnd]
  · cases port <;> simp [clearActive, fileActiveEnd, Arbiter.setSlot, ended, finalPosition]

/-! ### The active motion at the arrival (R36, R75) -/

theorem evaluateMove_kept (x : Int) (s : State) :
    (evaluateMove x s).tex = s.tex ∧ (evaluateMove x s).rlp = s.rlp ∧ (evaluateMove x s).inputs = s.inputs ∧
      (evaluateMove x s).mar.queue = s.mar.queue := by
  unfold evaluateMove
  (repeat' split) <;> simp [endMotion_queue]

theorem evaluateMove_other (x : Int) (other : testIsActive s = false) : testIsActive (evaluateMove x s) = false := by
  have ends (o) : testIsActive (endMotion o s) = false := testIsActive_of_none (endMotion_active o other)
  unfold evaluateMove
  split
  · split
    next active =>
      split
      · exact ends _
      · simp [testIsActive, active]
    next active =>
      split
      · exact ends _
      · simp [testIsActive, active]
    next => exact other
  · exact other

theorem overloadEnds_other (other : testIsActive s = false) : testIsActive (overloadEnds s) = false := by
  unfold overloadEnds
  split
  · exact other
  · exact testIsActive_of_none (endMotion_active _ other)

theorem overloadEnds_kept (s : State) :
    (overloadEnds s).tex = s.tex ∧ (overloadEnds s).rlp = s.rlp ∧ (overloadEnds s).inputs = s.inputs ∧
      (overloadEnds s).mar.queue = s.mar.queue := by
  unfold overloadEnds
  split <;> simp [endMotion_queue]

theorem motionTakes_kept (a : Arrival) :
    (motionTakes a).s.tex = a.s.tex ∧ (motionTakes a).s.rlp = a.s.rlp ∧ (motionTakes a).s.inputs = a.s.inputs ∧
      (motionTakes a).s.mar.queue = a.s.mar.queue ∧ (motionTakes a).closing = a.closing := by
  unfold motionTakes
  split
  · simp [overloadEnds_kept]
  · simp [evaluateMove_kept]

theorem motionTakes_other (other : testIsActive a.s = false) : testIsActive (motionTakes a).s = false := by
  unfold motionTakes
  split
  · exact overloadEnds_other other
  · exact evaluateMove_other _ other

/-! ### The word of an arrival outside a test (R70, R79) -/

/-- Outside a test the word of an arrival is formed and sent as at any other event. -/
theorem wordTakes_other (other : testIsActive a.s = false) (closing : a.closing = none) :
    wordTakes a = a.mapState sendWord := by
  cases toward : towardSoftLimit a.s.xhc (baseValue a.s) <;>
    simp [wordTakes, closing, other, toward, sendWord, Arrival.mapState]

/-- A word sent with no test in progress touches the crosshead and the active motion only. -/
theorem sendWord_kept (h : s.tex.test = none) :
    (sendWord s).tex = s.tex ∧ (sendWord s).rlp = s.rlp ∧ (sendWord s).mar.queue = s.mar.queue := by
  have stopped : abortTest .softLimit (sendWordValue 0 s) = sendWordValue 0 s := closeTest_of_idle _ h
  simp only [sendWord, softLimitEvent, stopped]
  (repeat' split) <;> simp [endMotion_queue]

/-! ### The whole arrival outside a test -/

theorem overloadCheck_overloaded (a : Arrival) :
    (overloadCheck a).overloaded = sampleOverloaded a.s.xhc.config.fcap a.set := rfl

/-- An arrival outside a test as the active motion takes it (R24). -/
def arrivalForMotion (code : Int) (range : LoadRange) (l : Latch) (s : State) : Arrival :=
  formStrain (overloadCheck (beginArrival code range l s))

@[simp] theorem arrivalForMotion_kept (code : Int) (range : LoadRange) (l : Latch) (s : State) :
    (arrivalForMotion code range l s).s.xhc = s.xhc ∧ (arrivalForMotion code range l s).s.mar = s.mar ∧
      (arrivalForMotion code range l s).s.tex = s.tex ∧ (arrivalForMotion code range l s).s.rlp = s.rlp ∧
      (arrivalForMotion code range l s).s.inputs = s.inputs ∧ (arrivalForMotion code range l s).latch = l ∧
      (arrivalForMotion code range l s).closing = none ∧
      (arrivalForMotion code range l s).overloaded = sampleOverloaded s.xhc.config.fcap (loadSample code range l s) := by
  simp [arrivalForMotion, overloadCheck_overloaded]

/-- The works on an arrival outside a test that can have effect. -/
theorem workArrival_formed (code : Int) (range : LoadRange) (l : Latch) (test : s.tex.test = none) :
    workArrival code range l s =
      closeOrCount (captureTakes (publish (wordTakes (motionTakes (arrivalForMotion code range l s))))) := by
  have begun : (overloadCheck (beginArrival code range l s)).s.tex.test = none := by simpa using test
  have formed : (arrivalForMotion code range l s).s.tex.test = none := by simpa using test
  have slip : (arrivalForMotion code range l s).slip = none := formStrain_slip_idle begun (by simp)
  unfold workArrival
  rw [stepUp_idle begun, ← arrivalForMotion, updatePeak_idle formed, formHandover_idle formed slip, evaluateArrival_idle formed,
    executiveTakes_idle formed, loopTakes_idle formed]

/-- The arrival outside a test, nothing being queued: the code is formed, the active motion and the word are settled on the
sample, and it is published. -/
theorem sampleArrival_idle (code : Int) (range : LoadRange) (l : Latch) (test : s.tex.test = none)
    (other : testIsActive s = false) (queue : s.mar.queue = []) (flying : s.ldc.conversion = some ⟨range, some l⟩) :
    exec (.sampleArrival code) s =
      .next (publish ((motionTakes (arrivalForMotion code range l s)).mapState sendWord)).s := by
  obtain ⟨tex, -, -, queued, closing⟩ := motionTakes_kept (arrivalForMotion code range l s)
  have moved : (motionTakes (arrivalForMotion code range l s)).s.tex.test = none := by simp [tex, test]
  obtain ⟨texSent, -, queueSent⟩ := sendWord_kept moved
  have idle : testIsActive (arrivalForMotion code range l s).s = false := by simpa [testIsActive] using other
  have worked : (workArrival code range l s).s =
      (publish ((motionTakes (arrivalForMotion code range l s)).mapState sendWord)).s := by
    rw [workArrival_formed code range l test, wordTakes_other (motionTakes_other idle) (by simp [closing]),
      captureTakes_idle (by simp [texSent, moved]), closeOrCount_idle (by simp [texSent, moved]) (by simp [closing])]
  rw [sampleArrival_next code range l s flying, worked, activateAfterArrival_idle _ _ (.inr (by simp [queueSent, queued, queue]))]

/-! ### The arrival with another motion MOVING (R36, R70, R75, R79) -/

theorem sampleOverloaded_iff (s : State) (code : Int) (range : LoadRange) (l : Latch) :
    sampleOverloaded s.xhc.config.fcap (loadSample code range l s) = true ↔
      s.xhc.config.fcap * 105 < (netForce s range code).natAbs * 100 ∨
        ((8000000 ≤ code ∨ code ≤ -8000000) ∧ range = .r4) := by
  simp [sampleOverloaded, loadSample, netForce, forceBound, overRangeCode]

theorem inBand_iff (c : FrameConfig) (w x : Int) : inBand c w x = true ↔ ((w - x).natAbs : Int) ≤ c.band := by
  simp [inBand]

theorem moveProfile_eq (c : FrameConfig) (speed d : Int) : moveProfile c speed d = profileAt c speed d := by
  unfold moveProfile profileAt
  split <;> simp

/-- A motion that ends at the arrival: the zero word is sent after it (R69, R70). -/
theorem sendWord_endMotion {port : Port} {tag : Tag} {j : ActiveJob} (o : MotionOutcome)
    (active : s.mar.active = some ⟨port, tag, j⟩) (other : j ≠ .test) (hold : s.xhc.config.holdTime ≠ 0) :
    (sendWord (endMotion o s)).xhc = holdingDrive s.xhc ∧
      (sendWord (endMotion o s)).mar = { s.mar with active := none }.setSlot port (some (ended (activeKind j) tag o s)) := by
  obtain ⟨xhc, mar⟩ := endMotion_other o active other hold
  rw [sendWord_idle (endMotion_active o (testIsActive_of_active active other))]
  simp [sendWordValue, xhc, mar, holdingDrive]

/-- With no soft limit ahead a word is formed by the lines and the port of its motion (R70). -/
theorem formWord_eq_wordFor {m : ActiveMotion} (active : s.mar.active = some m) {v : Int}
    (away : towardSoftLimit s.xhc v = false) : formWord s v = wordFor s m.port v := by
  have forced : forcedZero s v = true ↔ s.inputs.estop = true ∨ (0 < v ∧ s.inputs.upperLimit = true) ∨
      (v < 0 ∧ s.inputs.lowerLimit = true) ∨ (s.inputs.gateOpen = true ∧ m.port ≠ .cell) := by
    simp [forcedZero, towardHardLimit, cellMotion, active, away, or_assoc]
  simp only [formWord, wordFor, forced]

/-- The word of another motion MOVING, away from a soft limit or at one (R70, R79). -/
theorem sendWord_moving {port : Port} {tag : Tag} {j : ActiveJob} (active : s.mar.active = some ⟨port, tag, j⟩)
    (moving : s.xhc.drive = .moving) {v : Int} (profile : profileValue s.xhc.config s.rlp.setPoint j = v) :
    (towardSoftLimit s.xhc v = false →
      sendWord s = sendWordValue (wordFor s port v) s) ∧
    (towardSoftLimit s.xhc v = true → j ≠ .test → (∀ ph, j ≠ .search ph) →
      sendWord s = endMotion .stoppedLimit (sendWordValue 0 s)) := by
  have base : baseValue s = v := by simp [baseValue, moving, active, profile]
  constructor
  · intro away
    simp [sendWord, base, away, formWord_eq_wordFor active away]
  · intro toward test search
    simp only [sendWord, base, toward, softLimitEvent, active]
    cases j with
    | test => exact absurd rfl test
    | search ph => exact absurd rfl (search ph)
    | _ => rfl

theorem motionTakes_overloaded (h : a.overloaded = true) : (motionTakes a).s = overloadEnds a.s := by
  simp [motionTakes, h]

theorem motionTakes_evaluates (h : a.overloaded = false) : (motionTakes a).s = evaluateMove a.latch.position a.s := by
  simp [motionTakes, h]

section
variable {port : Port} {tag : Tag} {j : ActiveJob} (active : s.mar.active = some ⟨port, tag, j⟩)
include active

theorem overloadEnds_of_active (h : ∀ d v n, j ≠ .jog d v n) : overloadEnds s = endMotion .overload s := by
  cases j with
  | jog d v n => exact absurd rfl (h d v n)
  | _ => simp only [overloadEnds, active]

theorem overloadEnds_jog {d : Direction} {v n : Int} (h : j = .jog d v n) : overloadEnds s = s := by
  simp [overloadEnds, active, h]

theorem evaluateMove_inBand {x w speed q : Int} {clamped : Bool} (moving : s.xhc.drive = .moving)
    (move : j = .move w speed clamped q ∨ (j = .retract w speed q ∧ clamped = false))
    (band : ((w - x).natAbs : Int) ≤ s.xhc.config.band) :
    evaluateMove x s = endMotion (if clamped then .doneClamped else .done) s := by
  have inside : inBand s.xhc.config w x = true := (inBand_iff ..).2 band
  obtain rfl | ⟨rfl, rfl⟩ := move <;> simp [evaluateMove, moving, active, inside]

theorem evaluateMove_move {x w speed q : Int} {clamped : Bool} (moving : s.xhc.drive = .moving)
    (move : j = .move w speed clamped q) (far : s.xhc.config.band < ((w - x).natAbs : Int)) :
    evaluateMove x s = setJob (.move w speed clamped (profileAt s.xhc.config speed (w - x))) s := by
  have outside : ¬ inBand s.xhc.config w x = true := by simpa [inBand_iff] using far
  simp [evaluateMove, moving, active, move, outside, moveProfile_eq]

theorem evaluateMove_retract {x w speed q : Int} (moving : s.xhc.drive = .moving) (move : j = .retract w speed q)
    (far : s.xhc.config.band < ((w - x).natAbs : Int)) :
    evaluateMove x s = setJob (.retract w speed (profileAt s.xhc.config speed (w - x))) s := by
  have outside : ¬ inBand s.xhc.config w x = true := by simpa [inBand_iff] using far
  simp [evaluateMove, moving, active, move, outside, moveProfile_eq]

theorem evaluateMove_else (x : Int) (h : (∃ d v n, j = .jog d v n) ∨ ∃ ph, j = .search ph) : evaluateMove x s = s := by
  obtain ⟨d, v, n, rfl⟩ | ⟨ph, rfl⟩ := h <;> simp [evaluateMove, active]

theorem setJob_same : setJob j s = s := by
  have same : s.mar.active.map (fun m => { m with job := j }) = s.mar.active := by simp [active]
  simp only [setJob, same]

end

/-- A motion `j` stays MOVING through an arrival, becoming `j'`, with the base value `v` for its word: outside the band (R75), a
JOG through an overload too (R36), a search with no valid reference (R70). -/
inductive StaysMoving (a : Arrival) : ActiveJob → ActiveJob → Int → Prop
  | move {w speed q : Int} {clamped : Bool} (calm : a.overloaded = false)
      (far : a.s.xhc.config.band < ((w - a.latch.position).natAbs : Int)) :
      StaysMoving a (.move w speed clamped q) (.move w speed clamped (profileAt a.s.xhc.config speed (w - a.latch.position)))
        (profileAt a.s.xhc.config speed (w - a.latch.position))
  | retract {w speed q : Int} (calm : a.overloaded = false)
      (far : a.s.xhc.config.band < ((w - a.latch.position).natAbs : Int)) :
      StaysMoving a (.retract w speed q) (.retract w speed (profileAt a.s.xhc.config speed (w - a.latch.position)))
        (profileAt a.s.xhc.config speed (w - a.latch.position))
  | jog {d : Direction} {speed n : Int} : StaysMoving a (.jog d speed n) (.jog d speed n) (signedSpeed d speed)
  | search {ph : SearchPhase} {v : Int} (calm : a.overloaded = false) (lost : a.s.xhc.referenceValid = false)
      (rate : ∀ n, profileValue a.s.xhc.config n (.search ph) = v) : StaysMoving a (.search ph) (.search ph) v

/-! The word of another motion, MOVING, after the arrival. -/
section
variable {port : Port} {tag : Tag} {j j' : ActiveJob} {v : Int} (active : a.s.mar.active = some ⟨port, tag, j⟩)
  (moving : a.s.xhc.drive = .moving) (hold : a.s.xhc.config.holdTime ≠ 0)

include active moving in
theorem StaysMoving.setsJob (h : StaysMoving a j j' v) : (motionTakes a).s = setJob j' a.s := by
  cases h with
  | move calm far => rw [motionTakes_evaluates calm, evaluateMove_move active moving rfl far]
  | retract calm far => rw [motionTakes_evaluates calm, evaluateMove_retract active moving rfl far]
  | jog =>
    rw [setJob_same active]
    cases now : a.overloaded with
    | true => rw [motionTakes_overloaded now, overloadEnds_jog active rfl]
    | false => rw [motionTakes_evaluates now, evaluateMove_else active _ (.inl ⟨_, _, _, rfl⟩)]
  | search calm lost rate => rw [motionTakes_evaluates calm, evaluateMove_else active _ (.inr ⟨_, rfl⟩), setJob_same active]

theorem StaysMoving.profile (h : StaysMoving a j j' v) (n : Int) : profileValue a.s.xhc.config n j' = v := by
  cases h with
  | search calm lost rate => exact rate n
  | _ => rfl

theorem StaysMoving.kind (h : StaysMoving a j j' v) : activeKind j' = activeKind j ∧ j' ≠ .test := by
  cases h <;> simp [activeKind]

include active moving hold in
/-- The word of a motion that stays MOVING through the arrival; at a soft limit the motion ends (R70, R79). -/
theorem StaysMoving.sends (h : StaysMoving a j j' v) :
    (towardSoftLimit a.s.xhc v = false →
      (sendWord (motionTakes a).s).xhc = { a.s.xhc with word := wordFor a.s port v } ∧
      (sendWord (motionTakes a).s).mar = { a.s.mar with active := some ⟨port, tag, j'⟩ }) ∧
    (towardSoftLimit a.s.xhc v = true →
      (sendWord (motionTakes a).s).xhc = holdingDrive a.s.xhc ∧
      (sendWord (motionTakes a).s).mar =
        { a.s.mar with active := none }.setSlot port (some (ended (activeKind j) tag .stoppedLimit a.s))) := by
  obtain ⟨kind, other⟩ := h.kind
  have mar : (setJob j' a.s).mar = { a.s.mar with active := some ⟨port, tag, j'⟩ } := by simp [setJob, active]
  have active' : (setJob j' a.s).mar.active = some ⟨port, tag, j'⟩ := by rw [mar]
  obtain ⟨away, toward⟩ := sendWord_moving active' moving (h.profile _)
  rw [h.setsJob active moving]
  refine ⟨fun none => ?_, fun limit => ?_⟩
  · rw [away none]
    exact ⟨rfl, mar⟩
  · have fixed ph : j' ≠ .search ph := by
      rintro rfl
      cases h with
      | search calm lost rate => simp [towardSoftLimit, lost] at limit
    rw [toward limit other fixed]
    obtain ⟨drive, slot⟩ := endMotion_other (s := sendWordValue 0 (setJob j' a.s)) .stoppedLimit active' other hold
    rw [drive, slot, kind]
    exact ⟨rfl, by simp [mar, ended]⟩

include active hold in
theorem sendWord_overloaded (other : j ≠ .test) (now : a.overloaded = true) (noJog : ∀ d v n, j ≠ .jog d v n) :
    (sendWord (motionTakes a).s).xhc = holdingDrive a.s.xhc ∧
      (sendWord (motionTakes a).s).mar =
        { a.s.mar with active := none }.setSlot port (some (ended (activeKind j) tag .overload a.s)) := by
  rw [motionTakes_overloaded now, overloadEnds_of_active active noJog]
  exact sendWord_endMotion .overload active other hold

include active moving hold in
theorem sendWord_inBand {w speed q : Int} {clamped : Bool} (calm : a.overloaded = false)
    (move : j = .move w speed clamped q ∨ (j = .retract w speed q ∧ clamped = false))
    (band : ((w - a.latch.position).natAbs : Int) ≤ a.s.xhc.config.band) :
    (sendWord (motionTakes a).s).xhc = holdingDrive a.s.xhc ∧
      (sendWord (motionTakes a).s).mar = { a.s.mar with active := none }.setSlot port
        (some (ended (activeKind j) tag (if clamped then .doneClamped else .done) a.s)) := by
  have other : j ≠ .test := by obtain rfl | ⟨rfl, -⟩ := move <;> simp
  rw [motionTakes_evaluates calm, evaluateMove_inBand active moving move band]
  exact sendWord_endMotion _ active other hold

end

theorem publish_mapState_kept (f : State → State) (a : Arrival) :
    (publish (a.mapState f)).s.xhc = (f a.s).xhc ∧ (publish (a.mapState f)).s.mar = (f a.s).mar := by
  simp

/-! ### The arrival with no motion active (R24 to R28, R36, R37) -/

theorem motionTakes_still (active : a.s.mar.active = none) : motionTakes a = a := by
  have ends : overloadEnds a.s = a.s := by simp [overloadEnds, active, endMotion_idle]
  have moves : evaluateMove a.latch.position a.s = a.s := by simp [evaluateMove, active]
  simp [motionTakes, Arrival.mapState, ends, moves]

/-- With no test and no strain basis the set has strain 0 and no source of it (R45). -/
theorem formStrain_away (test : a.s.tex.test = none) (basis : a.s.exc.basis = none) :
    formStrain a = { a with fracture := false, set := withStrain (0, .away) a.set } := by
  have whole : fractures a.s a.set = false := by simp [fractures, test]
  simp [formStrain, whole, basis]

theorem stressArea_of_slot {m : MountedSpecimen} (h : s.spt.slot = some m) :
    stressArea s = if m.state = .tested then none else some m.area := by
  cases state : m.state <;> simp [stressArea, h, state]

theorem stressArea_of_empty (h : s.spt.slot = none) : stressArea s = none := by
  simp [stressArea, h]

/-- The arrival with no motion active and no strain basis: the set published, the zero word sent, and OVERLOAD entered at its
onset (R24, R37, R70). -/
theorem sampleArrival_still {code : Int} {range : LoadRange} {l : Latch} {x : SampleSet} {o : Bool} {u : State}
    (test : s.tex.test = none) (active : s.mar.active = none) (queue : s.mar.queue = []) (basis : s.exc.basis = none)
    (flying : s.ldc.conversion = some ⟨range, some l⟩) (formed : withStrain (0, .away) (loadSample code range l s) = x)
    (overloads : sampleOverloaded s.xhc.config.fcap (loadSample code range l s) = o)
    (left : u = { s with
      ldc := { s.ldc with
        conversion := none, missCount := 0, loadFault := false, settle := s.ldc.settle - 1, overload := o,
        latest := some x, lastValidGross := if x.invalid then s.ldc.lastValidGross else some x.gross },
      xhc := { s.xhc with word := 0 } }) :
    exec (.sampleArrival code) s = .next (if o && !s.ldc.overload then enterFault .overload u else u) := by
  have still : (arrivalForMotion code range l s).s.mar.active = none := by simp [active]
  have sent : (arrivalForMotion code range l s).mapState sendWord =
      (arrivalForMotion code range l s).mapState (sendWordValue 0) := by
    simp only [Arrival.mapState, sendWord_idle still]
  have onset : (overloadCheck (beginArrival code range l s)).s =
      if o && !s.ldc.overload then enterFault .overload { loadTaken s with ldc := { (loadTaken s).ldc with overload := o } }
      else { loadTaken s with ldc := { (loadTaken s).ldc with overload := o } } := by
    rw [← overloads]
    rfl
  rw [sampleArrival_idle code range l test (testIsActive_of_none active) queue flying, motionTakes_still still, sent,
    arrivalForMotion, formStrain_away (by simpa using test) (by simpa using basis), left]
  simp only [publish, Arrival.mapState, onset, overloadCheck_frame, beginArrival_fields, formed]
  cases o && !s.ldc.overload <;> rfl

end Sys2Proof.Machine
end

section

/-! PROOF. A sample arrival in a test (R24, R35, R38, R44, R45), and what an arrival publishes and settles (O37). -/

namespace Sys2Proof.Machine

variable {s₀ s : State} {a : Arrival} {t : TestContext}

/-! ### The sample set (R26 to R28, R31, R32, R45) -/

theorem loadSample_invalid (code : Int) (range : LoadRange) (l : Latch) (s : State) :
    (loadSample code range l s).invalid = true ↔
      0 < s.ldc.settle ∨ ((8000000 ≤ code ∨ code ≤ -8000000) ∧ range ≠ .r4) := by
  simp [loadSample, overRangeCode]

/-- Forming the strain adds a combined strain and its source to the set (R45): out of ACTIVE those of the crosshead (R44). -/
theorem formStrain_set {b : StrainBasis} (basis : a.s.exc.basis = some b) :
    ∃ v, (formStrain a).set = withStrain v a.set ∧
      (a.s.exc.state ≠ .active → v = (xhStrain b a.latch.position + b.h, .xh)) := by
  simp only [formStrain, basis]
  split
  next active => exact ⟨_, rfl, fun other => absurd active other⟩
  next => exact ⟨_, rfl, fun _ => rfl⟩

/-! ### The test peak (R38) -/

theorem updatePeak_ldc (a : Arrival) :
    (updatePeak a).s.ldc = { a.s.ldc with peak := if raisesPeak a.s a.set then some (peakOf a.set) else a.s.ldc.peak } := by
  unfold updatePeak
  split <;> simp [*]

theorem raisesPeak_iff {x : SampleSet} (test : s.tex.test = some t) :
    raisesPeak s x = true ↔ x.invalid = false ∧ ∀ k ∈ s.ldc.peak, k.force < x.force := by
  cases peak : s.ldc.peak <;> simp [raisesPeak, State.testIdle, test, peak]

/-! ### Auto step-up (R35) -/

/-- The sample of an arrival triggers a step-up in a test (R35). -/
def Steps (a : Arrival) (t : TestContext) : Prop :=
  t.plan.autoRange = true ∧ a.settled = true ∧ a.s.ldc.range ≠ .r4 ∧ triggersStep a.s a.set = true

theorem selectRange_next {r : LoadRange} (n : Nat) (current : s.ldc.range = r) (h : r ≠ .r4) :
    (selectRange (nextRange r) n s).ldc = { s.ldc with range := nextRange r, settle := n } := by
  have other : r ≠ nextRange r := by cases r <;> simp [nextRange] at h ⊢
  simp [selectRange, current, other]

theorem stepUp_steps (test : a.s.tex.test = some t) (h : Steps a t) :
    (stepUp a).s.ldc = { a.s.ldc with range := nextRange a.s.ldc.range, settle := t.plan.settleSamples.toNat } ∧
    ∃ t', (stepUp a).s.tex.test = some t' ∧ t'.flags.rangeStepped = true ∧
      t'.events = (t.logEvent ⟨.rangeUp, sampleNumber t.arrivals, rangeNumber (nextRange a.s.ldc.range)⟩).events := by
  obtain ⟨auto, settled, range, trigger⟩ := h
  have stepped : (stepUp a).s = setTestFlags (fun f => { f with rangeStepped := true })
      (addEvent .rangeUp (rangeNumber (nextRange a.s.ldc.range))
        (selectRange (nextRange a.s.ldc.range) t.plan.settleSamples.toNat a.s)) := by
    simp [stepUp, test, auto, settled, range, trigger]
  rw [stepped]
  refine ⟨by simp [selectRange_next _ rfl range], _, updateTest_test _ (addEvent_test _ _ (by simpa using test)), rfl, rfl⟩

theorem stepUp_stays (test : a.s.tex.test = some t) (h : ¬ Steps a t) : stepUp a = a := by
  have stays : ¬ (t.plan.autoRange && a.settled && a.s.ldc.range != .r4 && triggersStep a.s a.set) = true := by
    simpa [Steps, and_assoc] using h
  simp only [stepUp, test, stays]
  rfl

theorem logEvent_room {e : Event} (room : t.events.length < 24) : (t.logEvent e).events = t.events ++ [e] := by
  simp [TestContext.logEvent, Config.eventCapacity, room]

/-! ### The works after step-up, and the end of the arrival (R24, R128) -/

/-- The works on a test's arrival from the forming of its strain to the capture of its sample (R24). -/
def takenArrival (a : Arrival) : Arrival :=
  captureTakes (publish (wordTakes (loopTakes (executiveTakes (evaluateArrival (formHandover (updatePeak (formStrain a))))))))

/-- The word of a test's arrival changes the word only (R70). -/
theorem takenArrival_word (active : testIsActive a.s = true) :
    ∃ w, (wordTakes (loopTakes (executiveTakes (evaluateArrival (formHandover (updatePeak (formStrain a))))))).s =
        sendWordValue w (loopTakes (executiveTakes (evaluateArrival (formHandover (updatePeak (formStrain a)))))).s ∧
      (wordTakes (loopTakes (executiveTakes (evaluateArrival (formHandover (updatePeak (formStrain a))))))).set =
        (formStrain a).set := by
  obtain ⟨w, word, set, -⟩ := wordTakes_test
    (loopTakes (executiveTakes (evaluateArrival (formHandover (updatePeak (formStrain a))))))
    (by simpa [testIsActive] using active)
  exact ⟨w, word, by simp [set]⟩

theorem takenArrival_kept (active : testIsActive a.s = true) :
    (takenArrival a).s.ldc.range = a.s.ldc.range ∧ (takenArrival a).s.ldc.settle = a.s.ldc.settle ∧
      (takenArrival a).s.ldc.latest = some (formStrain a).set ∧
      (takenArrival a).s.ldc.peak = (updatePeak (formStrain a)).s.ldc.peak ∧
      (takenArrival a).s.mar.queue = a.s.mar.queue := by
  obtain ⟨w, word, set⟩ := takenArrival_word active
  simp [takenArrival, publish, word, set, updatePeak_ldc]

theorem takenArrival_grows (active : testIsActive a.s = true) : TestGrows a.s (takenArrival a).s := by
  obtain ⟨w, word, -⟩ := takenArrival_word active
  have worded : TestGrows a.s (wordTakes (loopTakes (executiveTakes (evaluateArrival (formHandover (updatePeak
      (formStrain a))))))).s := word ▸ (arrivalSampled_grows .rfl).of_eq rfl rfl
  exact captureTakes_grows (publish_grows worded)

theorem closeTest_ended (c : Closure) (s : State) : (closeTest c s).tex.test = none := by
  cases h : s.tex.test with
  | none => rw [closeTest_of_idle c h, h]
  | some t => exact (closeTest_fields c h).1

theorem closeTest_queue (c : Closure) (s : State) : (closeTest c s).mar.queue = s.mar.queue := by
  have filed n u : (fileTestEnd n c u).mar.queue = u.mar.queue := by
    unfold fileTestEnd
    split <;> simp
  unfold closeTest
  split
  · rfl
  · simp only []
    (repeat' split) <;> simp [filed]

/-- The end of an arrival: what it published stays, and a test it leaves is the one counted on (R24, R128). -/
theorem closeOrCount_kept (grown : TestGrows s₀ a.s) :
    (closeOrCount a).s.ldc.latest = a.s.ldc.latest ∧ (closeOrCount a).s.ldc.peak = a.s.ldc.peak ∧
      (closeOrCount a).s.mar.queue = a.s.mar.queue ∧
      ∀ t', (closeOrCount a).s.tex.test = some t' →
        (closeOrCount a).s.ldc = a.s.ldc ∧ TestGrows s₀ (closeOrCount a).s := by
  cases closing : a.closing with
  | none =>
    rw [closeOrCount_counts a closing]
    exact ⟨rfl, rfl, rfl, fun _ _ => ⟨rfl, updateTest_grows_of_eq (fun _ => ⟨rfl, rfl, rfl⟩) grown⟩⟩
  | some c =>
    have closed : (closeOrCount a).s = closeTest c a.s := by simp [closeOrCount, closing]
    rw [closed]
    obtain ⟨-, latest, peak⟩ := closeTest_ldc c a.s
    exact ⟨latest, peak, closeTest_queue c a.s, fun t' left => by simp [closeTest_ended] at left⟩

/-! ### A code arriving in a test -/

section
variable {m : MountedSpecimen} {b : StrainBasis} {range : LoadRange} {l : Latch} (code : Int)

/-- The load channel's part of an arrival, before step-up (R21, R32, R36). -/
theorem begunArrival_ldc (code : Int) (range : LoadRange) (l : Latch) (s : State) :
    (overloadCheck (beginArrival code range l s)).s.ldc.range = s.ldc.range ∧
      (overloadCheck (beginArrival code range l s)).s.ldc.settle = s.ldc.settle - 1 ∧
      (overloadCheck (beginArrival code range l s)).s.ldc.peak = s.ldc.peak := by
  simp only [overloadCheck]
  split <;> simp

variable (h : ArrivalInTest s t m b range l)
include h

theorem ArrivalInTest.testIsActive : testIsActive s = true := by
  obtain ⟨tag, active⟩ := h.active
  simp [Machine.testIsActive, active]

theorem ArrivalInTest.loadSample :
    (loadSample code range l s).number = some (sampleNumber t.arrivals) ∧
      (loadSample code range l s).stress =
        some (clampTo (-40000) 40000 (roundNearest ((loadSample code range l s).force * 1000) m.area)) := by
  have area : stressArea s = some m.area := by rw [stressArea_of_slot h.slot, h.testing]; rfl
  simp [Machine.loadSample, h.test, area, stressOf, stressBound]

theorem ArrivalInTest.steps_iff :
    Steps (overloadCheck (beginArrival code range l s)) t ↔
      t.plan.autoRange = true ∧ s.ldc.settle = 0 ∧ s.ldc.range ≠ .r4 ∧
        (fullScale s range * 9 < (grossForce (s.ldc.active.get range).points code).natAbs * 10 ∨
          (8000000 ≤ code ∨ code ≤ -8000000)) := by
  have scale : fullScale (overloadCheck (beginArrival code range l s)).s range = fullScale s range := by
    cases range <;> simp [fullScale]
  simp [Steps, triggersStep, begunArrival_ldc, Machine.loadSample, scale, overRangeCode]

theorem ArrivalInTest.exec :
    exec (.sampleArrival code) s =
      .next (closeOrCount (takenArrival (stepUp (overloadCheck (beginArrival code range l s))))).s := by
  obtain ⟨tag, active⟩ := h.active
  have taken : Machine.testIsActive (stepUp (overloadCheck (beginArrival code range l s))).s = true := by
    simp [Machine.testIsActive, active]
  obtain ⟨-, -, -, -, queue⟩ := takenArrival_kept taken
  obtain ⟨-, -, kept, -⟩ := closeOrCount_kept (takenArrival_grows taken)
  rw [sampleArrival_next code range l s h.conversion, workArrival_test code range l s h.testIsActive]
  exact congrArg _ (activateAfterArrival_idle _ _ (.inr (by rw [← takenArrival, kept, queue]; simpa using h.queue)))

/-- The arrival a test's code makes after step-up (R24, R35). -/
theorem ArrivalInTest.stepped_kept :
    Machine.testIsActive (stepUp (overloadCheck (beginArrival code range l s))).s = true ∧
      (stepUp (overloadCheck (beginArrival code range l s))).s.ldc.peak = s.ldc.peak ∧
      ∃ t', (stepUp (overloadCheck (beginArrival code range l s))).s.tex.test = some t' := by
  obtain ⟨tag, active⟩ := h.active
  have test : (overloadCheck (beginArrival code range l s)).s.tex.test = some t := by simpa using h.test
  obtain ⟨-, -, peak⟩ := begunArrival_ldc code range l s
  refine ⟨by simp [Machine.testIsActive, active], ?_⟩
  by_cases steps : Steps (overloadCheck (beginArrival code range l s)) t
  · obtain ⟨ldc, t', test', -⟩ := stepUp_steps test steps
    exact ⟨by rw [ldc, ← peak], t', test'⟩
  · rw [stepUp_stays test steps]
    exact ⟨peak, t, test⟩

/-- The sample set a test's arrival publishes, and the peak it leaves (R24, R38, R45). -/
theorem ArrivalInTest.published :
    ∃ v x u, Machine.exec (.sampleArrival code) s = .next u ∧ x = withStrain v (Machine.loadSample code range l s) ∧
      u.ldc.latest = some x ∧
      u.ldc.peak = (if x.invalid = false ∧ ∀ k ∈ s.ldc.peak, k.force < x.force then some (peakOf x) else s.ldc.peak) ∧
      (s.exc.state ≠ .active → v = (xhStrain b l.position + b.h, .xh)) := by
  obtain ⟨active, peak, t', test⟩ := h.stepped_kept code
  obtain ⟨-, -, latest, peakTaken, -⟩ := takenArrival_kept active
  obtain ⟨latestLeft, peakLeft, -⟩ := closeOrCount_kept (takenArrival_grows active)
  obtain ⟨v, set, crosshead⟩ := formStrain_set (a := stepUp (overloadCheck (beginArrival code range l s))) (b := b)
    (by simpa using h.basis)
  refine ⟨v, _, _, h.exec code, rfl, ?_, ?_, by simpa using crosshead⟩
  · rw [latestLeft, latest, set]
    simp
  · have raises := raisesPeak_iff (s := (formStrain (stepUp (overloadCheck (beginArrival code range l s)))).s)
      (x := withStrain v (Machine.loadSample code range l s)) (by simpa using test)
    rw [peakLeft, peakTaken, updatePeak_ldc, set]
    simp only [stepUp_frame, overloadCheck_frame, beginArrival_fields, raises, formStrain_frame, peak]

/-- What step-up leaves of a test that goes on after the arrival (R35, R129). -/
theorem ArrivalInTest.steps {u : State} {t' : TestContext} (next : Machine.exec (.sampleArrival code) s = .next u)
    (left : u.tex.test = some t') :
    (Steps (overloadCheck (beginArrival code range l s)) t →
      u.ldc.range = nextRange s.ldc.range ∧ u.ldc.settle = t.plan.settleSamples.toNat ∧ t'.flags.rangeStepped = true ∧
      (HasRoom t → ⟨.rangeUp, sampleNumber t.arrivals, rangeNumber (nextRange s.ldc.range)⟩ ∈ t'.events)) ∧
    (¬ Steps (overloadCheck (beginArrival code range l s)) t →
      u.ldc.range = s.ldc.range ∧ u.ldc.settle = s.ldc.settle - 1 ∧ t'.flags.rangeStepped = t.flags.rangeStepped) := by
  obtain ⟨active, -⟩ := h.stepped_kept code
  obtain ⟨rangeTaken, settleTaken, -⟩ := takenArrival_kept active
  obtain ⟨-, -, -, going⟩ := closeOrCount_kept (takenArrival_grows active)
  obtain rfl : (closeOrCount (takenArrival (stepUp (overloadCheck (beginArrival code range l s))))).s = u := by
    simpa [h.exec code] using next
  obtain ⟨ldc, grown⟩ := going t' left
  have test : (overloadCheck (beginArrival code range l s)).s.tex.test = some t := by simpa using h.test
  obtain ⟨current, settle, -⟩ := begunArrival_ldc code range l s
  rw [ldc, rangeTaken, settleTaken]
  refine ⟨fun steps => ?_, fun stays => ?_⟩
  · obtain ⟨stepped, t₁, test₁, flag, events⟩ := stepUp_steps test steps
    have grows := grown.grown test₁ left
    rw [current] at events stepped
    refine ⟨by rw [stepped], by rw [stepped], grows.stepped.trans flag, fun room => grows.events.subset ?_⟩
    rw [events, logEvent_room (Nat.lt_of_le_of_lt room (by decide))]
    exact List.mem_append_right _ (List.mem_singleton.2 rfl)
  · rw [stepUp_stays test stays] at grown left ⊢
    exact ⟨current, settle, (grown.grown test left).stepped⟩

end

end Sys2Proof.Machine

open Sys2Proof Sys2Proof.Machine

/-- Settles O37: with another motion by how the arrival leaves it (`sendWord_overloaded`, `sendWord_inBand`, `StaysMoving.sends`),
in a test by what it publishes and by its step-up (`ArrivalInTest.published`, `ArrivalInTest.steps`), and with no motion by
`sampleArrival_still`. -/
theorem arrivalPublishesASample : Obligations.ArrivalPublishesASample := by
  unfold Obligations.ArrivalPublishesASample
  refine ⟨?_, ?_, ?_⟩
  · intro s code range l port tag j overloaded test active other moving queue hold flying decides
    obtain ⟨xhc, mar, tex, rlp, inputs, latch, -, decided⟩ := arrivalForMotion_kept code range l s
    have next := sampleArrival_idle code range l test (testIsActive_of_active active other) queue flying
    have formedOver : (arrivalForMotion code range l s).overloaded = true ↔ overloaded := by
      rw [decided, decides, sampleOverloaded_iff]
    generalize arrivalForMotion code range l s = a at *
    obtain ⟨texMoved, rlpMoved, inputsMoved, -, -⟩ := motionTakes_kept a
    obtain ⟨texSent, rlpSent, -⟩ := sendWord_kept (s := (motionTakes a).s) (by rw [texMoved, tex, test])
    have calm (h : ¬ overloaded) : a.overloaded = false := Bool.eq_false_iff.2 fun now => h (formedOver.1 now)
    have completion o : ended (activeKind j) tag o a.s = ended (activeKind j) tag o s := by simp [ended, xhc]
    refine ⟨_, next, by simp [texSent, texMoved, tex], by simp [rlpSent, rlpMoved, rlp], by simp [inputsMoved, inputs], ?_⟩
    simp only [publish_mapState_kept, ← completion]
    rw [← mar] at active ⊢
    rw [← xhc] at moving hold ⊢
    refine ⟨fun now noJog => ?_, fun h w speed q clamped move band => ?_, fun j' v given => ?_⟩
    · exact sendWord_overloaded active hold other (formedOver.2 now) noJog
    · exact sendWord_inBand active moving hold (calm h) move (latch ▸ band)
    · have stays : StaysMoving a j j' v := by
        rw [← latch] at given
        obtain ⟨h, w, speed, clamped, q, rfl, far, rfl, rfl⟩ | ⟨h, w, speed, q, rfl, far, rfl, rfl⟩ |
          ⟨d, speed, n, rfl, rfl, rate⟩ | ⟨h, ph, rfl, rfl, lost, rfl⟩ := given
        · exact .move (calm h) far
        · exact .retract (calm h) far
        · obtain rfl : signedSpeed d speed = v := by
            rw [rate]
            cases d <;> simp [signedSpeed]
          exact .jog
        · exact .search (calm h) lost fun n => by cases ph <;> simp [profileValue]
      have word : wordFor a.s port v = wordFor s port v := by simp [wordFor, xhc, inputs]
      rw [← word]
      exact stays.sends active moving hold
  · intro s t m b range l code overRange h beyond
    obtain ⟨v, x, u, next, rfl, latest, peak, crosshead⟩ := h.published code
    obtain ⟨number, stress⟩ := h.loadSample code
    refine ⟨u, _, next, latest, number, rfl, rfl, rfl, rfl, stress, ?_, rfl, rfl, fun away => ?_, fun rises => ?_,
      fun stays => ?_, fun t' left steps decides => ?_⟩
    · rw [beyond]
      exact loadSample_invalid code range l s
    · obtain rfl := crosshead away
      exact ⟨rfl, rfl⟩
    · rw [peak, if_pos rises]
      simp [peakOf, number, withStrain]
    · refine peak.trans (if_neg ?_)
      rintro ⟨valid, above⟩
      obtain invalid | ⟨k, held, below⟩ := stays
      · simp [invalid] at valid
      · exact absurd (above k held) (by omega)
    · have same : steps ↔ Steps (overloadCheck (beginArrival code range l s)) t := by
        rw [decides, h.steps_iff code, beyond]
        rfl
      rw [same]
      exact h.steps code next left
  · intro s code range l net force stress x o u test active queue basis flying hnet hforce hstress hx ho hu
    have formed : withStrain (0, .away) (loadSample code range l s) = x := by
      have stressed : (stressArea s).map (stressOf force) = stress := by
        rw [hstress]
        cases slot : s.spt.slot with
        | none => simp [stressArea_of_empty slot]
        | some m => cases state : m.state <;> simp [stressArea_of_slot slot, state, stressOf]
      simp only [hx, withStrain, loadSample, ← hnet, forceBound, ← hforce, stressed, test, stressBound, strainBound,
        SampleSet.mk.injEq]
      refine ⟨rfl, trivial, trivial, ?_, trivial, trivial, trivial, ?_, ?_, trivial, trivial, rfl, trivial⟩
      · simp [overRangeCode]
      · rw [Bool.eq_iff_iff]
        simp [overRangeCode]
      · cases stress <;> simp [outside, Bool.or_assoc]
    have overloads : sampleOverloaded s.xhc.config.fcap (loadSample code range l s) = o := by
      rw [ho, hforce, hnet, Bool.eq_iff_iff, sampleOverloaded_iff, netForce, decide_eq_true_iff]
    exact sampleArrival_still test active queue basis flying formed overloads hu

end

section

/-! PROOF. The placement and removal timers belong to their extensometer states and to a test before its fracture (R50, R56, R61,
R62): each shared operation, each work of an expiry, an edge and an arrival, and each command keeps them so. -/

namespace Sys2Proof.Machine

variable {s : State} {a : Arrival} {e : Expiry}

/-! ### A test before its fracture -/

/-- A test is in progress and its fracture has not been detected: it is not in TAIL (R108, R124). -/
def beforeFracture (test : Option TestContext) : Bool :=
  test.any fun t => fracturePhase t.phase

theorem beforeFracture_iff : beforeFracture s.tex.test = true ↔ s.tex.test ≠ none ∧ ¬ tailPhase s := by
  cases h : s.tex.test with
  | none => simp [beforeFracture]
  | some t => cases phase : t.phase <;> simp [beforeFracture, tailPhase, State.phase, fracturePhase, h, phase]

theorem timersSound_iff :
    TimersSound s ↔
      (s.exc.placement ≠ none → s.exc.state = .placeRequested) ∧
      (s.exc.removal ≠ none → s.exc.state = .removeRequested ∨ s.exc.state = .fault) ∧
      (s.exc.placement ≠ none ∨ s.exc.removal ≠ none → beforeFracture s.tex.test = true) := by
  rw [beforeFracture_iff]
  exact ⟨fun ⟨placement, removal, running⟩ => ⟨placement, removal, running⟩,
    fun ⟨placement, removal, running⟩ => ⟨placement, removal, running⟩⟩

/-- Extensometer state and timers as they were, in a test that is before its fracture if it was so. -/
theorem TimersSound.of_eq {t : State} (hs : TimersSound s) (state : t.exc.state = s.exc.state)
    (placement : t.exc.placement = none ↔ s.exc.placement = none) (removal : t.exc.removal = none ↔ s.exc.removal = none)
    (test : beforeFracture s.tex.test = true → beforeFracture t.tex.test = true) : TimersSound t := by
  rw [timersSound_iff] at hs ⊢
  simp only [ne_eq, state, placement, removal]
  exact ⟨hs.1, hs.2.1, test ∘ hs.2.2⟩

/-- The condition speaks of the extensometer channel and of the test in progress only. -/
theorem TimersSound.of_exc {t : State} (hs : TimersSound s) (exc : t.exc = s.exc)
    (test : beforeFracture s.tex.test = true → beforeFracture t.tex.test = true) : TimersSound t :=
  hs.of_eq (by rw [exc]) (by rw [exc]) (by rw [exc]) test

/-- While neither timer runs nothing is asked. -/
theorem timersSound_of_stopped (placement : s.exc.placement = none) (removal : s.exc.removal = none) : TimersSound s := by
  simp [timersSound_iff, placement, removal]

/-- An operation that either does nothing or keeps the condition keeps it. -/
theorem TimersSound.ite {t : State} {c : Prop} [Decidable c] (ht : TimersSound t) (hs : TimersSound s) :
    TimersSound (if c then t else s) := by
  split
  · exact ht
  · exact hs

/-- No placement timer runs but in PLACE_REQUESTED (R50). -/
theorem TimersSound.placement_off (hs : TimersSound s) (h : s.exc.state ≠ .placeRequested) : s.exc.placement = none :=
  of_not_not (mt hs.placement h)

/-- No removal timer runs but in REMOVE_REQUESTED and FAULT (R56). -/
theorem TimersSound.removal_off (hs : TimersSound s) (requested : s.exc.state ≠ .removeRequested)
    (fault : s.exc.state ≠ .fault) : s.exc.removal = none :=
  of_not_not fun runs => (hs.removal runs).elim requested fault

/-- In TAIL neither timer runs (R61). -/
theorem TimersSound.tail_off (hs : TimersSound s) (tail : beforeFracture s.tex.test = false) :
    s.exc.placement = none ∧ s.exc.removal = none := by
  have running := (timersSound_iff.1 hs).2.2
  simpa [tail] using running

/-! ### Operations on the test context (R108, R120, R122, R129) -/

/-- A change of the test context that leaves its phase. -/
theorem beforeFracture_map {f : TestContext → TestContext} (hf : ∀ t, (f t).phase = t.phase) (o : Option TestContext) :
    beforeFracture (o.map f) = beforeFracture o := by
  cases o <;> simp [beforeFracture, hf]

@[simp] theorem addEventAt_beforeFracture (k : EventKind) (n : Nat) (v : Int) (s : State) :
    beforeFracture (addEventAt k n v s).tex.test = beforeFracture s.tex.test := by
  unfold addEventAt
  split
  · rfl
  · exact beforeFracture_map (fun t => (logEvent_kept t _).1) _

@[simp] theorem addEvent_beforeFracture (k : EventKind) (v : Int) (s : State) :
    beforeFracture (addEvent k v s).tex.test = beforeFracture s.tex.test := by
  unfold addEvent
  split
  · rfl
  · exact addEventAt_beforeFracture ..

/-- A move to a phase before fracture. -/
theorem beforeFracture_setPhase {p : TestPhase} (hp : fracturePhase p = true) (s : State) :
    beforeFracture (setPhase p s).tex.test = s.tex.test.isSome := by
  cases h : s.tex.test <;> simp [beforeFracture, hp, h]

theorem beforeFracture_isSome (h : beforeFracture s.tex.test = true) : s.tex.test.isSome = true := by
  rw [Option.isSome_iff_ne_none]
  exact (beforeFracture_iff.1 h).1

theorem setPhase_timers {p : TestPhase} (hp : fracturePhase p = true) (hs : TimersSound s) : TimersSound (setPhase p s) :=
  hs.of_exc (by simp) fun before => by rw [beforeFracture_setPhase hp, beforeFracture_isSome before]

theorem raise_timers (p : Port) (n : Notice) (hs : TimersSound s) : TimersSound (raise p n s) :=
  hs.of_exc (by simp) (by simp)

theorem raiseAll_timers (n : Notice) (hs : TimersSound s) : TimersSound (raiseAll n s) :=
  hs.of_exc (by simp) (by simp)

theorem addEvent_timers (k : EventKind) (v : Int) (hs : TimersSound s) : TimersSound (addEvent k v s) :=
  hs.of_exc (by simp) (by simp)

theorem addEventAt_timers (k : EventKind) (n : Nat) (v : Int) (hs : TimersSound s) : TimersSound (addEventAt k n v s) :=
  hs.of_exc (by simp) (by simp)

theorem updateTest_timers {f : TestContext → TestContext} (hf : ∀ t, (f t).phase = t.phase) (hs : TimersSound s) :
    TimersSound (updateTest f s) :=
  hs.of_exc rfl (by simp [beforeFracture_map hf])

theorem setTestFlags_timers (f : TestFlags → TestFlags) (hs : TimersSound s) : TimersSound (setTestFlags f s) :=
  updateTest_timers (f := fun t => { t with flags := f t.flags }) (fun _ => rfl) hs

theorem updateEvaluation_timers (f : Evaluation → Evaluation) (hs : TimersSound s) : TimersSound (updateEvaluation f s) :=
  updateTest_timers (f := fun t => { t with rev := f t.rev }) (fun _ => rfl) hs

theorem markHandover_timers (hs : TimersSound s) : TimersSound (markHandover s) :=
  updateTest_timers (f := fun t => { t with handoverMark := true }) (fun _ => rfl) hs

theorem markStage_timers (f : StageRun → StageRun) (hs : TimersSound s) : TimersSound (markStage f s) :=
  updateTest_timers (f := fun t => { t with stage := t.stage.map f }) (fun _ => rfl) hs

theorem holdTest_timers (c : HoldCause) (hs : TimersSound s) : TimersSound (holdTest c s) := by
  unfold holdTest
  split
  · exact hs
  · exact addEvent_timers _ _ ((setPhase_timers rfl hs).of_exc rfl id)

theorem releaseTest_timers (hs : TimersSound s) : TimersSound (releaseTest s) := by
  unfold releaseTest
  split
  · exact hs
  split
  next c r _ =>
    have resumed : TimersSound (addEvent .resume (causeNumber c) (setPhase (returnPhase r) s)) :=
      addEvent_timers _ _ (setPhase_timers (by cases r <;> rfl) hs)
    cases r <;> exact resumed.of_exc rfl id
  next => exact hs

theorem beginStage_timers (i : Nat) (d : StageDef) (hs : TimersSound s) : TimersSound (beginStage i d s) :=
  addEvent_timers _ _ (updateTest_timers (fun _ => by rfl) hs)

theorem leavePlacing_timers (hs : TimersSound s) : TimersSound (leavePlacing s) := by
  have entered {p} d (hp : fracturePhase p = true) : TimersSound (loopEnterPending d (beginStage 1 d (setPhase p s))) :=
    (beginStage_timers 1 d (setPhase_timers hp hs)).of_exc rfl id
  unfold leavePlacing
  split
  · exact hs
  split
  · exact hs
  split
  · exact entered _ rfl
  · exact entered _ rfl
  · exact hs

theorem adjustRate_timers (rate : Int) (hs : TimersSound s) : TimersSound (adjustRate rate s) :=
  (addEvent_timers .rateChanged rate (markStage_timers _ hs)).of_exc rfl id

/-! ### The capture store (R176 to R185) -/

theorem setLevel_timers (hs : TimersSound s) : TimersSound (setLevel s) := by
  unfold setLevel
  split
  · exact hs
  next c _ =>
    have set (k : Nat) : TimersSound (updateCapture (fun c => { c with level := k }) s) := hs.of_exc rfl id
    simp only []
    split
    · exact raise_timers _ _ (addEvent_timers _ _ (set _))
    · exact set _

theorem loseSample_timers (c : CaptureContext) (hs : TimersSound s) : TimersSound (loseSample c s) := by
  have lost : TimersSound (setTestFlags (fun f => { f with captureGap := true })
      (updateCapture (fun c => { c with lost := c.lost + 1, lossRun := true }) s)) :=
    setTestFlags_timers _ (hs.of_exc rfl id)
  exact lost.ite (addEvent_timers _ _ lost)

theorem keepSample_timers (e : CaptureEntry) (hs : TimersSound s) : TimersSound (keepSample e s) := by
  unfold keepSample
  split
  · exact hs
  next c _ =>
    split
    · exact hs.of_exc (by simp) (by simp)
    split
    · have opened : TimersSound (openPage c e.number s) := setLevel_timers (hs.of_exc rfl id)
      simp only []
      split
      · exact opened
      · exact opened.of_exc (by simp) (by simp)
    · exact loseSample_timers c hs

theorem captureSample_timers (k : Int) (b : Bool) (e : CaptureEntry) (hs : TimersSound s) :
    TimersSound (captureSample k b e s) := by
  have counted (f : CaptureContext → CaptureContext) : TimersSound (updateCapture f s) := hs.of_exc rfl id
  unfold captureSample
  split
  · exact hs
  · refine TimersSound.of_exc (s := ite _ _ _) (TimersSound.ite ?_ ?_) rfl id
    · exact keepSample_timers _ (counted _)
    · exact hs.of_exc rfl id

/-! ### The extensometer channel (R47 to R62) -/

/-- In ACTIVE neither timer runs. -/
theorem TimersSound.active_off (hs : TimersSound s) (active : s.exc.state = .active) :
    s.exc.placement = none ∧ s.exc.removal = none :=
  ⟨hs.placement_off (by simp [active]), hs.removal_off (by simp [active]) (by simp [active])⟩

theorem handoverEntry_timers (n : Nat) (h : Int) (hs : TimersSound s) : TimersSound (handoverEntry n h s) :=
  markHandover_timers (addEventAt_timers _ _ _ (hs.of_eq rfl Iff.rfl Iff.rfl id))

/-- The removal timer starts as the removal is asked for or the slip declared, in ACTIVE and before fracture (R52, R60). -/
theorem startRemoval_timers {x : ExtState} (hs : TimersSound s) (active : s.exc.state = .active)
    (before : beforeFracture s.tex.test = true) (hx : x = .removeRequested ∨ x = .fault) :
    TimersSound { s with exc := { s.exc with state := x, removal := some 0 } } := by
  have placement := (hs.active_off active).1
  refine timersSound_iff.2 ⟨fun runs => absurd placement runs, fun _ => hx, fun _ => before⟩

theorem removalHandover_timers (n : Nat) (h : Int) (hs : TimersSound s) (active : s.exc.state = .active)
    (before : beforeFracture s.tex.test = true) : TimersSound (removalHandover n h s) :=
  handoverEntry_timers n h ((startRemoval_timers hs active before (.inl rfl)).of_exc (by simp) (by simp))

theorem slipHandover_timers (m : SlipRecord) (hs : TimersSound s) (active : s.exc.state = .active)
    (before : beforeFracture s.tex.test = true) : TimersSound (slipHandover m s) :=
  handoverEntry_timers _ _ (setTestFlags_timers _
    ((startRemoval_timers hs active before (.inr rfl)).of_exc (by simp) (by simp)))

theorem unannouncedRemoval_timers (hs : TimersSound s) (active : s.exc.state = .active) :
    TimersSound (unannouncedRemoval s) := by
  obtain ⟨placement, removal⟩ := hs.active_off active
  have parked : TimersSound (setExtState .parked s) := timersSound_of_stopped placement removal
  exact updateEvaluation_timers _ (handoverEntry_timers _ _ (setTestFlags_timers _ parked))

theorem removalHold_timers (p : Plan) (hs : TimersSound s) : TimersSound (removalHold p s) := by
  unfold removalHold
  split
  · exact holdTest_timers _ hs
  · exact hs

/-- The end of preload starts the placement timer only as the placement is asked for, from PARKED (R47). -/
theorem extPreloadEnd_timers (b : Bool) (l : Latch) (hs : TimersSound s) (before : beforeFracture s.tex.test = true) :
    TimersSound (extPreloadEnd b l s) := by
  have notPlaced : TimersSound (markHandover (setP0 l.position
      (setTestFlags (fun f => { f with extNotPlaced := true }) (raise .cell .extRemoveReq s)))) := by
    have flagged : TimersSound (setTestFlags (fun f => { f with extNotPlaced := true }) (raise .cell .extRemoveReq s)) :=
      setTestFlags_timers _ (hs.of_exc (by simp) (by simp))
    exact markHandover_timers (flagged.of_eq rfl Iff.rfl Iff.rfl id)
  unfold extPreloadEnd
  split
  · split
    next attached =>
      have removal := hs.removal_off (by simp [attached]) (by simp [attached])
      exact timersSound_of_stopped (hs.placement_off (by simp [attached])) removal
    next parked =>
      have removal := hs.removal_off (by simp [parked]) (by simp [parked])
      have asked : TimersSound { s with exc := { s.exc with state := .placeRequested, placement := some 0 } } :=
        timersSound_iff.2 ⟨fun _ => rfl, fun runs => absurd removal runs, fun _ => before⟩
      exact asked.of_eq (by simp [setP0]) (by simp [setP0]) (by simp [setP0]) (by simp)
    · exact notPlaced
    · exact notPlaced
    · exact hs
    · exact hs
  · exact markHandover_timers (hs.of_eq rfl Iff.rfl Iff.rfl id)

theorem placementExpires_timers (removal : s.exc.removal = none) : TimersSound (placementExpires s) := by
  have parked : TimersSound { s with exc := { s.exc with state := .parked, placement := none } } :=
    timersSound_of_stopped rfl removal
  exact leavePlacing_timers (markHandover_timers (setTestFlags_timers _ parked))

theorem removalExpires_timers (p : Plan) (hs : TimersSound s) : TimersSound (removalExpires p s) := by
  have stopped : TimersSound { s with exc := { s.exc with removal := none } } :=
    timersSound_iff.2 ⟨hs.placement, fun runs => absurd rfl runs,
      fun runs => (timersSound_iff.1 hs).2.2 (runs.imp_right fun runs => absurd rfl runs)⟩
  have late := setTestFlags_timers (fun f => { f with extLate := true }) stopped
  simp only [removalExpires]
  split
  · exact late
  split
  next r _ =>
    exact raise_timers _ _ (addEvent_timers .hold (causeNumber .extLate) (setPhase_timers (p := .held .extLate r) rfl late))
  next => exact raise_timers _ _ late
  next => exact late

/-! ### Closure, words and activation (R94, R95, R111, R128) -/

/-- The extensometer channel at a closure has both timers stopped (R62). -/
theorem extClosure_stopped (s : State) : (extClosure s).exc.placement = none ∧ (extClosure s).exc.removal = none := by
  unfold extClosure
  simp only []
  split <;> simp

theorem closeTest_exc {t : TestContext} (c : Closure) (h : s.tex.test = some t) :
    (closeTest c s).exc = (extClosure s).exc := by
  simp only [closeTest, h]
  (repeat' split) <;> simp

theorem closeTest_timers (c : Closure) (hs : TimersSound s) : TimersSound (closeTest c s) := by
  cases h : s.tex.test with
  | none => rwa [closeTest_of_idle c h]
  | some t =>
    obtain ⟨placement, removal⟩ := extClosure_stopped s
    exact timersSound_of_stopped (by rw [closeTest_exc c h, placement]) (by rw [closeTest_exc c h, removal])

theorem endMotion_timers (o : MotionOutcome) (hs : TimersSound s) : TimersSound (endMotion o s) :=
  hs.of_exc (by simp) (by simp)

theorem softLimitEvent_timers (up : Bool) (hs : TimersSound s) : TimersSound (softLimitEvent up s) := by
  have stopped : TimersSound (sendWordValue 0 s) := hs.of_exc rfl id
  unfold softLimitEvent
  split
  · exact (closeTest_timers _ stopped).ite stopped
  · exact stopped
  · exact endMotion_timers _ stopped
  · exact stopped

theorem sendWord_timers (hs : TimersSound s) : TimersSound (sendWord s) :=
  (softLimitEvent_timers _ hs).ite (hs.of_exc rfl id)

/-- A test starts in PRELOAD, the extensometer's state and timers as they were (R111). -/
theorem activateTest_timers (m : MountedSpecimen) (p : Plan) (hs : TimersSound s) : TimersSound (activateTest m p s) := by
  have started : TimersSound
      { s with
        tex := { s.tex with serial := s.tex.serial + 1, test := some (newTest (s.tex.serial + 1) m p) },
        exc := { s.exc with basis := some (newBasis m s.xhc.position) } } :=
    hs.of_eq rfl Iff.rfl Iff.rfl fun _ => rfl
  simp only [activateTest, startCapture]
  exact setLevel_timers (started.of_exc (by simp) (by simp))

theorem takeStartTest_timers (rq : MotionRequest) (hs : TimersSound s) : TimersSound (takeStartTest rq s) := by
  unfold takeStartTest
  split
  · exact hs.of_exc (by simp) (by simp)
  split
  · exact hs
  split
  · exact hs
  · exact activateTest_timers _ _ (hs.of_exc (by simp) (by simp))

theorem takeRequest_timers (b : Bool) (rq : MotionRequest) (hs : TimersSound s) : TimersSound (takeRequest b rq s) := by
  unfold takeRequest
  split
  · exact hs.of_exc (by simp) (by simp)
  split
  · exact hs.of_exc (by simp) (by simp)
  · exact hs.of_exc (by simp) (by simp)
  · exact .ite (hs.of_exc (by simp) (by simp)) (hs.of_exc (by simp) (by simp))
  · exact takeStartTest_timers _ hs
  · exact hs.of_exc (by simp) (by simp)

theorem activationLoop_timers (n : Nat) (hs : TimersSound s) : TimersSound (activationLoop n s) := by
  induction n generalizing s with
  | zero => exact hs
  | succ n ih =>
    unfold activationLoop
    split
    · exact hs
    split
    · exact hs
    · exact ih (takeRequest_timers _ _ (hs.of_exc (by simp) (by simp)))

theorem tryActivate_timers (hs : TimersSound s) : TimersSound (tryActivate s) :=
  activationLoop_timers _ hs

theorem activateAfterEnd_timers (b : State) (hs : TimersSound s) : TimersSound (activateAfterEnd b s) :=
  (tryActivate_timers hs).ite hs

/-! ### Expiries (R21, R22, R50, R56, R118) -/

theorem advanceStage_timers (hs : TimersSound s) : TimersSound (advanceStage s) := by
  unfold advanceStage
  split
  · exact markStage_timers _ hs
  · exact hs

/-- A timer advances only while it runs (R50, R56). -/
@[simp] theorem advanceTimer_eq_none (ts : Int) (paused : Bool) (t : Option Int) :
    advanceTimer ts paused t = none ↔ t = none := by
  cases paused <;> simp [advanceTimer]

/-- Only a timer that runs reaches its timeout. -/
theorem timerReached_runs {t : Option Int} {seconds : Int} (h : timerReached t seconds = true) : t ≠ none := by
  rintro rfl
  cases h

theorem advancePlacement_timers (p : Plan) (he : TimersSound e.s) : TimersSound (advancePlacement p e).s := by
  have advanced : TimersSound { e.s with exc := { e.s.exc with
      placement := advanceTimer e.s.ldc.sampleInterval (timersPaused e.s) e.s.exc.placement } } :=
    he.of_eq rfl (by simp) Iff.rfl id
  simp only [advancePlacement]
  split
  next expires =>
    have runs := timerReached_runs (Bool.and_eq_true_iff.1 expires).2
    have asked : e.s.exc.state = .placeRequested := advanced.placement runs
    exact placementExpires_timers (he.removal_off (by simp [asked]) (by simp [asked]))
  next => exact advanced

theorem advanceRemoval_timers (p : Plan) (he : TimersSound e.s) : TimersSound (advanceRemoval p e).s := by
  have advanced : TimersSound { e.s with exc := { e.s.exc with
      removal := advanceTimer e.s.ldc.sampleInterval (timersPaused e.s) e.s.exc.removal } } :=
    he.of_eq rfl Iff.rfl (by simp) id
  simp only [advanceRemoval]
  split
  · exact removalExpires_timers p advanced
  · exact advanced

theorem advanceTimers_timers (he : TimersSound e.s) : TimersSound (advanceTimers e).s := by
  unfold advanceTimers
  split
  · exact advanceRemoval_timers _ (advancePlacement_timers _ he)
  · exact he

theorem declareAtExpiry_timers (he : TimersSound e.s) : TimersSound (declareAtExpiry e).s := by
  unfold declareAtExpiry
  split
  · exact closeTest_timers _ (endMotion_timers _ (he.of_exc (by simp) (by simp)))
  · exact he

theorem wordAtExpiry_timers (he : TimersSound e.s) : TimersSound (wordAtExpiry e).s := by
  unfold wordAtExpiry
  split
  · exact sendWord_timers he
  · exact he

theorem expire_timers (hs : TimersSound s) : TimersSound (expire s).s := by
  have started : TimersSound (startConversion s) := hs.of_exc rfl id
  have timed : TimersSound (advanceTimers (beginExpiry s)).s := advanceTimers_timers (advanceStage_timers started)
  exact activateAfterEnd_timers s (wordAtExpiry_timers (declareAtExpiry_timers timed))

/-! ### Edges and lines (R67 to R83) -/

theorem edge_timers (d : Direction) (hs : TimersSound s) : TimersSound (edge d s).s := by
  have unreferenced : TimersSound { s with xhc := { s.xhc with referenceValid := false } } := hs.of_exc rfl id
  have counted : TimersSound (countEdge d s) := hs.of_exc rfl id
  refine activateAfterEnd_timers s ?_
  unfold workEdge
  split
  · exact closeTest_timers _ (endMotion_timers _ (.ite (unreferenced.of_exc (by simp) (by simp)) unreferenced))
  simp only []
  split
  · exact endMotion_timers _ (counted.of_exc (by simp) (by simp))
  · exact (softLimitEvent_timers _ counted).ite counted

theorem hardLimitOn_timers (side : LimitSide) (hs : TimersSound s) : TimersSound (hardLimitOn side s) :=
  .ite hs (activateAfterEnd_timers s (closeTest_timers _ (hs.of_exc (by simp) (by simp))))

theorem gateOpens_timers (hs : TimersSound s) : TimersSound (gateOpens s) := by
  have opened : TimersSound (gateEndsMotion (setInputs { s.inputs with gateOpen := true } s)) := hs.of_exc (by simp) (by simp)
  have sent := sendWord_timers (holdTest_timers .gate opened)
  exact .ite hs (activateAfterEnd_timers s (sent.of_exc (by simp) (by simp)))

theorem emergencyStops_timers (hs : TimersSound s) : TimersSound (emergencyStops s) :=
  .ite hs (raiseAll_timers .estop (closeTest_timers _ (hs.of_exc (by simp) (by simp))))

theorem referenceSwitchOn_timers (hs : TimersSound s) : TimersSound (referenceSwitchOn s) := by
  have found : TimersSound (endMotion .done (referenced (setInputs { s.inputs with referenceSwitch := true } s))) :=
    hs.of_exc (by simp) (by simp)
  exact .ite hs (.ite (activateAfterEnd_timers s found) (hs.of_exc rfl id))

theorem referenceSwitchOff_timers (hs : TimersSound s) : TimersSound (referenceSwitchOff s) :=
  .ite (.ite (hs.of_exc rfl id) (hs.of_exc rfl id)) hs

theorem brakeReleased_timers (hs : TimersSound s) : TimersSound (brakeReleased s) :=
  .ite (activateAfterEnd_timers s (hs.of_exc (by simp) (by simp))) hs

theorem completeProgramming_timers (l : List CalPoint) (hs : TimersSound s) : TimersSound (completeProgramming l s) := by
  unfold completeProgramming
  split
  · exact hs
  · exact hs.of_exc (by simp) (by simp)

/-! ### Arrivals (R24) -/

theorem stepUp_timers (ha : TimersSound a.s) : TimersSound (stepUp a).s := by
  unfold stepUp
  split
  · exact ha
  split
  next t _ _ =>
    have raised : TimersSound (selectRange (nextRange a.s.ldc.range) t.plan.settleSamples.toNat a.s) :=
      ha.of_exc (by simp) (by simp)
    simp only [mapState_fields]
    exact setTestFlags_timers _ (addEvent_timers _ _ raised)
  next => exact ha

/-- The forming of the strain leaves the extensometer's state and timers. -/
theorem formStrain_exc (a : Arrival) :
    (formStrain a).s.exc.state = a.s.exc.state ∧ (formStrain a).s.exc.placement = a.s.exc.placement ∧
      (formStrain a).s.exc.removal = a.s.exc.removal := by
  unfold formStrain
  simp only []
  (repeat' split) <;> simp [rememberActive]

theorem formStrain_timers (ha : TimersSound a.s) : TimersSound (formStrain a).s := by
  obtain ⟨state, placement, removal⟩ := formStrain_exc a
  exact ha.of_eq state (by rw [placement]) (by rw [removal]) (by simp)

/-- Slip is declared in RUNNING or HELD only (R59). -/
theorem runningOrHeld_of_slipAt {f : Bool} {x : SampleSet} {ext : Int} {m : SlipRecord} (h : slipAt s f x ext = some m) :
    runningOrHeld s = true := by
  unfold slipAt at h
  split at h
  · split at h
    next holds => simp_all
    next => cases h
  · cases h

theorem beforeFracture_of_runningOrHeld (h : runningOrHeld s = true) : beforeFracture s.tex.test = true := by
  unfold runningOrHeld at h
  split at h
  next phase =>
    obtain ⟨t, test, phase⟩ := Option.map_eq_some_iff.1 phase
    simp [beforeFracture, test, phase, fracturePhase]
  next phase =>
    obtain ⟨t, test, phase⟩ := Option.map_eq_some_iff.1 phase
    simp [beforeFracture, test, phase, fracturePhase]
  next => cases h

/-- The slip an arrival carries was declared at it: in ACTIVE, before fracture (R59, R60). -/
def SlipDeclared (a : Arrival) : Prop :=
  ∀ m, a.slip = some m → a.s.exc.state = .active ∧ beforeFracture a.s.tex.test = true

theorem formStrain_slipDeclared (fresh : a.slip = none) : SlipDeclared (formStrain a) := by
  intro m slip
  obtain ⟨state, -⟩ := formStrain_exc a
  rw [state]
  unfold formStrain at slip
  split at slip
  · simp [fresh] at slip
  simp only [] at slip
  split at slip
  next active => exact ⟨active, by simpa using beforeFracture_of_runningOrHeld (runningOrHeld_of_slipAt slip)⟩
  next => simp [fresh] at slip

theorem formHandover_timers (slip : SlipDeclared a) (ha : TimersSound a.s) : TimersSound (formHandover a).s := by
  unfold formHandover
  split
  next m declared =>
    obtain ⟨active, before⟩ := slip m declared
    exact slipHandover_timers m ha active before
  next =>
    split
    next met =>
      obtain ⟨active, before⟩ : a.s.exc.state = .active ∧ runningOrHeld a.s = true := by
        simp only [removalExamined, Bool.and_eq_true, beq_iff_eq] at met
        exact ⟨met.1.1.1.1.1, met.1.1.1.1.2⟩
      exact removalHandover_timers _ _ ha active (beforeFracture_of_runningOrHeld before)
    next => exact ha
  next => exact ha

theorem addSampleEvents_timers (es : List SampleEvent) (hs : TimersSound s) : TimersSound (addSampleEvents es s) := by
  unfold addSampleEvents
  induction es generalizing s with
  | nil => exact hs
  | cons e es ih => exact ih (addEvent_timers e.1 e.2 hs)

theorem evaluateArrival_timers (ha : TimersSound a.s) : TimersSound (evaluateArrival a).s := by
  unfold evaluateArrival
  split
  · exact ha
  · exact addSampleEvents_timers _ (updateEvaluation_timers _ ha)

/-- A detected fracture stops both timers (R61). -/
theorem extFracture_stopped (s : State) : (extFracture s).exc.placement = none ∧ (extFracture s).exc.removal = none := by
  unfold extFracture
  split <;> simp

theorem detectFracture_timers (ha : TimersSound a.s) : TimersSound (detectFracture a).s := by
  unfold detectFracture
  split
  · obtain ⟨placement, removal⟩ := extFracture_stopped (addEventAt .fracture _ _ (updateTest _ a.s))
    exact timersSound_of_stopped placement removal
  · exact ha

theorem detectFracture_whole (h : a.fracture = false) : detectFracture a = a := by
  simp [detectFracture, h]

theorem enterStage_timers (i : Nat) (d : StageDef) (ha : TimersSound a.s) : TimersSound (enterStage i d a).s :=
  (beginStage_timers i d ha).of_exc rfl id

theorem endPreload_timers (p : Plan) (ha : TimersSound a.s) (before : beforeFracture a.s.tex.test = true) :
    TimersSound (endPreload p a).s := by
  have ended := extPreloadEnd_timers p.extRequired a.latch (addEvent_timers .preloadEnd a.set.force ha) (by simpa using before)
  simp only [endPreload]
  split
  · exact (setPhase_timers (p := .placing) rfl ended).of_exc rfl id
  split
  · exact enterStage_timers (a := { a with s := _ }) _ _ (setPhase_timers rfl ended)
  · exact setPhase_timers rfl ended

theorem takeEnd_timers (p : Plan) (r : StageRun) (d : StageDef) (ha : TimersSound a.s) : TimersSound (takeEnd p r d a).s := by
  unfold takeEnd
  split
  · exact enterStage_timers _ _ ha
  · exact addEvent_timers _ _ (markStage_timers _ ha)

theorem takeTimeout_timers (p : Plan) (r : StageRun) (d : StageDef) (ha : TimersSound a.s) :
    TimersSound (takeTimeout p r d a).s := by
  have logged := addEvent_timers .stageTimeout r.index ha
  simp only [takeTimeout]
  split
  · exact ha
  split
  · exact enterStage_timers (a := { a with s := _ }) _ _ logged
  · exact markStage_timers _ logged

theorem judgeStage_timers (t : TestContext) (ha : TimersSound a.s) : TimersSound (judgeStage t a).s := by
  unfold judgeStage
  split
  · exact ha
  split
  · exact ha
  split
  · exact takeEnd_timers _ _ _ ha
  split
  · exact takeTimeout_timers _ _ _ ha
  · exact ha

/-- A sample counted in TAIL leaves the timers stopped (R125). -/
theorem countTail_timers (p : Plan) (n : Int) (ha : TimersSound a.s) (tail : beforeFracture a.s.tex.test = false) :
    TimersSound (countTail p n a).s := by
  obtain ⟨placement, removal⟩ := ha.tail_off tail
  exact timersSound_of_stopped (by simp [placement]) (by simp [removal])

theorem judgePhase_timers {t : TestContext} (test : a.s.tex.test = some t) (ha : TimersSound a.s) :
    TimersSound (judgePhase t a).s := by
  unfold judgePhase
  split
  next preload =>
    split
    · exact endPreload_timers _ ha (by simp [beforeFracture, test, preload, fracturePhase])
    · exact ha
  · split
    · exact ha
    · exact judgeStage_timers _ ha
  next n tail => exact countTail_timers _ _ ha (by simp [beforeFracture, test, tail, fracturePhase])
  · exact ha
  · exact ha

theorem handoverHold_timers (p : Plan) (ha : TimersSound a.s) : TimersSound (handoverHold p a).s := by
  unfold handoverHold
  split
  · exact removalHold_timers p ha
  · exact ha

theorem executiveTakes_timers (ha : TimersSound a.s) : TimersSound (executiveTakes a).s := by
  unfold executiveTakes
  split
  · exact ha
  next t test =>
    have fractured := detectFracture_timers ha
    simp only []
    split
    · exact fractured
    split
    · split <;> exact fractured
    next whole =>
      have same : detectFracture a = a := detectFracture_whole (by simpa using whole)
      rw [same]
      split
      · exact holdTest_timers _ ha
      · exact handoverHold_timers _ (judgePhase_timers test ha)

theorem loopTakes_timers (ha : TimersSound a.s) : TimersSound (loopTakes a).s :=
  ha.of_exc (by simp) (by simp)

theorem evaluateMove_exc (x : Int) (s : State) : (evaluateMove x s).exc = s.exc := by
  unfold evaluateMove
  (repeat' split) <;> simp

theorem overloadEnds_exc (s : State) : (overloadEnds s).exc = s.exc := by
  unfold overloadEnds
  split <;> simp

theorem motionTakes_timers (ha : TimersSound a.s) : TimersSound (motionTakes a).s := by
  unfold motionTakes
  split
  · exact ha.of_exc (overloadEnds_exc _) (by simp [overloadEnds_kept])
  · exact ha.of_exc (evaluateMove_exc ..) (by simp [evaluateMove_kept])

theorem wordTakes_timers (ha : TimersSound a.s) : TimersSound (wordTakes a).s := by
  have sent w : TimersSound (sendWordValue w a.s) := ha.of_exc rfl id
  unfold wordTakes
  split
  · exact sent 0
  split
  · split
    · split <;> exact sent 0
    · exact softLimitEvent_timers _ ha
  · exact sent _

theorem publish_timers (ha : TimersSound a.s) : TimersSound (publish a).s :=
  ha.of_exc rfl id

theorem captureTakes_timers (ha : TimersSound a.s) : TimersSound (captureTakes a).s := by
  unfold captureTakes
  split
  · exact ha
  · exact captureSample_timers _ _ _ ha

theorem closeOrCount_timers (ha : TimersSound a.s) : TimersSound (closeOrCount a).s := by
  unfold closeOrCount
  split
  · exact closeTest_timers _ ha
  · exact updateTest_timers (fun _ => by rfl) ha

theorem workArrival_timers (code : Int) (range : LoadRange) (l : Latch) (hs : TimersSound s) :
    TimersSound (workArrival code range l s).s := by
  have loaded : TimersSound (overloadCheck (beginArrival code range l s)).s := hs.of_exc (by simp) (by simp)
  have formed := formStrain_timers (stepUp_timers loaded)
  have peaked : TimersSound (updatePeak (formStrain (stepUp (overloadCheck (beginArrival code range l s))))).s :=
    formed.of_exc (by simp) (by simp)
  have declared : SlipDeclared (updatePeak (formStrain (stepUp (overloadCheck (beginArrival code range l s))))) := by
    intro m slip
    have fresh : (stepUp (overloadCheck (beginArrival code range l s))).slip = none := by simp
    simpa using formStrain_slipDeclared fresh m (by simpa using slip)
  have judged := executiveTakes_timers (evaluateArrival_timers (formHandover_timers declared peaked))
  have moved := motionTakes_timers (loopTakes_timers judged)
  exact closeOrCount_timers (captureTakes_timers (publish_timers (wordTakes_timers moved)))

theorem arrive_timers {code : Int} (hs : TimersSound s) (h : arrive code s = some a) : TimersSound a.s := by
  obtain ⟨c, _, rfl⟩ := Option.map_eq_some_iff.1 h
  have worked := workArrival_timers code c.1 c.2 hs
  exact .ite (tryActivate_timers worked) (activateAfterEnd_timers s worked)

/-! ### Requests on motions and the test (R85 to R126) -/

theorem refreshJog_timers (d : Direction) (v n : Int) (hs : TimersSound s) : TimersSound (refreshJog d v n s) := by
  have refreshed : TimersSound (setJob (.jog d (min v s.xhc.config.jogLimit) n) s) := hs.of_exc rfl id
  exact .ite (activateAfterEnd_timers s (endMotion_timers _ refreshed))
    (.ite (sendWord_timers (refreshed.of_exc rfl id)) refreshed)

theorem placeRequest_timers (rq : MotionRequest) (hs : TimersSound s) : TimersSound (placeRequest rq s) := by
  unfold placeRequest placeRetract
  split
  · split
    · exact takeRequest_timers _ _ (hs.of_exc (by simp) (by simp))
    · exact hs.of_exc rfl id
  · exact hs.of_exc rfl id

theorem admitMotion_timers (rq : MotionRequest) (hs : TimersSound s) : TimersSound (admitMotion rq s) :=
  tryActivate_timers (placeRequest_timers _ (.ite (hs.of_exc (by simp) (by simp)) hs))

theorem motionReply_timers (p : Port) (tag : Tag) (j : MotionJob) (hs : TimersSound s) :
    TimersSound (motionReply p tag j s).state := by
  unfold motionReply
  split
  · exact hs
  split
  · exact hs
  · exact admitMotion_timers _ hs

theorem jogReply_timers (p : Port) (tag : Tag) (d : Direction) (v n : Int) (hs : TimersSound s) :
    TimersSound (jogReply p tag d v n s).state := by
  unfold jogReply
  split
  · exact hs
  split
  · exact refreshJog_timers d v n hs
  · exact motionReply_timers _ _ _ hs

theorem passClaim_timers (hs : TimersSound s) : TimersSound (passClaim s) := by
  unfold passClaim
  split
  · exact tryActivate_timers (hs.of_exc (by simp) (by simp))
  · exact hs.of_exc rfl id

theorem releaseFrameReply_timers (p : Port) (hs : TimersSound s) : TimersSound (releaseFrameReply p s).state := by
  unfold releaseFrameReply
  split
  · split
    · exact hs
    split
    · exact hs
    · exact passClaim_timers hs
  split
  · exact hs.of_exc (by simp) (by simp)
  · exact hs

theorem stopMotionReply_timers (p : Port) (hs : TimersSound s) : TimersSound (stopMotionReply p s).state := by
  unfold stopMotionReply
  split
  · exact hs.of_exc (by simp) (by simp)
  · split
    · exact hs
    · exact activateAfterEnd_timers s (endMotion_timers _ hs)
  · exact hs

theorem holdTestReply_timers (hs : TimersSound s) : TimersSound (holdTestReply s).state := by
  unfold holdTestReply
  split
  · exact holdTest_timers _ hs
  · exact hs

theorem resumeTestReply_timers (hs : TimersSound s) : TimersSound (resumeTestReply s).state := by
  unfold resumeTestReply
  split
  · exact hs
  split
  · exact hs
  · exact releaseTest_timers hs

theorem abortTestReply_timers (hs : TimersSound s) : TimersSound (abortTestReply s).state := by
  unfold abortTestReply
  split
  · exact hs
  · exact activateAfterEnd_timers s (closeTest_timers _ hs)
  · exact activateAfterEnd_timers s (closeTest_timers _ hs)

theorem adjustRateReply_timers (whole : Bool) (rate : Int) (hs : TimersSound s) :
    TimersSound (adjustRateReply whole rate s).state := by
  unfold adjustRateReply
  split
  · exact hs
  split
  · exact hs
  split
  · exact adjustRate_timers _ hs
  · exact hs

/-! ### Requests on the extensometer and the capture pages (R49, R57, R58, R185) -/

/-- EXTENSOMETER PLACED stops the placement timer where it runs; in TAIL it does not run (R49, R61). -/
theorem extensometerPlacedReply_timers (hs : TimersSound s) : TimersSound (extensometerPlacedReply s).state := by
  unfold extensometerPlacedReply
  split
  next asked =>
    have removal := hs.removal_off (by simp [asked]) (by simp [asked])
    split
    · exact leavePlacing_timers (timersSound_of_stopped rfl removal)
    split
    next tail =>
      have late : beforeFracture s.tex.test = false := by
        unfold inTail at tail
        split at tail
        next n phase =>
          obtain ⟨t, test, phase⟩ := Option.map_eq_some_iff.1 phase
          simp [beforeFracture, test, phase, fracturePhase]
        next => cases tail
      exact timersSound_of_stopped (hs.tail_off late).1 removal
    next => exact hs
  next parked =>
    have attached : TimersSound (setExtState .attached s) :=
      timersSound_of_stopped (hs.placement_off (by simp [parked])) (hs.removal_off (by simp [parked]) (by simp [parked]))
    split
    · exact attached
    · exact hs
  all_goals exact hs

theorem confirmRemoval_timers (placement : s.exc.placement = none) : TimersSound (confirmRemoval s) := by
  have parked : TimersSound (setExtState .parked (stopRemoval s)) := timersSound_of_stopped placement rfl
  simp only [confirmRemoval]
  split
  · exact releaseTest_timers parked
  · exact parked

theorem extensometerRemovedReply_timers (hs : TimersSound s) : TimersSound (extensometerRemovedReply s).state := by
  unfold extensometerRemovedReply
  split
  next requested => exact confirmRemoval_timers (hs.placement_off (by simp [requested]))
  next fault => exact confirmRemoval_timers (hs.placement_off (by simp [fault]))
  next attached =>
    have removal := hs.removal_off (by simp [attached]) (by simp [attached])
    exact timersSound_of_stopped (hs.placement_off (by simp [attached])) removal
  next active => exact unannouncedRemoval_timers hs active
  next => exact hs
  next => exact hs

theorem readPageReply_timers (hs : TimersSound s) : TimersSound (readPageReply s).state := by
  unfold readPageReply
  split
  · exact hs
  · exact setLevel_timers (hs.of_exc rfl id)

/-! ### Requests that leave the extensometer channel -/

theorem ackFlagsReply_exc (p : Port) (w : BitVec 16) (s : State) : (ackFlagsReply p w s).state.exc = s.exc := by
  unfold ackFlagsReply
  split <;> simp

theorem setNoticesReply_exc (p : Port) (w : BitVec 16) (b : Byte) (s : State) : (setNoticesReply p w b s).state.exc = s.exc := by
  unfold setNoticesReply
  (repeat' split) <;> simp

theorem configureFrameReply_exc (u : FrameUpdate) (s : State) : (configureFrameReply u s).state.exc = s.exc := by
  simp only [configureFrameReply]
  (repeat' split) <;> simp

theorem setRangeReply_exc (x : Int) (s : State) : (setRangeReply x s).state.exc = s.exc := by
  unfold setRangeReply
  (repeat' split) <;> simp

theorem tareReply_exc (s : State) : (tareReply s).state.exc = s.exc := by
  unfold tareReply
  (repeat' split) <;> simp

theorem definePlanReply_exc (x : Int) (g : PlanUpdate) (l : List StageDef) (s : State) :
    (definePlanReply x g l s).state.exc = s.exc := by
  unfold definePlanReply
  (repeat' split) <;> simp

theorem readPlanReply_exc (x : Int) (s : State) : (readPlanReply x s).state.exc = s.exc := by
  unfold readPlanReply
  (repeat' split) <;> simp

theorem claimFrameReply_exc (p : Port) (s : State) : (claimFrameReply p s).state.exc = s.exc := by
  unfold claimFrameReply
  (repeat' split) <;> simp

theorem collectCompletionReply_exc (p : Port) (s : State) : (collectCompletionReply p s).state.exc = s.exc := by
  unfold collectCompletionReply
  split <;> simp

theorem specimenMountedReply_exc (id : Text) (w t d : Option Int) (s : State) :
    (specimenMountedReply id w t d s).state.exc = s.exc := by
  unfold specimenMountedReply
  (repeat' split) <;> simp

theorem specimenUnmountedReply_exc (s : State) : (specimenUnmountedReply s).state.exc = s.exc := by
  unfold specimenUnmountedReply
  (repeat' split) <;> simp

theorem enqueueSpecimenReply_exc (p : SpecimenParams) (s : State) : (enqueueSpecimenReply p s).state.exc = s.exc := by
  unfold enqueueSpecimenReply
  (repeat' split) <;> simp

theorem cancelSpecimenReply_exc (id : Text) (s : State) : (cancelSpecimenReply id s).state.exc = s.exc := by
  unfold cancelSpecimenReply
  (repeat' split) <;> simp

theorem setGradeLimitsReply_exc (g : Int) (l : Option GradeLimits) (s : State) :
    (setGradeLimitsReply g l s).state.exc = s.exc := by
  unfold setGradeLimitsReply
  (repeat' split) <;> simp

theorem readGradeLimitsReply_exc (g : Int) (s : State) : (readGradeLimitsReply g s).state.exc = s.exc := by
  unfold readGradeLimitsReply
  (repeat' split) <;> simp

theorem collectResultReply_exc (s : State) : (collectResultReply s).state.exc = s.exc := by
  unfold collectResultReply
  split <;> simp

theorem peekResultReply_exc (s : State) : (peekResultReply s).state.exc = s.exc := by
  unfold peekResultReply
  split <;> simp

theorem writeSiteCalibrationReply_exc (x : CalSection) (n : Int) (l : List CalPoint) (s : State) :
    (writeSiteCalibrationReply x n l s).state.exc = s.exc := by
  unfold writeSiteCalibrationReply
  (repeat' split) <;> simp

/-- A reply that leaves the extensometer channel, and the test in progress with it. -/
theorem CountsUntouched.timers {r : Reply} (test : CountsUntouched s r) (exc : r.state.exc = s.exc) (hs : TimersSound s) :
    TimersSound r.state :=
  hs.of_exc exc (by rw [test.1]; exact id)

/-! ### Every command -/

theorem setPort_timers (p : Port) (v : PortState) (hs : TimersSound s) : TimersSound (s.setPort p v) :=
  hs.of_exc (by simp) (by simp)

theorem request_timers {k : RequestKind} {r : Req} {s t : State} {body : State → Reply} (hs : TimersSound s)
    (hbody : TimersSound (body s).state) (h : request k r s body = .next t) : TimersSound t :=
  request_keeps (fun _ _ _ hu => setPort_timers _ _ hu) (fun _ => hbody) hs h

theorem next_timers {s t : State} (h : (.next s : Result) = .next t) (hs : TimersSound s) : TimersSound t := by
  cases h
  exact hs

theorem exec_timers {i : Instr} {s t : State} (hs : TimersSound s) (h : exec i s = .next t) : TimersSound t := by
  cases i with
  | readStatus r => exact request_timers hs hs h
  | readLive r => exact request_timers hs hs h
  | readFlags r => exact request_timers hs (setPort_timers _ _ hs) h
  | ackFlags r w => exact request_timers hs ((ackFlagsReply_untouched ..).timers (ackFlagsReply_exc ..) hs) h
  | setNotices r w b => exact request_timers hs ((setNoticesReply_untouched ..).timers (setNoticesReply_exc ..) hs) h
  | readQueue r => exact request_timers hs hs h
  | nop r => exact request_timers hs hs h
  | configureFrame r u => exact request_timers hs ((configureFrameReply_untouched ..).timers (configureFrameReply_exc ..) hs) h
  | setRange r x => exact request_timers hs ((setRangeReply_untouched ..).timers (setRangeReply_exc ..) hs) h
  | tare r => exact request_timers hs ((tareReply_untouched s).timers (tareReply_exc s) hs) h
  | clearFaults r => exact request_timers hs (hs.of_exc rfl id) h
  | definePlan r x g l => exact request_timers hs ((definePlanReply_untouched ..).timers (definePlanReply_exc ..) hs) h
  | readPlan r x => exact request_timers hs ((readPlanReply_untouched ..).timers (readPlanReply_exc ..) hs) h
  | referenceSearch r => exact request_timers hs (motionReply_timers _ _ _ hs) h
  | startTest r => exact request_timers hs (motionReply_timers _ _ _ hs) h
  | holdTest r => exact request_timers hs (holdTestReply_timers hs) h
  | resumeTest r => exact request_timers hs (resumeTestReply_timers hs) h
  | abortTest r => exact request_timers hs (abortTestReply_timers hs) h
  | adjustRate r x => exact request_timers hs (adjustRateReply_timers _ _ hs) h
  | claimFrame r => exact request_timers hs ((claimFrameReply_untouched ..).timers (claimFrameReply_exc ..) hs) h
  | releaseFrame r => exact request_timers hs (releaseFrameReply_timers _ hs) h
  | moveTo r x v => exact request_timers hs (motionReply_timers _ _ _ hs) h
  | stopMotion r => exact request_timers hs (stopMotionReply_timers _ hs) h
  | collectCompletion r =>
    exact request_timers hs ((collectCompletionReply_untouched ..).timers (collectCompletionReply_exc ..) hs) h
  | jog r d v n => exact request_timers hs (jogReply_timers _ _ _ _ _ hs) h
  | retract r => exact request_timers hs (motionReply_timers _ _ _ hs) h
  | specimenMounted r x w t d =>
    exact request_timers hs ((specimenMountedReply_untouched ..).timers (specimenMountedReply_exc ..) hs) h
  | specimenUnmounted r =>
    exact request_timers hs ((specimenUnmountedReply_untouched s).timers (specimenUnmountedReply_exc s) hs) h
  | extensometerPlaced r => exact request_timers hs (extensometerPlacedReply_timers hs) h
  | extensometerRemoved r => exact request_timers hs (extensometerRemovedReply_timers hs) h
  | enqueueSpecimen r p => exact request_timers hs ((enqueueSpecimenReply_untouched ..).timers (enqueueSpecimenReply_exc ..) hs) h
  | cancelSpecimen r x => exact request_timers hs ((cancelSpecimenReply_untouched ..).timers (cancelSpecimenReply_exc ..) hs) h
  | setGradeLimits r g l => exact request_timers hs ((setGradeLimitsReply_untouched ..).timers (setGradeLimitsReply_exc ..) hs) h
  | readGradeLimits r g => exact request_timers hs ((readGradeLimitsReply_untouched ..).timers (readGradeLimitsReply_exc ..) hs) h
  | collectResult r => exact request_timers hs ((collectResultReply_untouched s).timers (collectResultReply_exc s) hs) h
  | peekResult r => exact request_timers hs ((peekResultReply_untouched s).timers (peekResultReply_exc s) hs) h
  | readPage r => exact request_timers hs (readPageReply_timers hs) h
  | writeSiteCalibration r x n l =>
    exact request_timers hs ((writeSiteCalibrationReply_untouched ..).timers (writeSiteCalibrationReply_exc ..) hs) h
  | readCalibration r => exact request_timers hs hs h
  | unknownRequest p tag k => exact next_timers h (setPort_timers _ _ hs)
  | writeNotTaken p b => exact next_timers h (.ite (setPort_timers _ _ hs) hs)
  | readTransaction p n => exact next_timers h (setPort_timers _ _ hs)
  | powerOnReset => exact next_timers h (timersSound_of_stopped rfl rfl)
  | warmReset => exact next_timers h (timersSound_of_stopped rfl rfl)
  | sampleTimerExpiry => exact next_timers h (expire_timers hs)
  | loadFaultDeclaration => exact next_timers h (.ite (expire_timers hs) hs)
  | placementTimeout => exact next_timers h (.ite (expire_timers hs) hs)
  | removalTimeout => exact next_timers h (.ite (expire_timers hs) hs)
  | conversionEndStrobe =>
    simp only [exec, execConversionEndStrobe] at h
    split at h
    · exact next_timers h (hs.of_exc rfl id)
    · exact next_timers h hs
  | sampleArrival code =>
    simp only [exec, execSampleArrival, arrived] at h
    split at h
    next arriving => exact next_timers h (arrive_timers hs arriving)
    next => exact next_timers h hs
  | stageTimeout code =>
    simp only [exec, execStageTimeout] at h
    split at h
    next arriving => exact next_timers h (.ite (arrive_timers hs arriving) hs)
    next => exact next_timers h hs
  | endOfTail code =>
    simp only [exec, execEndOfTail] at h
    split at h
    next arriving => exact next_timers h (.ite (arrive_timers hs arriving) hs)
    next => exact next_timers h hs
  | brakeReleaseExpiry => exact next_timers h (brakeReleased_timers hs)
  | holdTimerExpiry => exact next_timers h (.ite (hs.of_exc rfl id) hs)
  | jogDurationExpiry => exact next_timers h (.ite (activateAfterEnd_timers s (endMotion_timers _ hs)) hs)
  | activation => exact next_timers h (tryActivate_timers hs)
  | encoderEdge d => exact next_timers h (edge_timers d hs)
  | searchTravelLimit d => exact next_timers h (.ite (edge_timers d hs) hs)
  | extQuadratureEdge d => exact next_timers h (hs.of_eq rfl Iff.rfl Iff.rfl id)
  | referenceSwitchEvent => exact next_timers h (referenceSwitchOn_timers hs)
  | referenceSwitchRelease => exact next_timers h (referenceSwitchOff_timers hs)
  | hardLimitSwitchEvent side => exact next_timers h (hardLimitOn_timers side hs)
  | hardLimitSwitchRelease side => exact next_timers h (hs.of_exc rfl id)
  | gateOpening => exact next_timers h (gateOpens_timers hs)
  | gateClosing => exact next_timers h (.ite (hs.of_exc (by simp) (by simp)) hs)
  | emergencyStopAssertion => exact next_timers h (emergencyStops_timers hs)
  | emergencyStopRelease => exact next_timers h (hs.of_exc rfl id)
  | calProgrammingCompletion l => exact next_timers h (completeProgramming_timers l hs)

end Sys2Proof.Machine

open Sys2Proof Sys2Proof.Machine

/-- Settles O53: a timer starts only as its extensometer state is entered, before fracture (`extPreloadEnd_timers`,
`startRemoval_timers`); what leaves that state stops it; and fracture and closure stop both (`extFracture_stopped`,
`extClosure_stopped`). -/
theorem extensometerTimersKeptByEveryStep : Obligations.ExtensometerTimersKeptByEveryStep := by
  unfold Obligations.ExtensometerTimersKeptByEveryStep
  intro s t hs h
  exact step_keeps (P := TimersSound) (fun _ _ hs => hs.of_exc rfl id) (fun _ _ _ hs h => exec_timers hs h) hs h

end

section

/-! PROOF. EXTENSOMETER PLACED and EXTENSOMETER REMOVED, answered (R49, R57, R58); what the operations they are made of do to
a test in progress is said here once. -/

namespace Sys2Proof.Machine

variable {s : State} {t : TestContext}

/-! ### What operations on the test context do to the test in progress (R108, R114, R122, R129) -/

theorem updateTest_eq (f : TestContext → TestContext) (h : s.tex.test = some t) :
    updateTest f s = { s with tex := { s.tex with test := some (f t) } } := by
  simp [updateTest, h]

theorem addEventAt_eq (k : EventKind) (n : Nat) (v : Int) (h : s.tex.test = some t) :
    addEventAt k n v s =
      { s with tex := { s.tex with test := some (t.logEvent ⟨k, n, v⟩) }, cps := eventMarked s.cps } := by
  simp [addEventAt, h, updateTest, markEvent, eventMarked]

theorem addEvent_eq (k : EventKind) (v : Int) (h : s.tex.test = some t) :
    addEvent k v s =
      { s with
        tex := { s.tex with test := some (t.logEvent ⟨k, sampleNumber t.arrivals, v⟩) }, cps := eventMarked s.cps } := by
  simp only [addEvent, h, addEventAt_eq k _ v h]

/-- The test context as stage 1 is entered from PLACING (R114, R115). -/
def enteredFromPlacing (d : StageDef) (t : TestContext) : TestContext :=
  ({ t with
    phase := .running,
    stage := some { index := 1, rate := d.rate, elapsed := 0, endLogged := false, timeoutLogged := false } }
      : TestContext).logEvent ⟨.stage, sampleNumber t.arrivals, 1⟩

/-- A test in PLACING enters stage 1, the loop PENDING (R114, R136). -/
theorem leavePlacing_eq {d : StageDef} (h : s.tex.test = some t) (placing : t.phase = .placing)
    (stage : stageAt t.plan 1 = some d) :
    leavePlacing s =
      { s with
        tex := { s.tex with test := some (enteredFromPlacing d t) },
        rlp := { mode := loopModeOf d.mode, rate := some d.rate, target := none, seed := .pending, setPoint := 0 },
        cps := eventMarked s.cps } := by
  have running : setPhase .running s = _ := updateTest_eq _ h
  simp only [leavePlacing, h, stage, placing, beginStage, running]
  rw [updateTest_eq _ rfl, addEvent_eq _ _ rfl]
  rfl

/-- A test HELD from RUNNING is released, the loop PENDING (R122, R136). -/
theorem releaseTest_eq {c : HoldCause} (h : s.tex.test = some t) (held : t.phase = .held c .running) :
    releaseTest s =
      { s with
        tex := { s.tex with
          test := some (({ t with phase := .running } : TestContext).logEvent
            ⟨.resume, sampleNumber t.arrivals, causeNumber c⟩) },
        rlp := { s.rlp with target := none, seed := .pending, setPoint := 0 }, cps := eventMarked s.cps } := by
  have running : setPhase .running s = _ := updateTest_eq _ h
  simp only [releaseTest, h, held, returnPhase, running]
  rw [addEvent_eq _ _ rfl]
  rfl

/-- An entry leaves the results in progress (R129). -/
theorem logEvent_rev (t : TestContext) (e : Event) : (t.logEvent e).rev = t.rev := by
  unfold TestContext.logEvent
  split <;> rfl

/-- A handover's entry sets the offset and the handover mark (R52, R53, R58, R60). -/
theorem handoverEntry_eq {b : StrainBasis} (n : Nat) (v : Int) (h : s.tex.test = some t) (basis : s.exc.basis = some b) :
    handoverEntry n v s =
      { s with
        exc := { s.exc with basis := some { b with h := v } },
        tex := { s.tex with test := some { t.logEvent ⟨.handover, n, v⟩ with handoverMark := true } },
        cps := eventMarked s.cps } := by
  rw [handoverEntry, addEventAt_eq (t := t) (s := updateBasis _ s) _ _ _ h, markHandover, updateTest_eq _ rfl]
  simp [updateBasis, basis]

/-! ### EXTENSOMETER PLACED and EXTENSOMETER REMOVED (R48, R49, R57, R58) -/

/-- Zeroing at a request with no conversion in flight, and ACTIVE entered (R48). -/
theorem beginActive_zeroAtRequest {b : StrainBasis} (basis : s.exc.basis = some b) (free : s.ldc.conversion = none) :
    beginActive (zeroAtRequest (stopPlacement s)) =
      { s with
        exc := { s.exc with
          state := .active, count := 0, placement := none, tracker := none,
          lastActive := some { ext := 0, xh := 0, number := none },
          basis := some { b with p0 := s.xhc.position } } } := by
  have still : ({ s.ldc with conversion := none } : LoadChannel) = s.ldc := by rw [← free]
  simp [beginActive, zeroAtRequest, zeroPosition, stopPlacement, setP0, updateBasis, basis, free, still]

/-- A confirmed removal releases a test HELD for it from RUNNING (R57, R122). -/
theorem confirmRemoval_eq (h : s.tex.test = some t) (held : t.phase = .held .extRemoval .running) :
    confirmRemoval s =
      { s with
        exc := { s.exc with state := .parked, removal := none },
        tex := { s.tex with
          test := some (({ t with phase := .running } : TestContext).logEvent ⟨.resume, sampleNumber t.arrivals, 3⟩) },
        rlp := { s.rlp with target := none, seed := .pending, setPoint := 0 }, cps := eventMarked s.cps } := by
  simp only [confirmRemoval, phase_of_test h, held]
  rw [releaseTest_eq (s := setExtState .parked (stopRemoval s)) h held]
  rfl

/-- An unannounced removal hands over at the last valid sample in ACTIVE (R58). -/
theorem unannouncedRemoval_eq {x : ActiveStrain} {b : StrainBasis} {n : Nat} (h : s.tex.test = some t)
    (last : s.exc.lastActive = some x) (basis : s.exc.basis = some b) (number : x.number = some n) :
    unannouncedRemoval s =
      { s with
        exc := { s.exc with state := .parked, basis := some { b with h := x.ext - x.xh } },
        tex := { s.tex with
          test := some
            { (({ t with flags := { t.flags with extUnannounced := true } } : TestContext).logEvent
                ⟨.handover, n, x.ext - x.xh⟩) with
              handoverMark := true, rev := evaluationLeaves t.rev } },
        cps := eventMarked s.cps } := by
  have offset : lastActiveOffset s = x.ext - x.xh := by simp [lastActiveOffset, last]
  have sample : lastActiveNumber s = n := by simp [lastActiveNumber, last, number]
  have entered := handoverEntry_eq (s := setTestFlags (fun f => { f with extUnannounced := true }) (setExtState .parked s)) n
    (x.ext - x.xh) (updateTest_test _ h) basis
  rw [unannouncedRemoval, offset, sample, entered, updateEvaluation, updateTest_eq _ rfl]
  simp [logEvent_rev, setTestFlags, updateTest, setExtState]

end Sys2Proof.Machine

open Sys2Proof Sys2Proof.Machine

/-- Settles O26, by the extensometer's state and the test's: the reply's state is that of `beginActive_zeroAtRequest` with
`leavePlacing_eq`, of `confirmRemoval_eq`, or of `unannouncedRemoval_eq`. -/
theorem extensometerArmsAnswered : Obligations.ExtensometerArmsAnswered := by
  unfold Obligations.ExtensometerArmsAnswered
  constructor
  · intro r s form port
    have placed : permitted .extensometerPlaced r.port = true := by rw [port]; rfl
    have removed : permitted .extensometerRemoved r.port = true := by rw [port]; rfl
    refine ⟨fun parked idle => ?_, fun parked inTest => ?_, fun t b d asked test placing basis free stage => ?_,
      fun attached => ?_, fun off => ?_⟩
    · refine request_answered placed form ?_
      simp [extensometerPlacedReply, parked, testIdle_of_none idle, Reply.plain, setExtState]
    · exact request_answered placed form (by simp [extensometerPlacedReply, parked, testIdle_of_test inTest, Reply.plain])
    · have waiting : placingOrHeldFromIt s = true := by simp [placingOrHeldFromIt, phase_of_test test, placing]
      have left := leavePlacing_eq (s := beginActive (zeroAtRequest (stopPlacement s))) test placing stage
      refine request_answered placed form ?_
      simp only [extensometerPlacedReply, asked, waiting, if_true, left]
      rw [beginActive_zeroAtRequest basis free]
      rfl
    · exact request_answered removed form (by simp [extensometerRemovedReply, attached, Reply.plain, setExtState])
    · refine request_answered removed form ?_
      obtain parked | asked := off
      · simp [extensometerRemovedReply, parked, Reply.plain]
      · simp [extensometerRemovedReply, asked, Reply.plain]
  · intro r s t form port test
    have removed : permitted .extensometerRemoved r.port = true := by rw [port]; rfl
    refine ⟨fun on held => ?_, fun x b n active last basis number => ?_⟩
    all_goals refine request_answered removed form ?_
    · rw [← confirmRemoval_eq test held]
      obtain requested | fault := on
      · simp only [extensometerRemovedReply, requested, Reply.plain]
      · simp only [extensometerRemovedReply, fault, Reply.plain]
    · rw [← unannouncedRemoval_eq test last basis number]
      simp only [extensometerRemovedReply, active, Reply.plain]

end

section

/-! PROOF. Encoder edges: the counter, its soft-limit events, its bound, and a search's travel (R41, R67, R71, R73, R79). -/

namespace Sys2Proof.Machine

variable {s : State} {t : TestContext} {a : ActiveMotion}

/-! ### The end of a motion as a whole state (R69, R98) -/

/-- A notice leaves arbiter and crosshead free to be written after it (R204). -/
theorem raise_with (p : Port) (n : Notice) (m : Arbiter) (x : Crosshead) (s : State) :
    raise p n { s with mar := m, xhc := x } = { raise p n s with mar := m, xhc := x } := by
  cases p <;> rfl

/-- The end of a motion other than a test, for a hold time other than 0. -/
theorem endMotion_eq (o : MotionOutcome) (active : s.mar.active = some a) (other : a.job ≠ .test)
    (hold : s.xhc.config.holdTime ≠ 0) :
    endMotion o s =
      raise a.port .motionDone
        { s with
          mar := { s.mar with active := none }.setSlot a.port (some (ended (activeKind a.job) a.tag o s)),
          xhc := holdingDrive s.xhc } := by
  obtain ⟨port, tag, j⟩ := a
  obtain ⟨xhc, mar⟩ := endMotion_other o active other hold
  have written : endMotion o s =
      { raise port .motionDone s with mar := (endMotion o s).mar, xhc := (endMotion o s).xhc } := by
    simp only [endMotion, activeMotion_of_active active other, driveHold]
    cases port <;> split <;> rfl
  rw [written, xhc, mar]
  exact (raise_with ..).symm

/-- A test is ended by its closure alone (R98, R128). -/
theorem endMotion_test (o : MotionOutcome) (active : s.mar.active = some a) (test : a.job = .test) : endMotion o s = s := by
  have none_other : activeMotion s = none := by simp [activeMotion, active, test]
  simp [endMotion, none_other]

/-- With no request queued no activation follows (R94). -/
theorem activateAfterEnd_of_queue (b : State) (h : s.mar.queue = []) : activateAfterEnd b s = s := by
  have still : tryActivate s = s := by simp [tryActivate, h, activationLoop]
  simp [activateAfterEnd, still]

/-! ### What a closure leaves (R69, R128, R191) -/

@[simp] theorem raise_faults (p : Port) (n : Notice) (s : State) : (raise p n s).pif.faults = s.pif.faults :=
  setPort_faults s p _

@[simp] theorem extClosure_faults (s : State) : (extClosure s).pif.faults = s.pif.faults := by
  unfold extClosure
  simp only []
  split <;> simp

@[simp] theorem closeLastPage_faults (c : CaptureContext) (s : State) : (closeLastPage c s).pif.faults = s.pif.faults := by
  unfold closeLastPage
  (repeat' split) <;> simp [handOver]

@[simp] theorem fileTestEnd_faults (n : BitVec 16) (c : Closure) (s : State) :
    (fileTestEnd n c s).pif.faults = s.pif.faults := by
  unfold fileTestEnd
  split <;> simp [fileCompletion]

@[simp] theorem closureNotices_faults (s : State) : (closureNotices s).pif.faults = s.pif.faults := by
  simp [closureNotices]

/-- A closure enters nothing in the fault word. -/
theorem closeTest_faults (c : Closure) (s : State) : (closeTest c s).pif.faults = s.pif.faults := by
  cases h : s.tex.test with
  | none => rw [closeTest_of_idle c h]
  | some t =>
    simp only [closeTest, h]
    (repeat' split) <;> simp

theorem driveHold_xhc (hold : s.xhc.config.holdTime ≠ 0) : (driveHold s).xhc = holdingDrive s.xhc := by
  simp [driveHold, stopDriveTimers, holdingDrive, hold]

/-- A closure other than by ESTOP and HARD_LIMIT leaves the drive HOLDING (R69). -/
theorem closeTest_xhc {c : Closure} (h : s.tex.test = some t) (holds : leavesDisabled c = false)
    (hold : s.xhc.config.holdTime ≠ 0) : (closeTest c s).xhc = holdingDrive s.xhc := by
  simp only [closeTest, h, holds, Bool.false_eq_true, if_false]
  split
  all_goals
    rw [driveHold_xhc (by simpa using hold)]
    simp

theorem recordTest_results {t₀ t : TestContext} {m : MountedSpecimen} (c : Closure) (k : Nat × Nat × Nat × Nat)
    (h : s.tex.test = some t) (slot : s.spt.slot = some m) :
    ∃ rec, (recordTest t₀ c k s).rsl.results = s.rsl.results ++ [rec] ∧ rec.serial = t.serial ∧ rec.closure = c := by
  simp only [recordTest, h, slot]
  exact ⟨_, rfl, rfl, rfl⟩

/-- A closure appends the record of its test (R191). -/
theorem closeTest_results {m : MountedSpecimen} (c : Closure) (h : s.tex.test = some t) (slot : s.spt.slot = some m) :
    ∃ rec, (closeTest c s).rsl.results = s.rsl.results ++ [rec] ∧ rec.serial = t.serial ∧ rec.closure = c := by
  have recorded {u : State} (same : u.tex.test.map TestContext.identity = s.tex.test.map TestContext.identity)
      (spt : u.spt = s.spt) (rsl : u.rsl = s.rsl) (k : Nat × Nat × Nat × Nat) :
      ∃ rec, (recordTest t c k u).rsl.results = s.rsl.results ++ [rec] ∧ rec.serial = t.serial ∧ rec.closure = c := by
    rw [h] at same
    obtain ⟨t', test, identity⟩ := Option.map_eq_some_iff.1 same
    obtain ⟨rec, results, serial, closure⟩ := recordTest_results (t₀ := t) c k test (spt ▸ slot)
    exact ⟨rec, by rw [results, rsl], serial.trans (congrArg Prod.fst identity), closure⟩
  simp only [closeTest, h]
  split <;> split <;> simpa using recorded (by simp) (by simp) (by simp) _

/-! ### The work of an edge (R67, R71, R73, R79) -/

theorem outside_bound_iff (x : Int) : outside (-positionBound) positionBound x = true ↔ x < -2000000 ∨ 2000000 < x := by
  unfold outside positionBound
  simp

theorem travelExceeds_with (x : Crosshead) (s : State) :
    travelExceeds { s with xhc := x } = (searchActive s && decide (x.config.searchLimit < x.searchTravel)) := rfl

theorem searchActive_of_active (active : s.mar.active = some a) :
    searchActive s = true ↔ ∃ ph, a.job = .search ph := by
  obtain ⟨port, tag, j⟩ := a
  cases j <;> simp [searchActive, active]

/-- An edge within the counter's bound, no search being active, counts and meets a soft limit (R67, R79). -/
theorem workEdge_counts (d : Direction)
    (inside : ¬ (s.xhc.position + stepOf d < -2000000 ∨ 2000000 < s.xhc.position + stepOf d))
    (other : searchActive s = false) :
    workEdge d s =
      ⟨softLimitAtEdge { s with xhc := { s.xhc with position := s.xhc.position + stepOf d } }, false⟩ := by
  have counted : countEdge d s = { s with xhc := { s.xhc with position := s.xhc.position + stepOf d } } := by
    simp [countEdge, other]
  rw [workEdge, if_neg (by rwa [outside_bound_iff])]
  simp [counted, travelExceeds_with, other]

/-- An edge within the counter's bound in a search adds to its travel, which may exceed its limit there (R71, R73). -/
theorem workEdge_search (d : Direction)
    (inside : ¬ (s.xhc.position + stepOf d < -2000000 ∨ 2000000 < s.xhc.position + stepOf d))
    (search : searchActive s = true) {x : Crosshead}
    (hx : x = { s.xhc with position := s.xhc.position + stepOf d, searchTravel := s.xhc.searchTravel + 1 }) :
    workEdge d s =
      if x.config.searchLimit < x.searchTravel then
        ⟨endMotion .equipmentCheck (enterFault .equipmentCheck { s with xhc := x }), true⟩
      else ⟨softLimitAtEdge { s with xhc := x }, false⟩ := by
  have counted : countEdge d s = { s with xhc := x } := by simp [countEdge, search, hx]
  rw [workEdge, if_neg (by rwa [outside_bound_iff])]
  simp [counted, travelExceeds_with, search]

/-- An edge beyond the counter's bound is not counted (R67). -/
theorem workEdge_bound (d : Direction)
    (beyond : s.xhc.position + stepOf d < -2000000 ∨ 2000000 < s.xhc.position + stepOf d) :
    workEdge d s = ⟨boundMet s, false⟩ := by
  rw [workEdge, if_pos ((outside_bound_iff _).2 beyond)]

theorem encoderEdge_next (d : Direction) (s : State) :
    exec (.encoderEdge d) s = .next (activateAfterEnd s (workEdge d s).s) := rfl

theorem searchTravelLimit_next (d : Direction) (s : State) :
    exec (.searchTravelLimit d) s =
      .next (if (workEdge d s).travelExceeded then activateAfterEnd s (workEdge d s).s else s) := rfl

/-! ### Soft-limit events (R79) -/

theorem softLimitEvent_other (up : Bool) (active : s.mar.active = some a) (test : a.job ≠ .test)
    (search : ∀ ph, a.job ≠ .search ph) : softLimitEvent up s = endMotion .stoppedLimit (sendWordValue 0 s) := by
  obtain ⟨port, tag, j⟩ := a
  simp only [softLimitEvent, active]
  cases j with
  | test => exact absurd rfl test
  | search ph => exact absurd rfl (search ph)
  | _ => rfl

theorem softLimitEvent_test (up : Bool) (active : s.mar.active = some a) (test : a.job = .test) :
    softLimitEvent up s = if up then abortTest .softLimit (sendWordValue 0 s) else sendWordValue 0 s := by
  obtain ⟨port, tag, j⟩ := a
  obtain rfl : j = .test := test
  simp only [softLimitEvent, active]

/-- An aborted test, the drive left HOLDING, nothing queued: its record, its slot, the drive and the fault word (R127, R128). -/
theorem abortTest_held {m : MountedSpecimen} {c : AbortCause} (h : s.tex.test = some t) (slot : s.spt.slot = some m)
    (holds : leavesDisabled (.aborted c) = false) (hold : s.xhc.config.holdTime ≠ 0) :
    ∃ rec, (abortTest c s).tex.test = none ∧ (abortTest c s).mar.active = none ∧
      (abortTest c s).rsl.results = s.rsl.results ++ [rec] ∧ rec.serial = t.serial ∧ rec.closure = .aborted c ∧
      (abortTest c s).spt.slot = some { m with state := .tested } ∧ (abortTest c s).xhc = holdingDrive s.xhc ∧
      (abortTest c s).pif.faults = s.pif.faults := by
  obtain ⟨rec, results, serial, closure⟩ := closeTest_results (.aborted c) h slot
  obtain ⟨test, active, -, -, -, -, slotLeft⟩ := closeTest_fields (.aborted c) h
  exact ⟨rec, test, active, results, serial, closure, by rw [abortTest, slotLeft, slot]; rfl, closeTest_xhc h holds hold,
    closeTest_faults ..⟩

/-- The completion of a motion reads the crosshead controller only (R98). -/
theorem ended_of_xhc {u : State} (k : MotionKind) (tag : Tag) (o : MotionOutcome) (h : u.xhc = s.xhc) :
    ended k tag o u = ended k tag o s := by
  simp [ended, h]

/-- With no request queued no activation follows an aborted test (R94). -/
theorem activateAfterEnd_abortTest (b : State) (c : AbortCause) (h : s.mar.queue = []) :
    activateAfterEnd b (abortTest c s) = abortTest c s :=
  activateAfterEnd_of_queue b ((closeTest_queue _ s).trans h)

section
variable {d : Direction} {x : Crosshead}

/-- An edge within the counter's bound and without a search: what it counts, and its soft-limit event (R67, R79). -/
theorem encoderEdge_counts (inside : ¬ (s.xhc.position + stepOf d < -2000000 ∨ 2000000 < s.xhc.position + stepOf d))
    (hx : x = { s.xhc with position := s.xhc.position + stepOf d })
    (other : ∀ a, s.mar.active = some a → ∀ ph, a.job ≠ .search ph) :
    exec (.encoderEdge d) s = .next (activateAfterEnd s
      (if towardSoftLimit x x.word then softLimitEvent (0 < x.word) { s with xhc := x } else { s with xhc := x })) := by
  have noSearch : searchActive s = false := by
    cases active : s.mar.active with
    | none => simp [searchActive, active]
    | some a =>
      rw [← Bool.not_eq_true, searchActive_of_active active]
      rintro ⟨ph, search⟩
      exact other a active ph search
  rw [encoderEdge_next, workEdge_counts d inside noSearch, hx]
  rfl

/-- An edge beyond the counter's bound: the reference INVALID, a motion ended, a test aborted (R67). -/
theorem encoderEdge_bound {check : State → State}
    (beyond : s.xhc.position + stepOf d < -2000000 ∨ 2000000 < s.xhc.position + stepOf d)
    (hx : x = { s.xhc with referenceValid := false })
    (hcheck : check = if s.xhc.referenceValid then enterFault .equipmentCheck else id) :
    exec (.encoderEdge d) s = .next (activateAfterEnd s
      (abortTest .equipmentCheck (endMotion .equipmentCheck (check { s with xhc := x })))) := by
  rw [encoderEdge_next, workEdge_bound d beyond, hx, hcheck, boundMet]
  cases s.xhc.referenceValid <;> rfl

/-- The fault that a bound met with a VALID reference enters leaves all but the port interface (R67, R207). -/
theorem boundCheck_kept {check : State → State}
    (hcheck : check = if s.xhc.referenceValid then enterFault .equipmentCheck else id) (u : State) :
    (∀ m y, check { u with mar := m, xhc := y } = { check u with mar := m, xhc := y }) ∧
      (check u).mar = u.mar ∧ (check u).xhc = u.xhc ∧ (check u).tex = u.tex ∧ (check u).spt = u.spt ∧
      (check u).rsl = u.rsl ∧
      (s.xhc.referenceValid = true → (check u).pif.faults.equipmentCheck = true) := by
  rw [hcheck]
  cases s.xhc.referenceValid with
  | true =>
    have entered : (enterFault .equipmentCheck u).pif.faults.equipmentCheck = true := by
      simp [enterFault, raiseAll, FaultWord.enter]
    exact ⟨fun _ _ => rfl, by simp, by simp, by simp, by simp, by simp, fun _ => entered⟩
  | false => exact ⟨fun _ _ => rfl, rfl, rfl, rfl, rfl, rfl, fun h => by simp at h⟩

end

end Sys2Proof.Machine

open Sys2Proof Sys2Proof.Machine

/-- Settles O41: an edge within the counter's bound by `encoderEdge_counts` and the soft-limit events, one beyond it by
`encoderEdge_bound`, a search's by `workEdge_search`. -/
theorem edgesCountedAndSearchBounded : Obligations.EdgesCountedAndSearchBounded := by
  unfold Obligations.EdgesCountedAndSearchBounded
  refine ⟨fun s d step hstep => ⟨fun low high x hx other => ?_, fun beyond x check hx hcheck => ?_, ?_⟩,
    fun s d step a ph x hstep low high active search hx => ?_⟩
  all_goals have one : stepOf d = step := by rw [hstep]; rfl
  · have edge := encoderEdge_counts (d := d) (x := x) (by omega) (by rw [hx, one]) other
    have config : x.config = s.xhc.config := by rw [hx]
    refine ⟨fun away => ?_, fun toward a active => ⟨fun noTest queue hold => ?_, fun test down => ?_,
      fun test up queue hold t m inTest slot => ?_⟩⟩
    · rw [edge, away]
      exact congrArg _ (activateAfterEnd_of_active rfl)
    · rw [edge, if_pos toward, softLimitEvent_other (s := { s with xhc := x }) _ active noTest (other a active),
        endMotion_eq (s := sendWordValue 0 { s with xhc := x }) _ active noTest (by rwa [← config] at hold),
        activateAfterEnd_of_queue _ (by simpa using queue)]
      rfl
    · rw [edge, if_pos toward, softLimitEvent_test (s := { s with xhc := x }) _ active test,
        if_neg (by simpa using Int.le_of_lt down)]
      exact congrArg _ (activateAfterEnd_of_active rfl)
    · have aborted : softLimitEvent (0 < x.word) { s with xhc := x } =
          abortTest .softLimit (sendWordValue 0 { s with xhc := x }) := by
        rw [softLimitEvent_test (s := { s with xhc := x }) _ active test, if_pos (by simpa using up)]
      obtain ⟨rec, ended, cleared, results, serial, closure, slotLeft, drive, faults⟩ :=
        abortTest_held (s := sendWordValue 0 { s with xhc := x }) (c := .softLimit) inTest slot rfl (by rwa [← config] at hold)
      refine ⟨_, rec, ?_, ended, cleared, results, serial, closure, slotLeft, drive, faults⟩
      rw [edge, if_pos toward, aborted, activateAfterEnd_abortTest s _ (by simpa using queue)]
  · have edge := encoderEdge_bound (d := d) (by omega) hx hcheck
    obtain ⟨written, mar, xhc, tex, spt, rsl, faulted⟩ := boundCheck_kept hcheck { s with xhc := x }
    have config : (check { s with xhc := x }).xhc.config = s.xhc.config := by rw [xhc, hx]
    generalize check { s with xhc := x } = u at *
    refine ⟨fun idle noTest => ?_, fun queue hold a active => ?_⟩
    · rw [edge, endMotion_idle _ (by rw [mar]; exact idle), abortTest, closeTest_of_idle _ (by rw [tex]; exact noTest),
        activateAfterEnd_of_active (by rw [mar])]
    · rw [← config] at hold
      rw [← mar] at queue active
      refine ⟨fun other noTest => ?_, fun test t m inTest slot => ?_⟩
      · rw [edge, abortTest, closeTest_of_idle _ (by simp [tex, noTest]), endMotion_eq _ active other hold,
          activateAfterEnd_of_queue _ (by simpa using queue), mar, xhc, ended_of_xhc _ _ _ xhc, ← written]
      · rw [← tex] at inTest
        rw [← spt] at slot
        obtain ⟨rec, ended, cleared, results, serial, closure, slotLeft, drive, faults⟩ :=
          abortTest_held (c := .equipmentCheck) inTest slot rfl hold
        rw [rsl] at results
        rw [xhc] at drive
        refine ⟨_, rec, ?_, ended, cleared, results, serial, closure, slotLeft, drive, fun valid => ?_⟩
        · rw [edge, endMotion_test _ active test, activateAfterEnd_abortTest s _ queue]
        · rw [faults]
          exact faulted valid
  · cases d <;> rfl
  · have inside : ¬ (s.xhc.position + stepOf d < -2000000 ∨ 2000000 < s.xhc.position + stepOf d) := by omega
    have work := workEdge_search d inside ((searchActive_of_active active).2 ⟨ph, search⟩) (x := x) (by rw [hx, one])
    have config : x.config = s.xhc.config := by rw [hx]
    refine ⟨fun within away => ?_, fun exceeds queue hold => ?_⟩
    · rw [if_neg (Int.not_lt.2 within), softLimitAtEdge, if_neg (by simpa using away)] at work
      rw [searchTravelLimit_next, encoderEdge_next, work]
      exact ⟨rfl, congrArg _ (activateAfterEnd_of_active rfl)⟩
    · rw [if_pos exceeds] at work
      rw [searchTravelLimit_next, encoderEdge_next, work]
      refine ⟨rfl, congrArg _ ?_⟩
      have ended := endMotion_eq (s := enterFault .equipmentCheck { s with xhc := x }) .equipmentCheck active (by simp [search])
        (by rwa [← config] at hold)
      simp only [if_true]
      rw [ended, activateAfterEnd_of_queue _ (by simpa using queue), search]
      rfl

end

section

/-! PROOF. The placement and removal timeouts at an expiry (R50, R53, R56), and a good sample in ACTIVE (R46, R51, R52, R54, R59,
R60). -/

namespace Sys2Proof.Machine

variable {s : State} {t : TestContext}

/-! ### The timeouts (R50, R56) -/

/-- With no conversion in flight an expiry counts no miss (R21). -/
theorem startConversion_free (free : s.ldc.conversion = none) :
    startConversion s = { s with ldc := { s.ldc with conversion := some { range := s.ldc.range, latch := none } } } := by
  simp [startConversion, missCountAfter, conversionMissed, free]

/-- Out of RUNNING an expiry that declares no fault is the next conversion and the extensometer's timers (R21, R50, R56, R118). -/
theorem workExpiry_timers (test : s.tex.test = some t) (phase : t.phase ≠ .running) (free : s.ldc.conversion = none)
    (fault : s.ldc.loadFault = false) :
    workExpiry s = advanceRemoval t.plan (advancePlacement t.plan ⟨startConversion s, false, false, false⟩) := by
  have calm : missCountReaches s = false := by simp [missCountReaches, conversionMissed, free]
  have still : advanceStage (startConversion s) = startConversion s := by
    simp [advanceStage, phase_of_test (s := startConversion s) test, phase]
  have plan : (startConversion s).plan = some t.plan := by simp [State.plan, startConversion, test]
  rw [workExpiry_undeclared fault calm]
  simp only [advanceTimers, beginExpiry, still, plan, calm]

/-- A removal timer that stands still does not expire. -/
theorem advanceRemoval_off (p : Plan) {e : Expiry} (off : e.s.exc.removal = none) : advanceRemoval p e = e := by
  have still : advanceTimer e.s.ldc.sampleInterval (timersPaused e.s) e.s.exc.removal = e.s.exc.removal := by
    simp [advanceTimer, off]
  have running : timerReached e.s.exc.removal p.removalTimeout = false := by rw [off]; rfl
  simp only [advanceRemoval, still, running]
  simp

/-- The placement timer reaches its timeout (R50). -/
theorem advancePlacement_reached {p : Plan} {n : Int} (e : Expiry) (going : timersPaused e.s = false)
    (runs : e.s.exc.placement = some n) (reached : p.placementTimeout * 1000000 ≤ n + e.s.ldc.sampleInterval) :
    advancePlacement p e = { e with s := placementExpires e.s, placementExpired := true } := by
  simp [advancePlacement, advanceTimer, timerReached, going, runs, reached, placementExpires]

/-- The removal timer reaches its timeout (R56). -/
theorem advanceRemoval_reached {p : Plan} {n : Int} (e : Expiry) (going : timersPaused e.s = false)
    (runs : e.s.exc.removal = some n) (reached : p.removalTimeout * 1000000 ≤ n + e.s.ldc.sampleInterval) :
    advanceRemoval p e = { e with s := removalExpires p e.s, removalExpired := true } := by
  simp [advanceRemoval, advanceTimer, timerReached, going, runs, reached, removalExpires]

/-- The placement timeout in PLACING: arms parked, EXT_NOT_PLACED, the handover mark, and stage 1 (R50, R53, R114). -/
theorem placementExpires_eq {d : StageDef} (test : s.tex.test = some t) (placing : t.phase = .placing)
    (stage : stageAt t.plan 1 = some d) :
    placementExpires s =
      { s with
        exc := { s.exc with state := .parked, placement := none },
        tex := { s.tex with
          test := some (enteredFromPlacing d
            { t with flags := { t.flags with extNotPlaced := true }, handoverMark := true }) },
        rlp := { mode := loopModeOf d.mode, rate := some d.rate, target := none, seed := .pending, setPoint := 0 },
        cps := eventMarked s.cps } := by
  have parked : setTestFlags (fun f => { f with extNotPlaced := true })
      { s with exc := { s.exc with state := .parked, placement := none } } = _ := updateTest_eq (t := t) _ test
  rw [placementExpires, parked, markHandover, updateTest_eq _ rfl]
  exact leavePlacing_eq (t := { t with flags := { t.flags with extNotPlaced := true }, handoverMark := true }) rfl placing
    stage

/-- The removal timeout of a test HELD for the removal (R56, R120). -/
theorem removalExpires_held {p : Plan} {r : ReturnState} (test : s.tex.test = some t)
    (held : t.phase = .held .extRemoval r) (mode : p.removalMode = .hold) :
    removalExpires p s =
      raise .sequencer .extLate
        { s with
          exc := { s.exc with removal := none },
          tex := { s.tex with
            test := some (({ t with
              phase := .held .extLate r, flags := { t.flags with extLate := true } } : TestContext).logEvent
                ⟨.hold, sampleNumber t.arrivals, 4⟩) },
          cps := eventMarked s.cps } := by
  have late : setTestFlags (fun f => { f with extLate := true }) { s with exc := { s.exc with removal := none } } = _ :=
    updateTest_eq (t := t) _ test
  simp only [removalExpires, mode, late, State.phase, Option.map_some, held, lateHold, setPhase]
  rw [updateTest_eq _ rfl, addEvent_eq _ _ rfl]
  rfl

/-- The expiry at which the placement timer of a test in PLACING ends (R50). -/
theorem placementTimeout_exec {d : StageDef} {e : Int} (test : s.tex.test = some t) (free : s.ldc.conversion = none)
    (fault : s.ldc.loadFault = false) (placing : t.phase = .placing) (runs : s.exc.placement = some e)
    (off : s.exc.removal = none) (reached : t.plan.placementTimeout * 1000000 ≤ e + s.ldc.sampleInterval)
    (stage : stageAt t.plan 1 = some d) :
    exec .placementTimeout s = .next (placementExpires (startConversion s)) := by
  have going : timersPaused (startConversion s) = false := by
    simp [timersPaused, phase_of_test (s := startConversion s) test, placing]
  have expired : workExpiry s = ⟨placementExpires (startConversion s), false, true, false⟩ := by
    rw [workExpiry_timers test (by simp [placing]) free fault, advancePlacement_reached _ going runs reached]
    refine advanceRemoval_off _ ?_
    rw [placementExpires_eq (s := startConversion s) test placing stage]
    exact off
  have kept : activateAfterEnd s (placementExpires (startConversion s)) = placementExpires (startConversion s) :=
    activateAfterEnd_of_active (by rw [placementExpires_eq (s := startConversion s) test placing stage]; rfl)
  simp only [exec, execPlacementTimeout, expire, expired, kept, if_true]

/-- The expiry at which the removal timer of a test HELD for the removal ends (R56). -/
theorem removalTimeout_exec {r : ReturnState} {e : Int} (test : s.tex.test = some t) (free : s.ldc.conversion = none)
    (fault : s.ldc.loadFault = false) (held : t.phase = .held .extRemoval r) (off : s.exc.placement = none)
    (runs : s.exc.removal = some e) (mode : t.plan.removalMode = .hold)
    (reached : t.plan.removalTimeout * 1000000 ≤ e + s.ldc.sampleInterval) :
    exec .removalTimeout s = .next (removalExpires t.plan (startConversion s)) := by
  have going : timersPaused (startConversion s) = false := by
    simp [timersPaused, phase_of_test (s := startConversion s) test, held]
  have expired : workExpiry s = ⟨removalExpires t.plan (startConversion s), false, false, true⟩ := by
    rw [workExpiry_timers test (by simp [held]) free fault, advancePlacement_off _ off]
    exact advanceRemoval_reached _ going runs reached
  have kept : activateAfterEnd s (removalExpires t.plan (startConversion s)) = removalExpires t.plan (startConversion s) :=
    activateAfterEnd_of_active (by rw [removalExpires_held (s := startConversion s) test held mode]; rfl)
  simp only [exec, execRemovalTimeout, expire, expired, kept, if_true]

/-! ### The port interface while notices are raised (R204, R207) -/

/-- From one state to another no fault enters or leaves the fault word, and what was RAISED still is. -/
structure PortsGrow (s₀ s : State) : Prop where
  faults : s.pif.faults = s₀.pif.faults
  raised : ∀ p n, s₀.flag p n = .raised → s.flag p n = .raised

section
variable {s₀ : State}

theorem PortsGrow.rfl : PortsGrow s s :=
  ⟨Eq.refl _, fun _ _ h => h⟩

theorem flag_of_pif {u : State} (h : u.pif = s.pif) (p : Port) (n : Notice) : u.flag p n = s.flag p n := by
  cases p <;> simp [State.flag, State.portOf, h]

theorem PortsGrow.of_eq {u : State} (hs : PortsGrow s₀ s) (h : u.pif = s.pif) : PortsGrow s₀ u :=
  ⟨h ▸ hs.faults, fun p n was => flag_of_pif h p n ▸ hs.raised p n was⟩

/-- A flag after a raise (R204). -/
theorem flag_raise (p q : Port) (n k : Notice) (s : State) :
    (raise p n s).flag q k =
      if q = p ∧ k = n ∧ n ∈ (s.portOf p).flags.map (fun e => e.1) then .raised else s.flag q k := by
  by_cases same : q = p
  · rw [State.flag, raise, portOf_setPort, if_pos same, flagIn_setFlagIn]
    exact if_congr (by simp [same]) rfl (by rw [State.flag, same])
  · simp [raise, State.flag, same]

theorem raise_ports (p : Port) (n : Notice) (hs : PortsGrow s₀ s) : PortsGrow s₀ (raise p n s) := by
  refine ⟨(raise_faults p n s).trans hs.faults, fun q k was => ?_⟩
  rw [flag_raise]
  split
  · rfl
  · exact hs.raised q k was

theorem raiseAll_ports (n : Notice) (hs : PortsGrow s₀ s) : PortsGrow s₀ (raiseAll n s) := by
  unfold raiseAll
  exact raise_ports _ _ (raise_ports _ _ (raise_ports _ _ hs))

/-- A notice the port has is RAISED by a raise (R203, R204). -/
theorem flag_raise_self {p : Port} {n : Notice} (has : n ∈ (s.portOf p).flags.map fun e => e.1) :
    (raise p n s).flag p n = .raised := by
  rw [flag_raise, if_pos ⟨rfl, rfl, has⟩]

theorem enterFault_raised (k : FaultKind) (p : Port) (n : Notice) (h : s.flag p n = .raised) :
    (enterFault k s).flag p n = .raised := by
  have was : ({ s with pif := { s.pif with faults := s.pif.faults.enter k } } : State).flag p n = .raised := by
    cases p <;> exact h
  exact (raiseAll_ports .fault .rfl).raised p n was

theorem updateCapture_ports (f : CaptureContext → CaptureContext) (hs : PortsGrow s₀ s) : PortsGrow s₀ (updateCapture f s) :=
  hs.of_eq rfl

theorem setLevel_ports (hs : PortsGrow s₀ s) : PortsGrow s₀ (setLevel s) := by
  unfold setLevel
  split
  · exact hs
  · simp only []
    split
    · exact raise_ports _ _ (hs.of_eq (by simp))
    · exact hs.of_eq (by simp)

theorem handOver_ports (p : CapturePage) (hs : PortsGrow s₀ s) : PortsGrow s₀ (handOver p s) :=
  raise_ports _ _ (hs.of_eq rfl)

theorem writeEntry_ports (e : CaptureEntry) (p : CapturePage) (hs : PortsGrow s₀ s) : PortsGrow s₀ (writeEntry e p s) := by
  unfold writeEntry
  simp only []
  split
  · exact hs.of_eq (by simp)
  · exact handOver_ports _ (hs.of_eq (by simp))

theorem keepSample_ports (e : CaptureEntry) (hs : PortsGrow s₀ s) : PortsGrow s₀ (keepSample e s) := by
  unfold keepSample
  split
  · exact hs
  next c _ =>
    split
    · exact writeEntry_ports _ _ hs
    split
    · have opened : PortsGrow s₀ (openPage c e.number s) := setLevel_ports (hs.of_eq rfl)
      simp only []
      split
      · exact opened
      · exact writeEntry_ports _ _ opened
    · exact hs.of_eq (by simp)

theorem captureTakes_ports {a : Arrival} (ha : PortsGrow s₀ a.s) : PortsGrow s₀ (captureTakes a).s := by
  unfold captureTakes
  split
  · exact ha
  simp only [Arrival.mapState, captureSample]
  split
  · exact ha
  · split
    · exact updateCapture_ports _ (keepSample_ports _ (updateCapture_ports _ ha))
    · exact ha.of_eq (by simp)

theorem extClosure_ports (hs : PortsGrow s₀ s) : PortsGrow s₀ (extClosure s) := by
  unfold extClosure
  simp only []
  split
  · exact raise_ports _ _ (hs.of_eq (by simp))
  · exact raise_ports _ _ (hs.of_eq (by simp))
  · exact raise_ports _ _ (hs.of_eq (by simp))
  · exact hs.of_eq (by simp)
  · exact hs.of_eq (by simp)
  · exact hs.of_eq (by simp)

theorem closeLastPage_ports (c : CaptureContext) (hs : PortsGrow s₀ s) : PortsGrow s₀ (closeLastPage c s) := by
  unfold closeLastPage
  split
  · exact handOver_ports _ (hs.of_eq (by simp))
  split
  · exact handOver_ports _ hs
  · exact hs.of_eq (by simp)

theorem fileTestEnd_ports (n : BitVec 16) (c : Closure) (hs : PortsGrow s₀ s) : PortsGrow s₀ (fileTestEnd n c s) := by
  unfold fileTestEnd
  split
  · exact hs
  · exact PortsGrow.of_eq (s := fileCompletion _ _ s) (raise_ports _ _ (hs.of_eq rfl)) rfl

/-- A closure raises notices, and enters nothing in the fault word (R128). -/
theorem closeTest_ports (c : Closure) (hs : PortsGrow s₀ s) : PortsGrow s₀ (closeTest c s) := by
  unfold closeTest
  split
  · exact hs
  next t _ =>
    have filed {u : State} (k) (hu : PortsGrow s₀ u) :
        PortsGrow s₀ (closureNotices (fileTestEnd t.serial c (endCapture (recordTest t c k u)))) :=
      raise_ports _ _ (raise_ports _ _ (raise_ports _ _ (raise_ports _ _ (fileTestEnd_ports _ _ (hu.of_eq (by simp))))))
    have channel := extClosure_ports hs
    simp only []
    cases capture : (extClosure s).cps.capture with
    | none => exact (filed (captureCounters none) channel).of_eq (by split <;> simp)
    | some x => exact (filed (captureCounters (some x)) (closeLastPage_ports x channel)).of_eq (by split <;> simp)

end

/-! ### The test in progress while it goes on (R108, R129) -/

/-- `t'` is `t` gone on: same state, plan, arrivals, handover mark and EXT_SLIP flag, its event list grown by at most `n`
entries. -/
structure TestContext.GoesOn (n : Nat) (t t' : TestContext) : Prop where
  phase : t'.phase = t.phase
  plan : t'.plan = t.plan
  arrivals : t'.arrivals = t.arrivals
  mark : t'.handoverMark = t.handoverMark
  slip : t'.flags.extSlip = t.flags.extSlip
  events : t.events <+: t'.events
  count : t'.events.length ≤ t.events.length + n

theorem TestContext.GoesOn.refl (t : TestContext) : t.GoesOn 0 t :=
  ⟨rfl, rfl, rfl, rfl, rfl, List.prefix_rfl, Nat.le_refl _⟩

/-- Stage and results in progress are no part of what goes on. -/
theorem goesOn_with (t : TestContext) (x : Option StageRun) (v : Evaluation) : t.GoesOn 0 { t with stage := x, rev := v } :=
  ⟨rfl, rfl, rfl, rfl, rfl, List.prefix_rfl, Nat.le_refl _⟩

theorem TestContext.GoesOn.trans {m n : Nat} {t u v : TestContext} (h : t.GoesOn m u) (k : u.GoesOn n v) :
    t.GoesOn (m + n) v where
  phase := k.phase.trans h.phase
  plan := k.plan.trans h.plan
  arrivals := k.arrivals.trans h.arrivals
  mark := k.mark.trans h.mark
  slip := k.slip.trans h.slip
  events := h.events.trans k.events
  count := by have := h.count; have := k.count; omega

theorem logEvent_goesOn (t : TestContext) (e : Event) : t.GoesOn 1 (t.logEvent e) := by
  unfold TestContext.logEvent
  split
  · exact ⟨rfl, rfl, rfl, rfl, rfl, List.prefix_append .., by simp⟩
  · exact ⟨rfl, rfl, rfl, rfl, rfl, List.prefix_rfl, by simp⟩

/-- The state has the test `t` gone on by at most `n` entries. -/
def InTest (n : Nat) (t : TestContext) (s : State) : Prop :=
  ∃ t', s.tex.test = some t' ∧ t.GoesOn n t'

section
variable {n : Nat}

theorem inTest_of_test (h : s.tex.test = some t) : InTest 0 t s :=
  ⟨t, h, .refl t⟩

theorem InTest.of_eq {u : State} (hs : InTest n t s) (h : u.tex.test = s.tex.test) : InTest n t u := by
  obtain ⟨t', test, grown⟩ := hs
  exact ⟨t', h.trans test, grown⟩

theorem InTest.mono {m : Nat} (hs : InTest n t s) (h : n ≤ m) : InTest m t s := by
  obtain ⟨t', test, grown⟩ := hs
  exact ⟨t', test, { grown with count := grown.count.trans (Nat.add_le_add_left h _) }⟩

theorem updateTest_inTest {m : Nat} {f : TestContext → TestContext} (hf : ∀ t : TestContext, t.GoesOn m (f t))
    (hs : InTest n t s) : InTest (n + m) t (updateTest f s) := by
  obtain ⟨t', test, grown⟩ := hs
  exact ⟨f t', updateTest_test f test, grown.trans (hf t')⟩

theorem addEvent_inTest (k : EventKind) (v : Int) (hs : InTest n t s) : InTest (n + 1) t (addEvent k v s) := by
  obtain ⟨t', test, grown⟩ := hs
  exact ⟨_, addEvent_test k v test, grown.trans (logEvent_goesOn t' _)⟩

theorem setTestFlags_inTest {f : TestFlags → TestFlags} (hf : ∀ g, (f g).extSlip = g.extSlip) (hs : InTest n t s) :
    InTest n t (setTestFlags f s) :=
  updateTest_inTest (m := 0) (fun t => ⟨rfl, rfl, rfl, rfl, hf t.flags, List.prefix_rfl, Nat.le_refl _⟩) hs

theorem markStage_inTest (f : StageRun → StageRun) (hs : InTest n t s) : InTest n t (markStage f s) :=
  updateTest_inTest (fun t => goesOn_with t _ _) hs

/-- Step-up makes its entry (R35). -/
theorem stepUp_inTest {a : Arrival} (ha : InTest n t a.s) : InTest (n + 1) t (stepUp a).s := by
  unfold stepUp
  split
  · exact ha.mono (Nat.le_succ n)
  · split
    · exact setTestFlags_inTest (fun _ => rfl) (addEvent_inTest _ _ (ha.of_eq (by simp)))
    · exact ha.mono (Nat.le_succ n)

theorem addSampleEvents_inTest (es : List SampleEvent) (hs : InTest n t s) :
    InTest (n + es.length) t (addSampleEvents es s) := by
  induction es generalizing n s with
  | nil => exact hs
  | cons e es ih =>
    have rest := ih (addEvent_inTest e.1 e.2 hs)
    rw [Nat.add_right_comm] at rest
    exact rest

/-- A sample has at most two entries of the evaluator: of the search, and of the tracker (R159, R161 to R163). -/
theorem evaluateSample_entries (p : Plan) (x : SamplePoint) (v : Evaluation) : (evaluateSample p x v).2.length ≤ 2 := by
  have tracked (found : Bool) (y : YieldTracker) : (trackSample p found x y).2.length ≤ 1 := by
    unfold trackSample
    (repeat' split) <;> simp
  simp only [evaluateSample, List.length_append]
  refine Nat.add_le_add (b := 1) ?_ (tracked ..)
  split <;> simp

theorem evaluateArrival_inTest {a : Arrival} (ha : InTest n t a.s) : InTest (n + 2) t (evaluateArrival a).s := by
  unfold evaluateArrival
  split
  · exact ha.mono (Nat.le_add_right n 2)
  next t₁ _ =>
    have few : (if evaluated a then evaluateSample t₁.plan (samplePoint a.set) (rememberSample a.fracture a.set t₁.rev)
        else (rememberSample a.fracture a.set t₁.rev, [])).2.length ≤ 2 := by
      split
      · exact evaluateSample_entries ..
      · simp
    refine (addSampleEvents_inTest _ ?_).mono (Nat.add_le_add_left few n)
    exact updateTest_inTest (fun t => goesOn_with t _ _) ha

theorem enterStage_inTest (i : Nat) (d : StageDef) {a : Arrival} (ha : InTest n t a.s) :
    InTest (n + 1) t (enterStage i d a).s := by
  exact InTest.of_eq (s := beginStage i d a.s) (addEvent_inTest _ _ (updateTest_inTest (fun t => goesOn_with t _ _) ha)) rfl

/-- The judgement of a stage makes at most two entries, and leaves the test RUNNING (R116 to R118). -/
theorem judgeStage_inTest (t₀ : TestContext) {a : Arrival} (ha : InTest n t a.s) : InTest (n + 2) t (judgeStage t₀ a).s := by
  have stays : InTest (n + 2) t a.s := ha.mono (Nat.le_add_right n 2)
  unfold judgeStage
  split
  · exact stays
  split
  · exact stays
  split
  · unfold takeEnd
    split
    · exact (enterStage_inTest _ _ ha).mono (Nat.le_succ _)
    · exact (addEvent_inTest _ _ (markStage_inTest _ ha)).mono (Nat.le_succ _)
  split
  · unfold takeTimeout
    simp only []
    split
    · exact stays
    · split
      · exact enterStage_inTest _ _ (addEvent_inTest _ _ ha)
      · exact (markStage_inTest _ (addEvent_inTest _ _ ha)).mono (Nat.le_succ _)
  · exact stays

theorem updateCapture_inTest (f : CaptureContext → CaptureContext) (hs : InTest n t s) : InTest n t (updateCapture f s) :=
  hs.of_eq rfl

theorem setLevel_inTest (hs : InTest n t s) : InTest (n + 1) t (setLevel s) := by
  have stays : InTest (n + 1) t s := hs.mono (Nat.le_succ n)
  unfold setLevel
  split
  · exact stays
  · simp only []
    split
    · exact InTest.of_eq (addEvent_inTest _ _ (updateCapture_inTest _ hs)) (raise_test ..)
    · exact stays.of_eq rfl

theorem keepSample_inTest (e : CaptureEntry) (hs : InTest n t s) : InTest (n + 1) t (keepSample e s) := by
  have stays : InTest (n + 1) t s := hs.mono (Nat.le_succ n)
  unfold keepSample
  split
  · exact stays
  next c _ =>
    split
    · exact stays.of_eq (by simp)
    split
    · have opened : InTest (n + 1) t (openPage c e.number s) := setLevel_inTest (hs.of_eq rfl)
      simp only []
      split
      · exact opened
      · exact opened.of_eq (by simp)
    · have lost : InTest n t (setTestFlags (fun f => { f with captureGap := true })
          (updateCapture (fun c => { c with lost := c.lost + 1, lossRun := true }) s)) :=
        setTestFlags_inTest (fun _ => rfl) (hs.of_eq rfl)
      unfold loseSample
      simp only []
      split
      · exact lost.mono (Nat.le_succ n)
      · exact addEvent_inTest _ _ lost

theorem captureTakes_inTest {a : Arrival} (ha : InTest n t a.s) : InTest (n + 1) t (captureTakes a).s := by
  have stays : InTest (n + 1) t a.s := ha.mono (Nat.le_succ n)
  unfold captureTakes
  split
  · exact stays
  simp only [Arrival.mapState, captureSample]
  split
  · exact stays
  · split
    · exact updateCapture_inTest _ (keepSample_inTest _ (updateCapture_inTest _ ha))
    · exact stays.of_eq rfl

end

/-! ### A good sample once its handover is formed (R54, R116, R128) -/

/-- A closure finds the handover's basis and keeps it (R62). -/
theorem closeTest_basis (c : Closure) (asked : s.exc.state = .removeRequested ∨ s.exc.state = .fault) :
    (closeTest c s).exc.basis = s.exc.basis := by
  cases h : s.tex.test with
  | none => rw [closeTest_of_idle c h]
  | some t =>
    rw [closeTest_exc c h]
    obtain state | state := asked <;> simp [extClosure, state, stopTimers]

/-- A RUNNING test is held (R120, R133). -/
theorem holdTest_running (c : HoldCause) (h : s.tex.test = some t) (running : t.phase = .running) :
    holdTest c s =
      { s with
        tex := { s.tex with
          test := some (({ t with phase := .held c .running } : TestContext).logEvent
            ⟨.hold, sampleNumber t.arrivals, causeNumber c⟩) },
        rlp := { s.rlp with setPoint := 0 }, cps := eventMarked s.cps } := by
  have held : setPhase (.held c .running) s = _ := updateTest_eq _ h
  simp only [holdTest, phase_of_test h, running, Option.bind_some, holdableAs, held]
  rw [addEvent_eq _ _ rfl]
  rfl

/-- A valid sample of a RUNNING or HELD test that neither fractures nor overloads, the gate closed. -/
structure CalmArrival (a : Arrival) (t : TestContext) : Prop where
  test : a.s.tex.test = some t
  phase : t.phase = .running ∨ ∃ c r, t.phase = .held c r
  active : testIsActive a.s = true
  gate : a.s.inputs.gateOpen = false
  valid : a.set.invalid = false
  whole : a.fracture = false
  load : a.overloaded = false

section
variable {a : Arrival} {n : Nat} {t₀ : TestContext}

/-- The executive judges such a sample, and holds the test for its handover (R54, R116). -/
theorem CalmArrival.executiveTakes (h : CalmArrival a t) :
    executiveTakes a = handoverHold t.plan (judgePhase t a) := by
  simp [Machine.executiveTakes, h.test, detectFracture_whole h.whole, h.load, h.whole, h.gate]

/-- The judgement leaves the extensometer channel, the ports and the test's state (R116 to R118). -/
theorem CalmArrival.judged (h : CalmArrival a t) (ha : InTest n t₀ a.s) :
    (judgePhase t a).s.exc = a.s.exc ∧ (judgePhase t a).s.pif = a.s.pif ∧ InTest (n + 2) t₀ (judgePhase t a).s := by
  obtain running | ⟨c, r, held⟩ := h.phase
  · have judged : judgePhase t a = judgeStage t a := by simp [judgePhase, running, h.valid]
    rw [judged]
    exact ⟨by simp, by simp, judgeStage_inTest t ha⟩
  · have still : judgePhase t a = a := by simp [judgePhase, held]
    rw [still]
    exact ⟨rfl, rfl, ha.mono (Nat.le_add_right n 2)⟩

theorem CalmArrival.executiveTakes_kept (h : CalmArrival a t) :
    (Machine.executiveTakes a).s.exc = a.s.exc ∧ (Machine.executiveTakes a).s.pif = a.s.pif := by
  obtain ⟨exc, pif, -⟩ := h.judged (inTest_of_test h.test)
  rw [h.executiveTakes]
  simp [exc, pif]

/-- The handover at the sample holds the test (R54). -/
def HoldsTest (a : Arrival) (t : TestContext) : Prop :=
  a.handover = true ∧ t.plan.removalMode = .hold ∧ t.phase = .running

theorem CalmArrival.stays (h : CalmArrival a t) (stays : ¬ HoldsTest a t) (ha : InTest n t₀ a.s) :
    InTest (n + 2) t₀ (Machine.executiveTakes a).s := by
  obtain ⟨-, -, test⟩ := h.judged (inTest_of_test h.test)
  obtain ⟨-, -, judged⟩ := h.judged ha
  obtain ⟨t', test', grown⟩ := test
  rw [h.executiveTakes, handoverHold]
  split
  next held =>
    have handover : a.handover = true := by simp_all
    have unheld : removalHold t.plan (judgePhase t a).s = (judgePhase t a).s := by
      unfold removalHold
      split
      next mode running =>
        rw [phase_of_test test', Option.some.injEq, grown.phase] at running
        exact absurd ⟨handover, mode, running⟩ stays
      next => rfl
    simpa [Arrival.mapState, unheld] using judged
  next => exact judged

/-- A HOLD-mode handover holds a RUNNING test, unless the sample closes it (R54, R120; log entry 31). -/
theorem CalmArrival.holds (h : CalmArrival a t) (holds : HoldsTest a t) (going : (Machine.executiveTakes a).closing = none) :
    (Machine.executiveTakes a).s.rlp.setPoint = 0 ∧
    ∃ t', t.GoesOn 2 t' ∧ (Machine.executiveTakes a).s.tex.test =
      some (({ t' with phase := .held .extRemoval .running } : TestContext).logEvent ⟨.hold, sampleNumber t.arrivals, 3⟩) := by
  obtain ⟨handover, mode, running⟩ := holds
  obtain ⟨-, -, t', test', grown⟩ := h.judged (inTest_of_test h.test)
  rw [h.executiveTakes] at going ⊢
  have open' : (judgePhase t a).closing = none := by simpa using going
  have held : handoverHold t.plan (judgePhase t a) = (judgePhase t a).mapState (holdTest .extRemoval) := by
    simp [handoverHold, handover, open', Arrival.mapState, removalHold, mode, phase_of_test test', grown.phase, running]
  rw [held, Arrival.mapState, holdTest_running _ test' (grown.phase.trans running)]
  exact ⟨rfl, t', by simpa using grown, by rw [grown.arrivals]; rfl⟩

/-- The works of a test's arrival after the executive's (R24, R70, R134, R176). -/
def loopToCapture (a : Arrival) : Arrival :=
  captureTakes (publish (wordTakes (loopTakes a)))

theorem loopToCapture_kept (active : testIsActive a.s = true) :
    (loopToCapture a).s.exc = a.s.exc ∧ PortsGrow a.s (loopToCapture a).s ∧
      (loopToCapture a).s.rlp = (loopTakes a).s.rlp ∧ ((loopToCapture a).closing = none → a.closing = none) := by
  obtain ⟨w, word, -, -, closing, -⟩ := wordTakes_test (loopTakes a) (by simpa [testIsActive] using active)
  refine ⟨by simp [loopToCapture, word], captureTakes_ports (PortsGrow.rfl.of_eq (by simp [word])),
    by simp [loopToCapture, word], fun going => ?_⟩
  have still : (wordTakes (loopTakes a)).closing = none := by simpa [loopToCapture] using going
  rw [closing] at still
  split at still
  · cases still
  · simpa using still

theorem loopToCapture_inTest (active : testIsActive a.s = true) (ha : InTest n t a.s) :
    InTest (n + 1) t (loopToCapture a).s := by
  obtain ⟨w, word, -⟩ := wordTakes_test (loopTakes a) (by simpa [testIsActive] using active)
  exact captureTakes_inTest (ha.of_eq (by simp [word]))

/-- The loop leaves a HELD test's set-point (R134). -/
theorem loopTakes_held (h : a.s.tex.test = some t) {c : HoldCause} {r : ReturnState} (held : t.phase = .held c r) :
    loopTakes a = a := by
  simp [loopTakes, State.plan, h, loopComputes, phase_of_test h, held]

/-- The arrival as a test's sample leaves it, its handover formed. -/
def afterHandover (a : Arrival) : Arrival :=
  loopToCapture (Machine.executiveTakes (evaluateArrival a))

/-- A test that goes on after the arrival is the captured one, counted on (R24). -/
theorem closeOrCount_goesOn {t' : TestContext} (left : (closeOrCount a).s.tex.test = some t') :
    a.closing = none ∧ (closeOrCount a).s.exc = a.s.exc ∧ (closeOrCount a).s.rlp = a.s.rlp ∧
      ∃ t₁, a.s.tex.test = some t₁ ∧ t' = { t₁ with arrivals := t₁.arrivals + 1 } := by
  cases closing : a.closing with
  | none =>
    rw [closeOrCount_counts a closing, updateTest_tex_test] at left
    obtain ⟨t₁, test, counted⟩ := Option.map_eq_some_iff.1 left
    rw [closeOrCount_counts a closing]
    exact ⟨rfl, rfl, rfl, t₁, test, counted.symm⟩
  | some c =>
    have closed : (closeOrCount a).s = closeTest c a.s := by simp [closeOrCount, closing]
    rw [closed, closeTest_ended] at left
    cases left

theorem closeOrCount_ports {s₀ : State} (ha : PortsGrow s₀ a.s) : PortsGrow s₀ (closeOrCount a).s := by
  unfold closeOrCount
  split
  · exact closeTest_ports _ ha
  · exact ha.of_eq rfl

theorem closeOrCount_basis (asked : a.s.exc.state = .removeRequested ∨ a.s.exc.state = .fault) :
    (closeOrCount a).s.exc.basis = a.s.exc.basis := by
  unfold closeOrCount
  split
  · exact closeTest_basis _ asked
  · rfl

/-- The evaluator leaves a calm arrival calm (R147). -/
theorem CalmArrival.evaluated (h : CalmArrival a t) : ∃ t', t.GoesOn 2 t' ∧ CalmArrival (evaluateArrival a) t' := by
  obtain ⟨t', test', grown⟩ := evaluateArrival_inTest (inTest_of_test h.test)
  have active : Machine.testIsActive (evaluateArrival a).s = true := by simpa [Machine.testIsActive] using h.active
  exact ⟨t', by simpa using grown, test', grown.phase ▸ h.phase, active, by simpa using h.gate, by simpa using h.valid,
    by simpa using h.whole, by simpa using h.load⟩

theorem CalmArrival.afterHandover_kept (h : CalmArrival a t) :
    (afterHandover a).s.exc = a.s.exc ∧ PortsGrow a.s (afterHandover a).s := by
  obtain ⟨t', -, calm⟩ := h.evaluated
  obtain ⟨exc, pif⟩ := calm.executiveTakes_kept
  obtain ⟨kept, ports, -, -⟩ := loopToCapture_kept
    (a := Machine.executiveTakes (evaluateArrival a)) (by simpa [Machine.testIsActive] using h.active)
  have same : PortsGrow a.s (Machine.executiveTakes (evaluateArrival a)).s := .of_eq .rfl (by simp [pif])
  exact ⟨by simp [afterHandover, kept, exc],
    ports.faults.trans same.faults, fun p n was => ports.raised p n (same.raised p n was)⟩

/-- An entry is made while there is room (R129). -/
theorem mem_logEvent {e : Event} (room : t.events.length < 24) : e ∈ (t.logEvent e).events := by
  simp [logEvent_room room]

/-- What the handover of a good sample leaves in a test that goes on. -/
structure TestLeft (t t' : TestContext) : Prop where
  mark : t'.handoverMark = t.handoverMark
  slip : t'.flags.extSlip = t.flags.extSlip
  events : t.events <+: t'.events

theorem TestContext.GoesOn.left {t' : TestContext} (h : t.GoesOn n t') (k : Nat) :
    TestLeft t { t' with arrivals := k } :=
  ⟨h.mark, h.slip, h.events⟩

section
variable {t' : TestContext}

theorem CalmArrival.left_exc (h : CalmArrival a t) (left : (closeOrCount (afterHandover a)).s.tex.test = some t') :
    (closeOrCount (afterHandover a)).s.exc = a.s.exc :=
  (closeOrCount_goesOn left).2.1.trans h.afterHandover_kept.1

/-- A test that no handover holds is left in its state (R54). -/
theorem CalmArrival.left_stays (h : CalmArrival a t) (stays : ¬ HoldsTest a t)
    (left : (closeOrCount (afterHandover a)).s.tex.test = some t') : TestLeft t t' ∧ t'.phase = t.phase := by
  obtain ⟨-, -, -, t₄, test₄, rfl⟩ := closeOrCount_goesOn left
  obtain ⟨t₂, grown₂, calm⟩ := h.evaluated
  have judged := calm.stays (by simpa [HoldsTest, grown₂.plan, grown₂.phase] using stays) (inTest_of_test calm.test)
  obtain ⟨t₅, test₅, grown₅⟩ := loopToCapture_inTest (by simpa [Machine.testIsActive] using h.active) judged
  obtain rfl : t₅ = t₄ := Option.some.inj (test₅.symm.trans test₄)
  exact ⟨(grown₂.trans grown₅).left _, (grown₂.trans grown₅).phase⟩

/-- A RUNNING test that a HOLD-mode handover holds is left HELD for the removal, its set-point 0 (R54, R120, R133). -/
theorem CalmArrival.left_holds (h : CalmArrival a t) (holds : HoldsTest a t) (room : t.events.length < 20)
    (left : (closeOrCount (afterHandover a)).s.tex.test = some t') :
    TestLeft t t' ∧ t'.phase = .held .extRemoval .running ∧ (closeOrCount (afterHandover a)).s.rlp.setPoint = 0 ∧
      ⟨.hold, sampleNumber t.arrivals, 3⟩ ∈ t'.events := by
  obtain ⟨going, -, rlpLeft, t₄, test₄, rfl⟩ := closeOrCount_goesOn left
  obtain ⟨t₂, grown₂, calm⟩ := h.evaluated
  have active : Machine.testIsActive (Machine.executiveTakes (evaluateArrival a)).s = true := by
    simpa [Machine.testIsActive] using h.active
  obtain ⟨-, -, rlp, going₃⟩ := loopToCapture_kept active
  obtain ⟨zero, t₃, grown₃, test₃⟩ :=
    calm.holds (by simpa [HoldsTest, grown₂.plan, grown₂.phase] using holds) (going₃ going)
  obtain ⟨t₅, test₅, grown₅⟩ := loopToCapture_inTest active (inTest_of_test test₃)
  obtain rfl : t₅ = t₄ := Option.some.inj (test₅.symm.trans test₄)
  have entered := (logEvent_goesOn { t₃ with phase := .held .extRemoval .running }
    ⟨.hold, sampleNumber t₂.arrivals, 3⟩).trans grown₅
  have before := grown₂.trans grown₃
  have few : t₃.events.length < 24 := by have := before.count; omega
  refine ⟨⟨entered.mark.trans before.mark, entered.slip.trans before.slip, before.events.trans entered.events⟩,
    entered.phase, ?_, grown₅.events.subset ?_⟩
  · rw [rlpLeft, afterHandover, rlp, loopTakes_held test₃ (logEvent_kept ..).1, zero]
  · rw [grown₂.arrivals]
    exact mem_logEvent few

end

end

/-! ### The handovers of a good sample (R51, R52, R53, R60) -/

theorem handoverEntry_fields {b : StrainBasis} (n : Nat) (v : Int) (h : s.tex.test = some t) (basis : s.exc.basis = some b) :
    (handoverEntry n v s).exc = { s.exc with basis := some { b with h := v } } ∧
      (handoverEntry n v s).tex.test = some { t.logEvent ⟨.handover, n, v⟩ with handoverMark := true } ∧
      (handoverEntry n v s).pif = s.pif := by
  rw [handoverEntry_eq n v h basis]
  exact ⟨rfl, rfl, rfl⟩

/-- A handover at a removal criterion asks for the arms' removal, and makes its entry (R52, R53). -/
theorem removalHandover_fields {b : StrainBasis} (n : Nat) (v : Int) (h : s.tex.test = some t)
    (basis : s.exc.basis = some b) :
    (removalHandover n v s).exc =
        { s.exc with state := .removeRequested, removal := some 0, basis := some { b with h := v } } ∧
      (removalHandover n v s).tex.test = some { t.logEvent ⟨.handover, n, v⟩ with handoverMark := true } ∧
      (removalHandover n v s).pif = (raise .cell .extRemoveReq s).pif := by
  obtain ⟨exc, test, pif⟩ := handoverEntry_fields (t := t) (b := b) n v
    (s := raise .cell .extRemoveReq { s with exc := { s.exc with state := .removeRequested, removal := some 0 } })
    (by simpa using h) (by simpa using basis)
  exact ⟨by simp [removalHandover, exc], test, pif⟩

/-- The test's flags with EXT_SLIP set (R60). -/
def slipped (t : TestContext) : TestContext :=
  { t with flags := { t.flags with extSlip := true } }

/-- A slip is a fault, and hands over at the tracker's sample (R60). -/
theorem slipHandover_fields {b : StrainBasis} (m : SlipRecord) (h : s.tex.test = some t) (basis : s.exc.basis = some b) :
    (slipHandover m s).exc =
        { s.exc with state := .fault, removal := some 0, basis := some { b with h := m.ext - m.xh } } ∧
      (slipHandover m s).tex.test =
        some { (slipped t).logEvent ⟨.handover, m.number, m.ext - m.xh⟩ with handoverMark := true } ∧
      (slipHandover m s).pif = (enterFault .extSlip (raise .cell .extRemoveReq s)).pif := by
  obtain ⟨exc, test, pif⟩ := handoverEntry_fields (t := slipped t) (b := b) m.number (m.ext - m.xh)
    (s := setTestFlags (fun f => { f with extSlip := true }) (enterFault .extSlip
      (raise .cell .extRemoveReq { s with exc := { s.exc with state := .fault, removal := some 0 } })))
    (by simp [h, slipped]) (by simpa using basis)
  exact ⟨by simp [slipHandover, exc], test, pif⟩

section
variable {a : Arrival} {b : StrainBasis}

/-- The fracture criterion as the model computes it (R124). -/
theorem fractures_eq_false {x : SampleSet} {force : Int} (test : s.tex.test = some t) (valid : x.invalid = false)
    (measured : x.force = force) (whole : Unbroken s t.plan force) : fractures s x = false := by
  have raises := raisesPeak_iff (x := x) test
  have criterion (fm : Int) (peak : peakForce s x = some fm) :
      fm < t.plan.fractureFloor ∨ fm * t.plan.fractureFraction ≤ force * 100 := by
    refine whole fm ?_
    unfold peakForce at peak
    split at peak
    next up => exact .inl ⟨by rw [← measured]; exact (Option.some.inj peak).symm, measured ▸ (raises.1 up).2⟩
    next down =>
      obtain ⟨k, held, rfl⟩ := Option.map_eq_some_iff.1 peak
      refine .inr ⟨k, held, ?_, rfl⟩
      by_contra above
      exact down (raises.2 ⟨valid, by simp [held]; omega⟩)
  cases peak : peakForce s x with
  | none => simp [fractures, test, peak]
  | some fm =>
    have := criterion fm peak
    simp only [fractures, test, peak, measured, Bool.and_eq_false_iff, decide_eq_false_iff_not]
    omega

theorem runningOrHeld_iff (test : s.tex.test = some t) :
    runningOrHeld s = true ↔ t.phase = .running ∨ ∃ c r, t.phase = .held c r := by
  cases phase : t.phase <;> simp [runningOrHeld, phase_of_test test, phase]

/-- Slip at a valid sample of a RUNNING or HELD test that does not fracture (R60). -/
theorem slipAt_iff {x : SampleSet} {ext : Int} {k : SlipRecord} (test : s.tex.test = some t) (on : runningOrHeld s = true)
    (valid : x.invalid = false) :
    slipAt s false x ext = some k ↔
      s.exc.tracker = some k ∧ ext < k.ext - t.plan.slipThreshold ∧ k.force ≤ x.force := by
  cases tracker : s.exc.tracker with
  | none => simp [slipAt, tracker]
  | some m =>
    have declared : slipAt s false x ext =
        if ext < m.ext - t.plan.slipThreshold ∧ m.force ≤ x.force then some m else none := by
      simp [slipAt, tracker, State.plan, test, on, valid]
    rw [declared]
    split
    next slips =>
      simp only [Option.some.injEq]
      exact ⟨fun same => same ▸ ⟨rfl, slips⟩, And.left⟩
    next holds =>
      simp only [reduceCtorEq, false_iff]
      rintro ⟨same, slips⟩
      obtain rfl := Option.some.inj same
      exact holds slips

theorem removalMet_iff (p : Plan) (peak : Option Peak) (x : SampleSet) :
    removalMet p peak x = true ↔
      (p.removalStrain ≠ 0 ∧ p.removalStrain ≤ x.strain) ∨
        (p.removalDrop ≠ 0 ∧ ∃ k, peak = some k ∧ p.fractureFloor ≤ k.force ∧
          x.force * 1000 < k.force * (1000 - p.removalDrop)) := by
  cases peak <;> simp [removalMet]

end

/-! ### A good sample in ACTIVE (R46, R51, R59, R60) -/

section
variable {m : MountedSpecimen} {b : StrainBasis} {range : LoadRange} {l : Latch} {code : Int} {a : Arrival}

/-- A good sample of a RUNNING or HELD test, the gate closed, is a calm arrival (R31, R32, R36). -/
theorem ArrivalInTest.calm (h : ArrivalInTest s t m b range l) (phase : t.phase = .running ∨ ∃ c r, t.phase = .held c r)
    (gate : s.inputs.gateOpen = false) (good : GoodSample s range code) :
    (stepUp (overloadCheck (beginArrival code range l s))).s.pif = s.pif ∧
    ∃ t₀, t.GoesOn 1 t₀ ∧ CalmArrival (stepUp (overloadCheck (beginArrival code range l s))) t₀ := by
  obtain ⟨settled, span, load⟩ := good
  have light : sampleOverloaded s.xhc.config.fcap (Machine.loadSample code range l s) = false := by
    rw [← Bool.not_eq_true, sampleOverloaded_iff]
    omega
  have valid : (Machine.loadSample code range l s).invalid = false := by
    rw [← Bool.not_eq_true, loadSample_invalid]
    omega
  have checked : (overloadCheck (beginArrival code range l s)).overloaded = false ∧
      (overloadCheck (beginArrival code range l s)).s.pif = s.pif := by
    simp [overloadCheck, light, loadTaken]
  have test : InTest 0 t (overloadCheck (beginArrival code range l s)).s := inTest_of_test (by simpa using h.test)
  obtain ⟨t₀, test₀, grown⟩ := stepUp_inTest test
  obtain ⟨active, -⟩ := h.stepped_kept code
  exact ⟨by simp [checked], t₀, grown, test₀, grown.phase ▸ phase, active, by simpa using gate, by simpa using valid,
    by simp [beginArrival], by simp [checked]⟩

/-- In ACTIVE a good sample takes the extensometer's strain, or at a slip the crosshead's from the tracker's sample on, and the
channel remembers it (R45, R46, R59, R60). -/
theorem CalmArrival.formed {ext xh : Int} (h : CalmArrival a t) (basis : a.s.exc.basis = some b)
    (active : a.s.exc.state = .active) (whole : fractures a.s a.set = false)
    (atExt : (extStrain b a.latch.extCount).getD 0 = ext) (atXh : xhStrain b a.latch.position = xh) :
    CalmArrival (updatePeak (formStrain a)) t ∧
    (updatePeak (formStrain a)).slip = slipAt a.s false a.set ext ∧
    (formStrain a).set = withStrain (combinedStrain b true (slipAt a.s false a.set ext) ext xh) a.set ∧
    (updatePeak (formStrain a)).s.exc = { a.s.exc with
      tracker := trackSlip a.s a.set ext xh, lastActive := some { ext := ext, xh := xh, number := a.set.number } } := by
  have formed : formStrain a = { a with
      fracture := false, slip := slipAt a.s false a.set ext,
      set := withStrain (combinedStrain b true (slipAt a.s false a.set ext) ext xh) a.set,
      s := rememberActive a.set ext xh a.s } := by
    simp only [formStrain, basis, active, whole, atExt, atXh, if_true]
  refine ⟨⟨by simpa using h.test, h.phase, by simpa [testIsActive] using h.active, by simpa using h.gate, ?_, ?_,
    by simpa using h.load⟩, ?_, ?_, ?_⟩
  · simpa [formed, withStrain] using h.valid
  · simp [formed]
  · simp [formed]
  · simp [formed]
  · simp [formed, rememberActive, h.valid]

/-- A slip hands over (R60). -/
theorem formHandover_slips {k : SlipRecord} (slip : a.slip = some k) :
    formHandover a = { a with handover := true, s := slipHandover k a.s } := by
  simp [formHandover, slip]

/-- Without a slip a calm arrival in ACTIVE hands over where a removal criterion is met (R51, R52). -/
theorem CalmArrival.formHandover (h : CalmArrival a t) (active : a.s.exc.state = .active) (slip : a.slip = none) :
    formHandover a =
      if removalMet t.plan a.s.ldc.peak a.set then
        { a with handover := true, s := removalHandover (a.set.number.getD 0) (lastActiveOffset a.s) a.s }
      else a := by
  have on := (runningOrHeld_iff h.test).2 h.phase
  simp [Machine.formHandover, slip, State.plan, h.test, removalExamined, active, on, h.valid, h.whole]

/-- A handover leaves a calm arrival calm. -/
theorem CalmArrival.handed {t₁ : TestContext} (h : CalmArrival a t) (test : (Machine.formHandover a).s.tex.test = some t₁)
    (phase : t₁.phase = t.phase) : CalmArrival (Machine.formHandover a) t₁ :=
  ⟨test, phase ▸ h.phase, by simpa [testIsActive] using h.active, by simpa using h.gate, by simpa using h.valid,
    by simpa using h.whole, by simpa using h.load⟩

/-- A handover was made at a good sample of the test `t`: the arms asked off the specimen, the test `t₁` marked, its entry
made (R52, R53, R60). -/
structure HandedOver (d : Arrival) (t t₁ : TestContext) (state : ExtState) (basis : StrainBasis) (e : Event) : Prop where
  calm : CalmArrival d t₁
  handover : d.handover = true
  on : state = .removeRequested ∨ state = .fault
  state : d.s.exc.state = state
  removal : d.s.exc.removal = some 0
  basis : d.s.exc.basis = some basis
  asked : d.s.flag .cell .extRemoveReq = .raised
  phase : t₁.phase = t.phase
  plan : t₁.plan = t.plan
  arrivals : t₁.arrivals = t.arrivals
  mark : t₁.handoverMark = true
  entry : e ∈ t₁.events
  room : t₁.events.length < 20

/-- What a handover leaves of channel and ports, also where the sample closes the test (R52, R60, R62). -/
theorem HandedOver.left_ports {d : Arrival} {t₁ : TestContext} {state : ExtState} {e : Event}
    (h : HandedOver d t t₁ state b e) :
    (closeOrCount (afterHandover d)).s.exc.basis = some b ∧
      (closeOrCount (afterHandover d)).s.flag .cell .extRemoveReq = .raised ∧
      (closeOrCount (afterHandover d)).s.pif.faults = d.s.pif.faults := by
  obtain ⟨exc, ports⟩ := h.calm.afterHandover_kept
  have left := closeOrCount_ports ports
  exact ⟨by rw [closeOrCount_basis (by rw [exc, h.state]; exact h.on), exc, h.basis], left.raised _ _ h.asked, left.faults⟩

/-- What a handover leaves of a test that goes on (R53, R54, R120). -/
theorem HandedOver.left_test {d : Arrival} {t₁ t' : TestContext} {state : ExtState} {e : Event}
    (h : HandedOver d t t₁ state b e) (left : (closeOrCount (afterHandover d)).s.tex.test = some t') :
    ((closeOrCount (afterHandover d)).s.exc.state = state ∧ t'.flags.extSlip = t₁.flags.extSlip ∧ e ∈ t'.events) ∧
    (closeOrCount (afterHandover d)).s.exc.removal = some 0 ∧ t'.handoverMark = true ∧
    (t.plan.removalMode = .hold → t.phase = .running →
      t'.phase = .held .extRemoval .running ∧ (closeOrCount (afterHandover d)).s.rlp.setPoint = 0 ∧
      ⟨.hold, sampleNumber t.arrivals, 3⟩ ∈ t'.events) ∧
    (t.phase ≠ .running → t'.phase = t.phase) ∧
    (t.plan.removalMode = .goOn → t.phase = .running → t'.phase = .running) := by
  have exc := h.calm.left_exc left
  have same : HoldsTest d t₁ ↔ t.plan.removalMode = .hold ∧ t.phase = .running := by
    simp [HoldsTest, h.handover, h.plan, h.phase]
  have kept : TestLeft t₁ t' := by
    by_cases holds : HoldsTest d t₁
    · exact (h.calm.left_holds holds h.room left).1
    · exact (h.calm.left_stays holds left).1
  refine ⟨⟨exc ▸ h.state, kept.slip, kept.events.subset h.entry⟩, exc ▸ h.removal, kept.mark.trans h.mark,
    fun mode running => ?_, fun other => ?_, fun mode running => ?_⟩
  · rw [← h.arrivals]
    exact (h.calm.left_holds (same.2 ⟨mode, running⟩) h.room left).2
  · exact (h.calm.left_stays (fun holds => other (same.1 holds).2) left).2.trans h.phase
  · have stays : ¬ HoldsTest d t₁ := fun holds => by simp [same.1 holds] at mode
    exact ((h.calm.left_stays stays left).2.trans h.phase).trans running

/-- The test of a handover, marked and its entry made (R53). -/
theorem handedTest {t₀ : TestContext} (e : Event) (grown : t.GoesOn 1 t₀) (room : HasRoom t) :
    ∀ t₁, t₁ = { t₀.logEvent e with handoverMark := true } →
      t₁.phase = t.phase ∧ t₁.plan = t.plan ∧ t₁.arrivals = t.arrivals ∧ t₁.handoverMark = true ∧ e ∈ t₁.events ∧
        t₁.events.length < 20 ∧ t₁.flags.extSlip = t₀.flags.extSlip := by
  rintro _ rfl
  have logged := logEvent_goesOn t₀ e
  have count := (grown.trans logged).count
  have few := grown.count
  have := show t.events.length ≤ 12 from room
  exact ⟨logged.phase.trans grown.phase, logged.plan.trans grown.plan, logged.arrivals.trans grown.arrivals, rfl,
    mem_logEvent (by omega), by show (t₀.logEvent e).events.length < 20; omega, logged.slip⟩

theorem TestContext.GoesOn.slipped {n : Nat} {t' : TestContext} (h : t.GoesOn n t') :
    (Machine.slipped t).GoesOn n (Machine.slipped t') :=
  ⟨h.phase, h.plan, h.arrivals, h.mark, rfl, h.events, h.count⟩

/-- The handover of a slip (R60). -/
theorem CalmArrival.handed_slip {t₀ : TestContext} {k : SlipRecord} (h : CalmArrival a t₀) (grown : t.GoesOn 1 t₀)
    (room : HasRoom t) (basis : a.s.exc.basis = some b)
    (has : .extRemoveReq ∈ (a.s.portOf .cell).flags.map fun e => e.1) (slip : a.slip = some k) :
    (Machine.formHandover a).s.pif.faults.extSlip = true ∧
    ∃ t₁, t₁.flags.extSlip = true ∧ HandedOver (Machine.formHandover a) t t₁ .fault { b with h := k.ext - k.xh }
      ⟨.handover, k.number, k.ext - k.xh⟩ := by
  obtain ⟨exc, test, pif⟩ := slipHandover_fields k h.test basis
  have formed := formHandover_slips slip
  have state : (Machine.formHandover a).s = slipHandover k a.s := by rw [formed]
  rw [← state] at exc test pif
  obtain ⟨phase, plan, arrivals, mark, entry, few, flag⟩ := handedTest _ grown.slipped room _ rfl
  refine ⟨by simp [pif, enterFault, raiseAll, FaultWord.enter], _, flag, h.handed test (phase.trans grown.phase.symm),
    by rw [formed], .inr rfl, by rw [exc], by rw [exc], by rw [exc], ?_, phase, plan, arrivals, mark, entry, few⟩
  rw [flag_of_pif pif]
  exact enterFault_raised _ _ _ (flag_raise_self has)

/-- The handover at a removal criterion (R51, R52). -/
theorem CalmArrival.handed_removal {t₀ : TestContext} {n : Nat} {v : Int} (h : CalmArrival a t₀) (grown : t.GoesOn 1 t₀)
    (room : HasRoom t) (basis : a.s.exc.basis = some b)
    (has : .extRemoveReq ∈ (a.s.portOf .cell).flags.map fun e => e.1)
    (formed : Machine.formHandover a = { a with handover := true, s := removalHandover n v a.s }) :
    ∃ t₁, HandedOver (Machine.formHandover a) t t₁ .removeRequested { b with h := v } ⟨.handover, n, v⟩ := by
  obtain ⟨exc, test, pif⟩ := removalHandover_fields n v h.test basis
  have state : (Machine.formHandover a).s = removalHandover n v a.s := by rw [formed]
  rw [← state] at exc test pif
  obtain ⟨phase, plan, arrivals, mark, entry, few, -⟩ := handedTest _ grown room _ rfl
  refine ⟨_, h.handed test (phase.trans grown.phase.symm), by rw [formed], .inl rfl, by rw [exc], by rw [exc], by rw [exc],
    ?_, phase, plan, arrivals, mark, entry, few⟩
  rw [flag_of_pif pif]
  exact flag_raise_self has

/-- The tracker's record after a good sample: the record with the greatest extensometer strain (R59). -/
def greaterSlip (tracker : Option SlipRecord) (record : SlipRecord) : SlipRecord :=
  match tracker with
  | some k => if k.ext < record.ext then record else k
  | none => record

theorem trackSlip_eq {x : SampleSet} {n : Nat} {force ext xh : Int} (on : runningOrHeld s = true) (valid : x.invalid = false)
    (number : x.number = some n) (measured : x.force = force) :
    trackSlip s x ext xh =
      some (greaterSlip s.exc.tracker { ext := ext, number := n, force := force, xh := xh }) := by
  cases tracker : s.exc.tracker with
  | none => simp [trackSlip, greaterSlip, on, valid, number, measured, tracker]
  | some k =>
    by_cases above : k.ext < ext <;> simp [trackSlip, greaterSlip, on, valid, number, measured, tracker, above]

end

section
variable {m : MountedSpecimen} {b : StrainBasis} {range : LoadRange} {l : Latch} {code force ext xh : Int} {c : Arrival}
  {t₀ : TestContext}

/-- A good sample of the test `t` formed in ACTIVE, its handover not yet: `t₀` is the test with a step-up's entry. -/
structure FormedInActive (s : State) (t : TestContext) (b : StrainBasis) (force ext xh : Int) (c : Arrival)
    (t₀ : TestContext) : Prop where
  grown : t.GoesOn 1 t₀
  calm : CalmArrival c t₀
  handover : c.handover = false
  pif : c.s.pif = s.pif
  state : c.s.exc.state = .active
  basis : c.s.exc.basis = some b
  lastActive : c.s.exc.lastActive = some { ext := ext, xh := xh, number := c.set.number }
  tracker : c.s.exc.tracker =
    some (greaterSlip s.exc.tracker { ext := ext, number := sampleNumber t.arrivals, force := force, xh := xh })
  number : c.set.number = some (sampleNumber t.arrivals)
  measured : c.set.force = force
  slips : ∀ k, c.slip = some k ↔
    s.exc.tracker = some k ∧ ext < k.ext - t.plan.slipThreshold ∧ k.force ≤ force
  strain : (c.set.strain, c.set.source) =
    (clampTo (-1000000) 1000000 (combinedStrain b true c.slip ext xh).1, (combinedStrain b true c.slip ext xh).2)

/-- The works on a good sample in ACTIVE: its forming, its handover, and the rest (R24). -/
theorem ArrivalInTest.inActive {le : Int} (h : ArrivalInTest s t m b range l) (state : s.exc.state = .active)
    (phase : t.phase = .running ∨ ∃ c ret, t.phase = .held c ret) (gate : s.inputs.gateOpen = false)
    (good : GoodSample s range code) (measured : force = netForce s range code) (whole : Unbroken s t.plan force)
    (length : b.le = some le) (atExt : ext = roundNearest (l.extCount.toInt * 100000) le)
    (atXh : xh = roundNearest ((l.position - b.p0) * 1000000) b.lc) :
    ∃ c t₀, FormedInActive s t b force ext xh c t₀ ∧
      Machine.exec (.sampleArrival code) s = .next (closeOrCount (afterHandover (formHandover c))).s ∧
      (closeOrCount (afterHandover (formHandover c))).s.ldc.latest = some c.set ∧
      (closeOrCount (afterHandover (formHandover c))).s.ldc.peak = c.s.ldc.peak := by
  obtain ⟨pif, t₀, grown, calm⟩ := h.calm phase gate good
  obtain ⟨-, peak, -⟩ := h.stepped_kept code
  obtain ⟨number, -⟩ := h.loadSample code
  obtain ⟨-, -, latest, peakTaken, -⟩ := takenArrival_kept calm.active
  obtain ⟨latestLeft, peakLeft, -⟩ := closeOrCount_kept (takenArrival_grows calm.active)
  have next := h.exec code
  have set : (stepUp (overloadCheck (beginArrival code range l s))).set = Machine.loadSample code range l s := by simp
  have exc : (stepUp (overloadCheck (beginArrival code range l s))).s.exc = s.exc := by simp
  have latch : (stepUp (overloadCheck (beginArrival code range l s))).latch = l := by simp
  have fresh : (stepUp (overloadCheck (beginArrival code range l s))).handover = false := by simp [beginArrival]
  generalize stepUp (overloadCheck (beginArrival code range l s)) = a at *
  have force' : a.set.force = force := by rw [set, measured]; rfl
  have unbroken : Unbroken a.s t₀.plan force := by
    rw [grown.plan]
    simpa only [Unbroken, peak] using whole
  obtain ⟨formed, slip, setFormed, excFormed⟩ := calm.formed (b := b) (ext := ext) (xh := xh)
    (by rw [exc, h.basis]) (by rw [exc, state]) (fractures_eq_false calm.test calm.valid force' unbroken)
    (by simp [extStrain, length, latch, atExt])
    (by simp [xhStrain, latch, atXh])
  have on := (runningOrHeld_iff calm.test).2 calm.phase
  refine ⟨updatePeak (formStrain a), t₀, ?_, next, latestLeft.trans (latest.trans (by simp)),
    peakLeft.trans peakTaken⟩
  exact {
    grown, calm := formed, handover := by simp [fresh], pif := by simp [pif]
    state := by rw [excFormed, exc, state]
    basis := by rw [excFormed, exc, h.basis]
    lastActive := by rw [excFormed]; simp [setFormed, withStrain]
    tracker := by rw [excFormed, trackSlip_eq on calm.valid (by rw [set, number]) force', exc]
    number := by simp [setFormed, withStrain, set, number]
    measured := by simp [setFormed, withStrain, force']
    slips := fun k => by rw [slip, slipAt_iff calm.test on calm.valid, exc, grown.plan, force']
    strain := by rw [slip]; simp [setFormed, withStrain, strainBound] }

/-- The sample hands over: at a removal criterion, if it does not slip (R51, R52). -/
theorem FormedInActive.removes (h : FormedInActive s t b force ext xh c t₀) (still : c.slip = none)
    (met : removalMet t.plan c.s.ldc.peak c.set = true) :
    formHandover c =
      { c with handover := true, s := removalHandover (sampleNumber t.arrivals) (ext - xh) c.s } := by
  rw [h.calm.formHandover h.state still, h.grown.plan, if_pos met, h.number]
  simp [lastActiveOffset, h.lastActive]

/-- The cell's port has the notice of a handover (R203). -/
theorem FormedInActive.asks (h : FormedInActive s t b force ext xh c t₀) (ports : PortsSound s) :
    .extRemoveReq ∈ (c.s.portOf .cell).flags.map fun e => e.1 := by
  have same : c.s.portOf .cell = s.portOf .cell := by simp [State.portOf, h.pif]
  rw [same, ports.flags]
  decide

/-- A sample that makes no handover leaves the extensometer ACTIVE, and is the last valid one in it (R46, R59). -/
theorem FormedInActive.left_stays {t' : TestContext} (h : FormedInActive s t b force ext xh c t₀) (still : c.slip = none)
    (unmet : removalMet t.plan c.s.ldc.peak c.set ≠ true)
    (left : (closeOrCount (afterHandover (formHandover c))).s.tex.test = some t') :
    (closeOrCount (afterHandover (formHandover c))).s.exc = c.s.exc ∧ t'.handoverMark = t.handoverMark := by
  have stays : formHandover c = c := by rw [h.calm.formHandover h.state still, h.grown.plan, if_neg unmet]
  rw [stays] at left ⊢
  have kept := (h.calm.left_stays (fun ⟨made, _⟩ => by simp [h.handover] at made) left).1
  exact ⟨h.calm.left_exc left, kept.mark.trans h.grown.mark⟩

end

end Sys2Proof.Machine

open Sys2Proof Sys2Proof.Machine

/-- Settles O36: a good sample in ACTIVE by whether it slips, else meets a removal criterion, else neither
(`ArrivalInTest.inActive`, `HandedOver.left_test`, `CalmArrival.left_stays`); the timeouts by the expiry that each is. -/
theorem extensometerTimeouts : Obligations.ExtensometerTimeouts := by
  unfold Obligations.ExtensometerTimeouts
  refine ⟨?_, fun s t e test free fault => ⟨fun d placing runs off reached stage => ?_,
    fun r held off runs mode reached => ?_⟩⟩
  · intro s t m b range l code force le ext xh h ports state phase gate good measured whole room length atExt atXh
    obtain ⟨c, t₀, formed, next, latest, peak⟩ :=
      h.inActive state phase gate good measured whole length atExt atXh
    have has := formed.asks ports
    have strain := formed.strain
    refine ⟨_, _, next, latest, fun slips removes handover isSlip isRemoval isHandover => ?_⟩
    have slipIff k : slips k ↔ c.slip = some k := (isSlip k).trans (formed.slips k).symm
    have removalIff : removes ↔ c.slip = none ∧ removalMet t.plan c.s.ldc.peak c.set = true := by
      rw [isRemoval, removalMet_iff, peak, formed.measured]
      simp only [slipIff, Option.eq_none_iff_forall_ne_some, ne_eq]
    cases slip : c.slip with
    | some k =>
      obtain ⟨fault, t₁, flag, handed⟩ := formed.calm.handed_slip formed.grown room formed.basis has slip
      obtain ⟨basis, asked, faults⟩ := handed.left_ports
      have slipped : slips k := (slipIff k).2 slip
      have handsOver : handover := isHandover.2 (.inr ⟨k, slipped⟩)
      simp only [slip, combinedStrain, Prod.mk.injEq] at strain
      refine ⟨fun k' slips' => ?_, fun none => absurd slipped (none k), fun removes' => ?_,
        fun _ => ⟨asked, fun t' left => (handed.left_test left).2⟩, fun stays => absurd handsOver stays⟩
      · obtain rfl : k = k' := Option.some.inj (slip.symm.trans ((slipIff k').1 slips'))
        refine ⟨strain.2, strain.1, basis, by rw [faults, fault], fun t' left => ?_⟩
        obtain ⟨state, kept, entry⟩ := (handed.left_test left).1
        exact ⟨state, kept.trans flag, entry⟩
      · simp [removalIff, slip] at removes'
    | none =>
      simp only [slip, combinedStrain, Prod.mk.injEq, if_true] at strain
      have still k : ¬ slips k := by simp [slipIff, slip]
      by_cases met : removalMet t.plan c.s.ldc.peak c.set = true
      · obtain ⟨t₁, handed⟩ := formed.calm.handed_removal formed.grown room formed.basis has (formed.removes slip met)
        obtain ⟨basis, asked, -⟩ := handed.left_ports
        have handsOver : handover := isHandover.2 (.inl (removalIff.2 ⟨slip, met⟩))
        refine ⟨fun k slips' => absurd slips' (still k), fun _ => ⟨strain.2, strain.1⟩, fun _ => ⟨basis, fun t' left => ?_⟩,
          fun _ => ⟨asked, fun t' left => (handed.left_test left).2⟩, fun stays => absurd handsOver stays⟩
        obtain ⟨state, -, entry⟩ := (handed.left_test left).1
        exact ⟨state, entry⟩
      · have noRemoval : ¬ removes := fun removes' => met (removalIff.1 removes').2
        have noHandover : ¬ handover := fun made => (isHandover.1 made).elim noRemoval fun ⟨k, slips'⟩ => still k slips'
        refine ⟨fun k slips' => absurd slips' (still k), fun _ => ⟨strain.2, strain.1⟩,
          fun removes' => absurd removes' noRemoval, fun made => absurd made noHandover, fun _ t' left => ?_⟩
        obtain ⟨exc, mark⟩ := formed.left_stays slip met left
        rw [exc, formed.tracker]
        refine ⟨formed.state, formed.basis, mark, formed.lastActive, ?_⟩
        cases s.exc.tracker <;> rfl
  · rw [placementTimeout_exec test free fault placing runs off reached stage,
      placementExpires_eq (s := startConversion s) test placing stage, startConversion_free free]
    rfl
  · rw [removalTimeout_exec test free fault held off runs mode reached,
      removalExpires_held (s := startConversion s) test held mode, startConversion_free free]

end
section

/-! PROOF. The course of the crosshead's motion (`MotionCourse`): what a command other than a reset can do with the crosshead
controller, the active and the queued motions and the lines, as a chain of moves. -/

namespace Sys2Proof.Machine

variable {s t u : State}

/-! ### The moves of which a course is made -/

/-- `t` has the motion of `s`: the crosshead controller, the lines, the sample timer's interval and the port of the active motion are
those of `s`, no request is queued that was not, and with no motion active no test has begun. -/
structure SameMotion (s t : State) : Prop where
  crosshead : t.xhc = s.xhc
  ports : t.mar.active.map ActiveMotion.port = s.mar.active.map ActiveMotion.port
  queue : t.mar.queue ⊆ s.mar.queue
  inputs : t.inputs = s.inputs
  timer : t.ldc.sampleInterval = s.ldc.sampleInterval
  idle : s.mar.active = none → s.tex.test = none → t.tex.test = none

/-- What keeps the test, the arbiter and the other parts of the motion keeps the motion. -/
theorem SameMotion.of_sameTest (same : SameTest s t) (crosshead : t.xhc = s.xhc := by simp) (mar : t.mar = s.mar := by simp)
    (inputs : t.inputs = s.inputs := by simp) (timer : t.ldc.sampleInterval = s.ldc.sampleInterval := by simp) :
    SameMotion s t :=
  ⟨crosshead, by rw [mar], by rw [mar]; exact List.Subset.refl _, inputs, timer, fun _ => same.idle_iff.2⟩

theorem SameMotion.rfl : SameMotion s s :=
  .of_sameTest .rfl

theorem SameMotion.active_iff (h : SameMotion s t) : t.mar.active = none ↔ s.mar.active = none := by
  rw [← Option.map_eq_none_iff, h.ports, Option.map_eq_none_iff]

theorem SameMotion.trans (h : SameMotion s t) (k : SameMotion t u) : SameMotion s u where
  crosshead := k.crosshead.trans h.crosshead
  ports := k.ports.trans h.ports
  queue := List.Subset.trans k.queue h.queue
  inputs := k.inputs.trans h.inputs
  timer := k.timer.trans h.timer
  idle none test := k.idle (h.active_iff.2 none) (h.idle none test)

/-- The crosshead controller at the end of a motion, for any hold time (R69). -/
def heldDrive (x : Crosshead) : Crosshead :=
  if x.config.holdTime = 0 then disabledDrive x else holdingDrive x

theorem driveHold_eq (s : State) : driveHold s = { s with xhc := heldDrive s.xhc } := by
  unfold driveHold heldDrive
  simp only []
  split <;> rfl

/-- The crosshead controller as a motion that becomes active finds it (R69): a motion that preempts takes the drive as it is (R76). -/
def enteredDrive (x : Crosshead) : Crosshead :=
  match x.drive with
  | .disabled => releasingDrive x
  | .holding => { x with drive := .moving, holdTimer := none }
  | .releasing | .moving => x

/-- The moves of the crosshead controller but the start and the end of a motion: a word formed in `s` is sent or stopped (R70), the
drive's timers expire (R69), the jog timer starts (R77), the reference is lost or found (R67, R71, R72), and an edge is counted,
stopping a word that points at the soft limit it reaches (R67, R79). -/
inductive CrossheadMove (s : State) : Crosshead → Prop
  | sends (w : Int) (formed : w = 0 ∨ w = formWord s (baseValue s)) : CrossheadMove s { s.xhc with word := w }
  | holdEnds (holding : s.xhc.drive = .holding) : CrossheadMove s { s.xhc with drive := .disabled, holdTimer := none }
  | brakeReleased (releasing : s.xhc.drive = .releasing) : CrossheadMove s { s.xhc with drive := .moving, brakeTimer := none }
  | jogStarts (n : Int) (moving : s.xhc.drive = .moving) : CrossheadMove s { s.xhc with jogTimer := some n }
  | unreferenced (n : Int) : CrossheadMove s { s.xhc with referenceValid := false, searchTravel := n }
  | referenced : CrossheadMove s
      { s.xhc with position := s.xhc.config.referencePosition, referenceValid := true, locked := true, word := 0 }
  | counts (p n w : Int) (bound : -2000000 ≤ p ∧ p ≤ 2000000)
      (away : w = 0 ∨ (w = s.xhc.word ∧ towardSoftLimit { s.xhc with position := p } w = false)) :
      CrossheadMove s { s.xhc with position := p, searchTravel := n, word := w }

/-- A level of the lines that brings no stop: an emergency stop, a hard limit or an open gate that was not there before is none but a
gate that opens on the word 0 (R80, R82, R83). -/
structure Released (s : State) (i : Inputs) : Prop where
  estop : i.estop = true → s.inputs.estop = true
  upper : i.upperLimit = true → s.inputs.upperLimit = true
  lower : i.lowerLimit = true → s.inputs.lowerLimit = true
  gate : i.gateOpen = true → s.inputs.gateOpen = true ∨ s.xhc.word = 0

/-- `t` comes from `s` by moves of the crosshead controller, ends and starts of motions, requests queued, changes of the lines, and a
configuration taken: all that a command other than a reset can do with the motion. -/
inductive MotionCourse (s : State) : State → Prop
  | start : MotionCourse s s
  | same {t u : State} : MotionCourse s t → SameMotion t u → MotionCourse s u
  | moves {t : State} {x : Crosshead} : MotionCourse s t → CrossheadMove t x → MotionCourse s { t with xhc := x }
  | ends {t : State} : MotionCourse s t → t.mar.active ≠ none ∨ t.tex.test ≠ none →
      MotionCourse s { t with xhc := heldDrive t.xhc, mar := { t.mar with active := none } }
  | starts {t : State} (a : ActiveMotion) : MotionCourse s t → (∀ b ∈ t.mar.active, b.port = .sequencer) →
      t.mar.active ≠ none ∨ t.mar.queue ≠ [] →
      MotionCourse s { t with xhc := enteredDrive t.xhc, mar := { t.mar with active := some a } }
  | queues {t : State} (q : List MotionRequest) : MotionCourse s t → t.inputs.estop = false →
      MotionCourse s (setMotionQueue q t)
  | switches {t : State} (i : Inputs) : MotionCourse s t → Released t i → MotionCourse s (setInputs i t)
  | disables {t : State} (i : Inputs) (m : Arbiter) (x : Executive) : MotionCourse s t →
      (OneTest s → m.active = none ∧ x.test = none) → m.queue ⊆ t.mar.queue →
      i.estop = t.inputs.estop ∨ m.queue = [] →
      MotionCourse s { t with xhc := disabledDrive t.xhc, inputs := i, mar := m, tex := x }
  | configures {t : State} (v : FrameUpdate) : MotionCourse s t → t.mar.active = none → t.xhc.locked = false →
      FrameUpdate.inRange v = true → crossFieldsHold t.cal.fullScale3 (FrameUpdate.applyTo v t.xhc.config) = true →
      MotionCourse s (setConfig (FrameUpdate.applyTo v t.xhc.config) t)

/-- A motion or a test has ended on the drive of `t`, the drive holding (R69). -/
theorem MotionCourse.held (h : MotionCourse s t) (moving : t.mar.active ≠ none ∨ t.tex.test ≠ none)
    (crosshead : u.xhc = heldDrive t.xhc) (active : u.mar.active = none) (queue : u.mar.queue = t.mar.queue)
    (inputs : u.inputs = t.inputs) (timer : u.ldc.sampleInterval = t.ldc.sampleInterval)
    (idle : t.tex.test = none → u.tex.test = none) : MotionCourse s u :=
  (h.ends moving).same
    ⟨crosshead, by simp [active], by rw [queue]; exact List.Subset.refl _, inputs, timer, fun _ => idle⟩

/-- A course of one case is a course, and none is one too. -/
theorem MotionCourse.ite {c : Prop} [Decidable c] (h : MotionCourse s t) (k : MotionCourse s u) :
    MotionCourse s (if c then t else u) := by
  split
  · exact h
  · exact k

/-! ### The end of motions and tests (R69, R98, R128) -/

@[simp] theorem selectRange_interval (r : LoadRange) (n : Nat) (s : State) :
    (selectRange r n s).ldc.sampleInterval = s.ldc.sampleInterval := by
  unfold selectRange
  split <;> rfl

theorem closeTest_interval (c : Closure) (s : State) : (closeTest c s).ldc.sampleInterval = s.ldc.sampleInterval := by
  unfold closeTest
  split
  · rfl
  · simp only []
    (repeat' split) <;> simp

/-- A closure on the drive's side: the drive holds, but after ESTOP and HARD_LIMIT, where it is left as it is (R69, R128). -/
theorem closeTest_drive (c : Closure) (h : s.tex.test ≠ none) :
    (closeTest c s).xhc = if leavesDisabled c then s.xhc else heldDrive s.xhc := by
  obtain ⟨t, test⟩ := Option.ne_none_iff_exists'.1 h
  simp only [closeTest, test]
  cases leavesDisabled c <;> (repeat' split) <;> simp_all [driveHold_eq]

theorem endMotionDisabled_queue (o : MotionOutcome) (s : State) : (endMotionDisabled o s).mar.queue = s.mar.queue := by
  unfold endMotionDisabled
  split <;> simp [fileActiveEnd]

theorem endMotionDisabled_active (o : MotionOutcome) (other : testIsActive s = false) :
    (endMotionDisabled o s).mar.active = none := by
  cases active : s.mar.active with
  | none => simp [endMotionDisabled, activeMotion, active]
  | some a =>
    have job : a.job ≠ .test := by simpa [testIsActive, active] using other
    simp [endMotionDisabled, activeMotion_of_active active job]

/-- The end of another motion, whose word may have been stopped before. -/
theorem endMotion_motion_from (o : MotionOutcome) {a : ActiveMotion} {x : Crosshead} (active : s.mar.active = some a)
    (other : a.job ≠ .test) {r : State} (h : MotionCourse r { s with xhc := x }) (same : heldDrive x = heldDrive s.xhc) :
    MotionCourse r (endMotion o s) := by
  refine h.held (.inl (by simp [active])) ?_ (endMotion_active o (testIsActive_of_active active other)) (endMotion_queue o s)
    (by simp) (by simp) (fun test => by simpa using test)
  simp [same, endMotion, activeMotion_of_active active other, driveHold_eq]

theorem endMotion_motion (o : MotionOutcome) (h : MotionCourse s t) : MotionCourse s (endMotion o t) := by
  cases ended : activeMotion t with
  | none => simpa [endMotion, ended] using h
  | some a =>
    obtain ⟨active, job⟩ := Option.filter_eq_some_iff.1 ended
    exact endMotion_motion_from o active (by simpa using job) (x := t.xhc) h rfl

theorem closeTest_motion {c : Closure} (holds : leavesDisabled c = false) (h : MotionCourse s t) :
    MotionCourse s (closeTest c t) := by
  by_cases test : t.tex.test = none
  · rwa [closeTest_of_idle c test]
  · obtain ⟨x, hx⟩ := Option.ne_none_iff_exists'.1 test
    obtain ⟨closed, active, -⟩ := closeTest_fields c hx
    exact h.held (.inr test) (by simp [closeTest_drive c test, holds]) active (closeTest_queue c t) (by simp)
      (closeTest_interval c t) fun _ => closed

/-! ### Words (R70, R79) -/

/-- The event of a soft limit stops the word first, whatever it was. -/
theorem softLimitEvent_motion (up : Bool) {w : Int} (h : MotionCourse s (sendWordValue w t)) :
    MotionCourse s (softLimitEvent up t) := by
  have stopped : MotionCourse s (sendWordValue 0 t) := h.moves (.sends 0 (.inl rfl))
  unfold softLimitEvent
  split
  · split
    · exact closeTest_motion rfl stopped
    · exact stopped
  · exact stopped
  · exact endMotion_motion _ stopped
  · exact stopped

theorem sendWord_motion {w : Int} (h : MotionCourse s (sendWordValue w t)) : MotionCourse s (sendWord t) := by
  unfold sendWord
  split
  · exact softLimitEvent_motion _ h
  · exact h.moves (.sends _ (.inr rfl))

/-! ### Activation (R69, R71, R94, R95, R111) -/

theorem setJob_motion (j : ActiveJob) (s : State) : SameMotion s (setJob j s) :=
  ⟨rfl, by cases h : s.mar.active <;> simp [h], List.Subset.refl _, rfl, rfl, fun _ => id⟩

theorem beginMotion_motion (h : MotionCourse s t) (moving : t.xhc.drive = .moving) : MotionCourse s (beginMotion t) := by
  unfold beginMotion
  split
  · exact h.same (setJob_motion ..)
  · split
    · exact endMotion_motion _ h
    · exact h.moves (.jogStarts _ moving)
  · exact h

/-- `u` waits for a motion on the drive of `t`: `t`'s active motion is gone, if it had one. -/
def AwaitsMotion (t u : State) : Prop :=
  SameMotion { t with mar := { t.mar with active := none } } u

theorem AwaitsMotion.active (h : AwaitsMotion t u) : u.mar.active = none := by
  simpa using SameMotion.ports h

/-- A request becomes the active motion, in the place of a preempted one or from the queue. -/
theorem makeActive_motion (rq : MotionRequest) (j : ActiveJob) (h : MotionCourse s t) (gone : AwaitsMotion t u)
    (preempts : ∀ b ∈ t.mar.active, b.port = .sequencer) (pending : t.mar.active ≠ none ∨ t.mar.queue ≠ []) :
    MotionCourse s (makeActive rq j u) := by
  have drive : u.xhc = t.xhc := gone.crosshead
  have started {v : State} (crosshead : v.xhc = enteredDrive t.xhc)
      (active : v.mar.active = some { port := rq.port, tag := rq.tag, job := j }) (queue : v.mar.queue = u.mar.queue)
      (inputs : v.inputs = u.inputs) (timer : v.ldc.sampleInterval = u.ldc.sampleInterval) : MotionCourse s v :=
    (h.starts { port := rq.port, tag := rq.tag, job := j } preempts pending).same
      ⟨crosshead, by simp [active], by rw [queue]; exact gone.queue, by rw [inputs]; exact gone.inputs,
        by rw [timer]; exact gone.timer, fun none => by simp at none⟩
  unfold makeActive startDrive
  simp only []
  split
  next disabled => exact started (by simp [enteredDrive, ← drive, disabled, releasingDrive]) rfl rfl rfl rfl
  next holding =>
    exact beginMotion_motion (started (by simp [enteredDrive, ← drive, holding]) rfl rfl rfl rfl) rfl
  next releasing => exact started (by simp [enteredDrive, ← drive, releasing]) rfl rfl rfl rfl
  next moving => exact started (by simp [enteredDrive, ← drive, moving]) rfl rfl rfl rfl

theorem fileRequestEnd_motion (rq : MotionRequest) (o : MotionOutcome) (r : Option Reason) (s : State) :
    SameMotion s (fileRequestEnd rq o r s) := by
  constructor <;> simp [fileRequestEnd]

section
variable {rq : MotionRequest} (h : MotionCourse s t) (gone : AwaitsMotion t u)
  (preempts : ∀ b ∈ t.mar.active, b.port = .sequencer) (pending : t.mar.active ≠ none ∨ t.mar.queue ≠ [])
include h gone

/-- A request ends at once: the drive of a preempted motion holds, and a drive at rest stays as it is (R76, R95). -/
theorem endAtOnce_motion (rq : MotionRequest) (o : MotionOutcome) (r : Option Reason) :
    MotionCourse s (endAtOnce t.mar.active.isSome rq o r u) := by
  have filed := SameMotion.trans gone (fileRequestEnd_motion rq o r u)
  simp only [endAtOnce]
  split
  next moving =>
    refine (h.ends (.inl (Option.isSome_iff_ne_none.1 moving))).same
      ⟨?_, ?_, ?_, ?_, ?_, fun _ test => ?_⟩
    · simp [driveHold_eq, gone.crosshead]
    · simp [fileRequestEnd, gone.active]
    · simpa [fileRequestEnd] using gone.queue
    · simpa using gone.inputs
    · simpa using gone.timer
    · simpa using gone.idle rfl test
  next still =>
    have rest : t.mar.active = none := by simpa using still
    have same : ({ t with mar := { t.mar with active := none } } : State) = t := by rw [← rest]
    rw [same] at filed
    exact h.same filed

include preempts pending

theorem takeMove_motion (x v : Int) : MotionCourse s (takeMove t.mar.active.isSome rq x v u) := by
  simp only [takeMove]
  split
  · exact endAtOnce_motion h gone ..
  split
  · exact endAtOnce_motion h gone ..
  split
  · exact endAtOnce_motion h gone ..
  · exact makeActive_motion rq _ h gone preempts pending

theorem takeStartTest_motion (queued : t.mar.active = none) : MotionCourse s (takeStartTest rq u) := by
  have ended o r := endAtOnce_motion h gone rq o r
  have same : MotionCourse s u := h.same (by
    have same : ({ t with mar := { t.mar with active := none } } : State) = t := by rw [← queued]
    rwa [AwaitsMotion, same] at gone)
  unfold takeStartTest
  split
  · simpa [queued] using ended _ _
  split
  · exact same
  split
  · exact same
  next p _ =>
    refine (makeActive_motion rq .test h gone preempts pending).same ?_
    have active := testIsActive_makeActive rq u
    exact ⟨by simp, by simp, by simp, by simp, by simp [activateTest],
      fun rest => by simp [testIsActive_of_none rest] at active⟩

/-- A request taken for activation; one that preempts is a RETRACT (R93, R95). -/
theorem takeRequest_motion (retracts : t.mar.active ≠ none → rq.job = .retract) :
    MotionCourse s (takeRequest t.mar.active.isSome rq u) := by
  unfold takeRequest
  split
  · exact endAtOnce_motion h gone ..
  split
  · exact takeMove_motion h gone preempts pending ..
  · exact takeMove_motion h gone preempts pending ..
  · split
    · exact endAtOnce_motion h gone ..
    · refine makeActive_motion rq _ (h.moves (.unreferenced 0)) ?_ preempts pending
      exact ⟨by simp [startSearch, gone.crosshead], by simp [gone.active], by simpa using gone.queue,
        by simpa using gone.inputs, by simpa using gone.timer, fun _ test => by simpa using gone.idle rfl test⟩
  next job =>
    refine takeStartTest_motion h gone preempts pending ?_
    by_contra moving
    simp [job] at retracts
    exact moving retracts
  · exact makeActive_motion rq _ h gone preempts pending

end

theorem activationLoop_motion (n : Nat) (h : MotionCourse s t) : MotionCourse s (activationLoop n t) := by
  induction n generalizing t with
  | zero => exact h
  | succ n ih =>
    unfold activationLoop
    split
    · exact h
    next still =>
      split
      · exact h
      next rq found =>
        have rest : t.mar.active = none := by simpa using still
        have gone : AwaitsMotion t (unqueue rq t) :=
          ⟨by simp, by simp [rest], by simpa using List.erase_subset, by simp, by simp, fun _ => id⟩
        have queued : t.mar.queue ≠ [] := List.ne_nil_of_mem (List.mem_of_find?_eq_some found)
        have taken := takeRequest_motion (rq := rq) h gone (by simp [rest]) (.inr queued) (by simp [rest])
        rw [rest] at taken
        exact ih taken

theorem tryActivate_motion (h : MotionCourse s t) : MotionCourse s (tryActivate t) :=
  activationLoop_motion _ h

theorem activateAfterEnd_motion (b : State) (h : MotionCourse s t) : MotionCourse s (activateAfterEnd b t) := by
  unfold activateAfterEnd
  split
  · exact tryActivate_motion h
  · exact h

end Sys2Proof.Machine

end

section

/-! PROOF. The course of the crosshead's motion through the events of the drive and the lines, the timers, the edges and the
arrivals. -/

namespace Sys2Proof.Machine

variable {s t : State} {a : Arrival} {e : Expiry}

/-! ### The lines (R71, R72, R80 to R83) -/

theorem SameMotion.word (w : Int) (h : SameMotion s t) : SameMotion (sendWordValue w s) (sendWordValue w t) where
  crosshead := by simp only [sendWordValue, h.crosshead]
  ports := h.ports
  queue := h.queue
  inputs := h.inputs
  timer := h.timer
  idle := h.idle

theorem gateEndsMotion_stopped (h : MotionCourse s (sendWordValue 0 t)) : MotionCourse s (sendWordValue 0 (gateEndsMotion t)) := by
  have ended {j : ActiveMotion} (active : t.mar.active = some j) (other : j.job ≠ .test) :
      MotionCourse s (sendWordValue 0 (endMotion .stoppedGate t)) :=
    (endMotion_motion_from _ active other h rfl).moves (.sends 0 (.inl rfl))
  unfold gateEndsMotion
  split
  next active => exact ended active (by simp)
  next active => exact ended active (by simp)
  next => exact h

theorem gateOpens_motion (s : State) : MotionCourse s (gateOpens s) := by
  unfold gateOpens
  split
  · exact .start
  have stopped : MotionCourse s (sendWordValue 0 (setInputs { s.inputs with gateOpen := true } s)) :=
    (MotionCourse.start.moves (.sends 0 (.inl rfl))).switches { s.inputs with gateOpen := true }
      ⟨id, id, id, fun _ => .inr rfl⟩
  have held := (gateEndsMotion_stopped stopped).same ((SameMotion.of_sameTest (holdTest_sameTest .gate _)).word 0)
  exact activateAfterEnd_motion s ((sendWord_motion held).same (.of_sameTest (raiseGate_sameTest _)))

theorem gateCloses_motion (s : State) : MotionCourse s (gateCloses s) := by
  have closed : MotionCourse s (setInputs { s.inputs with gateOpen := false } s) :=
    .switches _ .start ⟨id, id, id, fun h => by simp at h⟩
  exact .ite (closed.same (.of_sameTest (raiseGate_sameTest _))) .start

/-- An abort leaves neither a motion nor a test, any other motion having ended before it (R81, R83, R127). -/
theorem abortTest_idle (c : AbortCause) (one : OneTest s) (same : SameTest s t)
    (ended : testIsActive s = false → t.mar.active = none) :
    (abortTest c t).mar.active = none ∧ (abortTest c t).tex.test = none := by
  cases test : s.tex.test with
  | none =>
    have still := same.idle_iff.2 test
    rw [abortTest, closeTest_of_idle _ still]
    exact ⟨ended (by rw [one.active, test]; rfl), still⟩
  | some x =>
    obtain ⟨x', test'⟩ := Option.ne_none_iff_exists'.1 (same.inTest (by simp [test]))
    obtain ⟨closed, active, -⟩ := closeTest_fields (.aborted c) test'
    exact ⟨active, closed⟩

/-- A closure after ESTOP or HARD_LIMIT leaves the drive as it is (R69). -/
theorem abortTest_disabled (c : AbortCause) (h : leavesDisabled (.aborted c) = true) (t : State) :
    (abortTest c t).xhc = t.xhc := by
  by_cases test : t.tex.test = none
  · rw [abortTest, closeTest_of_idle _ test]
  · simp [abortTest, closeTest_drive _ test, h]

/-- The drive disabled at once by a hard limit or an emergency stop, the motion ended and the test aborted (R81, R83). -/
theorem MotionCourse.disabled {u : State} (i : Inputs) (crosshead : u.xhc = disabledDrive s.xhc) (inputs : u.inputs = i)
    (queue : u.mar.queue ⊆ s.mar.queue) (kept : i.estop = s.inputs.estop ∨ u.mar.queue = [])
    (timer : u.ldc.sampleInterval = s.ldc.sampleInterval) (ended : OneTest s → u.mar.active = none ∧ u.tex.test = none) :
    MotionCourse s u :=
  (MotionCourse.start.disables i u.mar u.tex ended queue kept).same
    ⟨crosshead, rfl, List.Subset.refl _, inputs, timer, fun _ => id⟩

theorem driveDisable_eq (s : State) : driveDisable s = { s with xhc := disabledDrive s.xhc } := rfl

theorem limitEndsMotion_active (other : testIsActive s = false) : (limitEndsMotion s).mar.active = none := by
  unfold limitEndsMotion
  split
  · exact endMotionDisabled_active _ (by rwa [(enterFault_sameTest ..).active])
  · exact endMotionDisabled_active _ other

theorem limitEndsMotion_queue (s : State) : (limitEndsMotion s).mar.queue = s.mar.queue := by
  unfold limitEndsMotion
  split <;> simp [endMotionDisabled_queue]

theorem hardLimitOn_motion (side : LimitSide) (s : State) : MotionCourse s (hardLimitOn side s) := by
  unfold hardLimitOn
  refine .ite .start (activateAfterEnd_motion s ?_)
  have disabled := (setInputs_sameTest (setLimit side true s.inputs) s).trans (driveDisable_sameTest _)
  have ended := (disabled.trans (limitEndsMotion_sameTest _)).trans (enterFault_sameTest .hardLimit _)
  refine .disabled (setLimit side true s.inputs) ?_ ?_ ?_ (.inl (by cases side <;> rfl)) ?_ fun one =>
    abortTest_idle .hardLimit one ended fun other => ?_
  · rw [abortTest_disabled _ rfl]
    simp [driveDisable_eq]
  · simp
  · simp [abortTest, closeTest_queue, limitEndsMotion_queue]
  · simp [abortTest, closeTest_interval]
  · simpa using limitEndsMotion_active (by rwa [disabled.active])

theorem fileEnds_mar (l : List MotionRequest) (o : MotionOutcome) (s : State) :
    (l.foldl (fun s rq => fileRequestEnd rq o none s) s).mar.active = s.mar.active ∧
      (l.foldl (fun s rq => fileRequestEnd rq o none s) s).mar.queue = s.mar.queue := by
  induction l generalizing s with
  | nil => exact ⟨rfl, rfl⟩
  | cons rq l ih =>
    obtain ⟨active, queue⟩ := ih (fileRequestEnd rq o none s)
    exact ⟨active.trans (by simp [fileRequestEnd]), queue.trans (by simp [fileRequestEnd])⟩

theorem stopQueue_mar (s : State) : (stopQueue s).mar.active = s.mar.active ∧ (stopQueue s).mar.queue = [] := by
  simp [stopQueue, fileEnds_mar]

theorem emergencyStops_motion (s : State) : MotionCourse s (emergencyStops s) := by
  unfold emergencyStops
  refine .ite .start ?_
  have disabled := ((setInputs_sameTest { s.inputs with estop := true } s).trans (driveDisable_sameTest _)).trans
    (stopQueue_sameTest _)
  have queue (c o t) (h : t.mar.queue = []) : (abortTest c (endMotionDisabled o t)).mar.queue = [] := by
    rw [abortTest, closeTest_queue, endMotionDisabled_queue, h]
  have emptied := queue .estop .estop _ (stopQueue_mar (driveDisable (setInputs { s.inputs with estop := true } s))).2
  refine MotionCourse.same (.disabled { s.inputs with estop := true } ?_ ?_ (by rw [emptied]; simp) (.inr emptied) ?_ fun one =>
    abortTest_idle .estop one (disabled.trans (endMotionDisabled_sameTest .estop _)) fun other => ?_)
    (.of_sameTest (raiseAll_sameTest .estop _))
  · rw [abortTest_disabled _ rfl]
    simp [driveDisable_eq]
  · simp
  · simp [abortTest, closeTest_interval]
  · exact endMotionDisabled_active _ (by rwa [disabled.active])

theorem searchPhase_active {p : SearchPhase} (h : searchPhase s = some p) :
    ∃ j, s.mar.active = some j ∧ j.job = .search p := by
  unfold searchPhase at h
  split at h
  next active =>
    cases h
    exact ⟨_, active, rfl⟩
  next => cases h

/-- The reference found ends the search, whatever word was in force (R72). -/
theorem referenceSwitchOn_motion (s : State) : MotionCourse s (referenceSwitchOn s) := by
  have switched : MotionCourse s (setInputs { s.inputs with referenceSwitch := true } s) :=
    MotionCourse.start.switches _ ⟨id, id, id, .inl⟩
  unfold referenceSwitchOn
  refine .ite .start ?_
  simp only []
  split
  next down =>
    obtain ⟨j, active, search⟩ := searchPhase_active down
    exact activateAfterEnd_motion s (endMotion_motion_from
      (s := referenced (setInputs { s.inputs with referenceSwitch := true } s)) .done active (by simp [search])
      (switched.moves .referenced) rfl)
  next => exact switched

theorem referenceSwitchOff_motion (s : State) : MotionCourse s (referenceSwitchOff s) := by
  have switched : MotionCourse s (setInputs { s.inputs with referenceSwitch := false } s) :=
    MotionCourse.start.switches _ ⟨id, id, id, .inl⟩
  exact .ite (.ite (switched.same (setJob_motion ..)) switched) .start

/-! ### Timers and edges (R22, R50, R56, R67 to R79) -/

theorem brakeReleased_motion (s : State) : MotionCourse s (brakeReleased s) := by
  unfold brakeReleased
  split
  next releasing =>
    exact activateAfterEnd_motion s (beginMotion_motion (MotionCourse.start.moves (.brakeReleased releasing)) rfl)
  next => exact .start

theorem completeProgramming_interval (l : List CalPoint) (s : State) :
    (completeProgramming l s).ldc.sampleInterval = s.ldc.sampleInterval := by
  unfold completeProgramming verifyTable
  (repeat' split) <;> simp

theorem completeProgramming_motion (l : List CalPoint) (s : State) : SameMotion s (completeProgramming l s) := by
  refine .of_sameTest (completeProgramming_sameTest l s) ?_ ?_ ?_ (completeProgramming_interval l s)
  all_goals
    unfold completeProgramming
    split <;> simp

theorem advanceTimers_inputs (e : Expiry) : (advanceTimers e).s.inputs = e.s.inputs := by
  unfold advanceTimers
  split
  · simp only [advanceRemoval, advancePlacement]
    (repeat' split) <;> simp
  · rfl

theorem declareLoadFault_motion (h : MotionCourse s t) : MotionCourse s (declareLoadFault t) := by
  have declared : MotionCourse s { t with ldc := { t.ldc with loadFault := true } } := h.same (.of_sameTest (.of_otherParts rfl))
  exact closeTest_motion rfl (endMotion_motion _ (declared.same (.of_sameTest (enterFault_sameTest .loadFault _))))

theorem expire_motion (s : State) : MotionCourse s (expire s).s := by
  have begun : MotionCourse s (beginExpiry s).s :=
    MotionCourse.start.same (.of_sameTest (beginExpiry_sameTest s) (inputs := by simp [beginExpiry]))
  have timed := begun.same (.of_sameTest (advanceTimers_sameTest _) (inputs := advanceTimers_inputs _))
  have declared : MotionCourse s (declareAtExpiry (advanceTimers (beginExpiry s))).s := by
    unfold declareAtExpiry
    split
    · exact declareLoadFault_motion timed
    · exact timed
  refine activateAfterEnd_motion s ?_
  unfold workExpiry wordAtExpiry
  split
  · exact sendWord_motion (w := State.xhc _ |>.word) declared
  · exact declared

theorem boundMet_motion (s : State) : MotionCourse s (boundMet s) := by
  have lost : MotionCourse s { s with xhc := { s.xhc with referenceValid := false } } :=
    MotionCourse.start.moves (.unreferenced s.xhc.searchTravel)
  have faulted := lost.same (.of_sameTest (enterFault_sameTest .equipmentCheck _))
  unfold boundMet
  refine closeTest_motion rfl (endMotion_motion _ ?_)
  exact .ite faulted lost

theorem searchActive_job (h : searchActive s = true) : ∃ j, s.mar.active = some j ∧ j.job ≠ .test := by
  cases active : s.mar.active with
  | none => simp [searchActive, active] at h
  | some j =>
    obtain ⟨ph, search⟩ := (searchActive_of_active active).1 h
    exact ⟨j, rfl, by simp [search]⟩

theorem workEdge_motion (d : Direction) (s : State) : MotionCourse s (workEdge d s).s := by
  unfold workEdge
  split
  · exact boundMet_motion s
  next inside =>
    have bound : -2000000 ≤ s.xhc.position + stepOf d ∧ s.xhc.position + stepOf d ≤ 2000000 := by
      rw [outside_bound_iff] at inside
      omega
    have counted (w : Int) (away) : MotionCourse s (sendWordValue w (countEdge d s)) :=
      MotionCourse.start.moves (.counts (s.xhc.position + stepOf d) _ w bound away)
    simp only []
    split
    next exceeds =>
      have search : searchActive (countEdge d s) = true := by
        simp only [travelExceeds, Bool.and_eq_true] at exceeds
        exact exceeds.1
      obtain ⟨j, active, other⟩ := searchActive_job search
      have faulted := (counted 0 (.inl rfl)).same ((SameMotion.of_sameTest (enterFault_sameTest .equipmentCheck _)).word 0)
      exact endMotion_motion_from (s := enterFault .equipmentCheck (countEdge d s)) .equipmentCheck (by simpa using active)
        other faulted rfl
    next =>
      unfold softLimitAtEdge
      split
      · exact softLimitEvent_motion _ (counted 0 (.inl rfl))
      next away => exact counted s.xhc.word (.inr ⟨rfl, by rwa [Bool.not_eq_true] at away⟩)

theorem edge_motion (d : Direction) (s : State) : MotionCourse s (edge d s).s :=
  activateAfterEnd_motion s (workEdge_motion d s)

/-! ### Arrivals (R24, R70, R75, R79) -/

/-- What closes a test at an arrival leaves the drive HOLDING, being neither ESTOP nor HARD_LIMIT (R69). -/
def ClosesHeld (a : Arrival) : Prop :=
  ∀ c, a.closing = some c → leavesDisabled c = false

theorem ClosesHeld.of_eq {b : Arrival} (h : ClosesHeld a) (same : b.closing = a.closing) : ClosesHeld b := by
  unfold ClosesHeld
  rwa [same]

theorem ClosesHeld.of_some {c : Closure} (same : a.closing = some c) (held : leavesDisabled c = false) : ClosesHeld a := by
  intro c' h
  rwa [← Option.some.inj (same.symm.trans h)]

theorem judgeStage_closes (x : TestContext) (h : ClosesHeld a) : ClosesHeld (judgeStage x a) := by
  unfold judgeStage
  split
  · exact h
  split
  · exact h
  split
  · exact h.of_eq (by simp)
  split
  · unfold takeTimeout
    simp only []
    split
    · exact .of_some rfl rfl
    · split <;> exact h.of_eq (by simp)
  · exact h

theorem judgePhase_closes (x : TestContext) (h : ClosesHeld a) : ClosesHeld (judgePhase x a) := by
  unfold judgePhase
  split
  · split
    · exact h.of_eq (by simp)
    · exact h
  · split
    · exact h
    · exact judgeStage_closes x h
  · unfold countTail
    simp only []
    split
    · exact .of_some rfl rfl
    · exact h.of_eq (by simp)
  · exact h
  · exact h

theorem executiveTakes_closes (h : ClosesHeld a) : ClosesHeld (executiveTakes a) := by
  have examined : ClosesHeld (detectFracture a) := h.of_eq (by simp)
  unfold executiveTakes
  split
  · exact h
  simp only []
  split
  · exact .of_some rfl rfl
  split
  · split
    · exact .of_some rfl rfl
    · exact examined
  split
  · exact examined.of_eq (by simp)
  next x _ _ _ _ => exact (judgePhase_closes x examined).of_eq (by simp)

theorem wordTakes_closes (h : ClosesHeld a) : ClosesHeld (wordTakes a) := by
  unfold wordTakes
  split
  · exact h.of_eq (by simp)
  split
  · split
    · split
      · exact .of_some rfl rfl
      · exact h.of_eq (by simp)
    · exact h.of_eq (by simp)
  · exact h.of_eq (by simp)

theorem motionTakes_closes (h : ClosesHeld a) : ClosesHeld (motionTakes a) :=
  h.of_eq (motionTakes_kept a).2.2.2.2

@[simp] theorem arrivalForExecutive_interval (code : Int) (range : LoadRange) (l : Latch) (s : State) :
    (arrivalForExecutive code range l s).s.ldc.sampleInterval = s.ldc.sampleInterval := by
  have checked (a : Arrival) : (overloadCheck a).s.ldc.sampleInterval = a.s.ldc.sampleInterval := by
    simp only [overloadCheck]
    split <;> simp
  have stepped (a : Arrival) : (stepUp a).s.ldc.sampleInterval = a.s.ldc.sampleInterval := by
    unfold stepUp
    (repeat' split) <;> simp
  have peaked (a : Arrival) : (updatePeak a).s.ldc.sampleInterval = a.s.ldc.sampleInterval := by
    unfold updatePeak
    split <;> rfl
  simp [arrivalForExecutive, checked, stepped, peaked]

/-- The works of an arrival before its motion keep the motion (R24). -/
theorem formArrival_motion (code : Int) (range : LoadRange) (l : Latch) (s : State) :
    SameMotion s (loopTakes (executiveTakes (arrivalForExecutive code range l s))).s := by
  have loaded := ((beginArrival_sameTest code range l s).trans (overloadCheck_sameTest _)).trans (stepUp_sameTest _)
  have formed := ((loaded.trans (formStrain_sameTest _)).trans (updatePeak_sameTest _)).trans (formHandover_sameTest _)
  have judged := (formed.trans (evaluateArrival_sameTest _)).trans (executiveTakes_sameTest _)
  exact .of_sameTest (judged.trans (loopTakes_sameTest _)) (by simp [arrivalForExecutive]) (by simp [arrivalForExecutive])
    (by simp [arrivalForExecutive])

theorem evaluateMove_motion (x : Int) (h : MotionCourse s t) : MotionCourse s (evaluateMove x t) := by
  unfold evaluateMove
  split
  · split
    · exact .ite (endMotion_motion _ h) (h.same (setJob_motion ..))
    · exact .ite (endMotion_motion _ h) (h.same (setJob_motion ..))
    · exact h
  · exact h

theorem motionTakes_motion (h : MotionCourse s a.s) : MotionCourse s (motionTakes a).s := by
  unfold motionTakes
  split
  · simp only [mapState_fields, overloadEnds]
    split
    · exact h
    · exact endMotion_motion _ h
  · exact evaluateMove_motion _ h

theorem wordTakes_motion (h : MotionCourse s a.s) : MotionCourse s (wordTakes a).s := by
  have stopped : MotionCourse s (sendWordValue 0 a.s) := h.moves (.sends 0 (.inl rfl))
  unfold wordTakes
  split
  · exact stopped
  split
  · split
    · split <;> exact stopped
    · exact softLimitEvent_motion (w := a.s.xhc.word) _ h
  · exact h.moves (.sends _ (.inr rfl))

theorem workArrival_motion (code : Int) (range : LoadRange) (l : Latch) (s : State) :
    MotionCourse s (workArrival code range l s).s := by
  have moved := motionTakes_motion (MotionCourse.start.same (formArrival_motion code range l s))
  have published := (wordTakes_motion moved).same (.of_sameTest (publish_sameTest _) (timer := by simp [publish]))
  have captured := published.same (.of_sameTest (captureTakes_sameTest _))
  have begun : ClosesHeld (arrivalForExecutive code range l s) := fun c h => by simp [arrivalForExecutive] at h
  have closes : ClosesHeld (loopTakes (executiveTakes (arrivalForExecutive code range l s))) :=
    (executiveTakes_closes begun).of_eq (by simp)
  have worded := wordTakes_closes (motionTakes_closes closes)
  change MotionCourse s (closeOrCount (captureTakes (publish (wordTakes (motionTakes
    (loopTakes (executiveTakes (arrivalForExecutive code range l s)))))))).s
  unfold closeOrCount
  split
  next c closing => exact closeTest_motion (worded c (by simpa using closing)) captured
  next => exact captured.same (.of_sameTest (updateTest_sameTest _ (fun _ => by rfl) _))

theorem arrive_motion {code : Int} (h : arrive code s = some a) : MotionCourse s a.s := by
  obtain ⟨c, _, rfl⟩ := Option.map_eq_some_iff.1 h
  have worked := workArrival_motion code c.1 c.2 s
  exact .ite (tryActivate_motion worked) (activateAfterEnd_motion s worked)

end Sys2Proof.Machine

end

section

/-! PROOF. The course of the crosshead's motion through the requests, and so through every command but the two resets. -/

namespace Sys2Proof.Machine

variable {s t : State}

/-! ### Motion requests (R78, R85 to R99) -/

theorem earlyRefusal_estop {j : MotionJob} (h : earlyRefusal j s = none) : s.inputs.estop = false := by
  unfold earlyRefusal at h
  split at h
  · cases h
  split at h
  · cases h
  next released => simpa using released

theorem setClaim_motion (x y : Option Port) (s : State) : SameMotion s (setClaim x y s) := by
  constructor <;> simp

theorem claimByJog_motion (p : Port) (s : State) : SameMotion s (claimByJog p s) := by
  unfold claimByJog
  split <;> exact setClaim_motion ..

theorem placeRequest_motion (rq : MotionRequest) (h : MotionCourse s t) (released : t.inputs.estop = false) :
    MotionCourse s (placeRequest rq t) := by
  unfold placeRequest placeRetract
  split
  next retract =>
    split
    next a preempted =>
      obtain ⟨active, sequencer⟩ := Option.filter_eq_some_iff.1 preempted
      have gone : AwaitsMotion t (clearActive (fileActiveEnd a .preempted t)) := by
        constructor <;> simp [fileActiveEnd]
      have taken := takeRequest_motion (rq := rq) h gone (by simp_all) (.inl (by simp [active])) fun _ => retract
      rwa [active] at taken
    next => exact h.queues _ released
  next => exact h.queues _ released

theorem admitMotion_motion (rq : MotionRequest) (h : MotionCourse s t) (released : t.inputs.estop = false) :
    MotionCourse s (admitMotion rq t) := by
  unfold admitMotion
  refine tryActivate_motion ?_
  split
  · exact placeRequest_motion rq (h.same (claimByJog_motion ..)) (by simpa using released)
  · exact placeRequest_motion rq h released

theorem motionReply_motion (p : Port) (tag : Tag) (j : MotionJob) (s : State) :
    MotionCourse s (motionReply p tag j s).state := by
  unfold motionReply
  split
  · exact .start
  next early =>
    split
    · exact .start
    · exact admitMotion_motion _ .start (earlyRefusal_estop early)

theorem refreshJog_motion (d : Direction) (v n : Int) (s : State) : MotionCourse s (refreshJog d v n s) := by
  have refreshed : MotionCourse s (setJob (.jog d (min v s.xhc.config.jogLimit) n) s) :=
    MotionCourse.start.same (setJob_motion ..)
  simp only [refreshJog]
  refine .ite (activateAfterEnd_motion s (endMotion_motion _ refreshed)) ?_
  split
  next moving => exact sendWord_motion (w := s.xhc.word) (refreshed.moves (.jogStarts n moving))
  next => exact refreshed

theorem jogReply_motion (p : Port) (tag : Tag) (d : Direction) (v n : Int) (s : State) :
    MotionCourse s (jogReply p tag d v n s).state := by
  unfold jogReply
  split
  · exact .start
  split
  · exact refreshJog_motion d v n s
  · exact motionReply_motion ..

theorem claimFrameReply_motion (p : Port) (s : State) : SameMotion s (claimFrameReply p s).state := by
  unfold claimFrameReply
  (repeat' split) <;> constructor <;> simp

theorem passClaim_motion (s : State) : MotionCourse s (passClaim s) := by
  unfold passClaim
  split
  · refine tryActivate_motion (MotionCourse.start.same ?_)
    constructor <;> simp
  · exact MotionCourse.start.same (setClaim_motion ..)

theorem cancelRequest_motion (rq : MotionRequest) (s : State) : SameMotion s (cancelRequest rq s) := by
  constructor <;> simp [cancelRequest, fileRequestEnd, List.erase_subset]

theorem withdrawClaim_motion (p : Port) (s : State) : SameMotion s (withdrawClaim p s) := by
  have withdrawn := setClaim_motion s.mar.holder none s
  simp only [withdrawClaim]
  split
  · split
    · exact withdrawn
    · exact withdrawn.trans (cancelRequest_motion ..)
  · exact withdrawn

theorem releaseFrameReply_motion (p : Port) (s : State) : MotionCourse s (releaseFrameReply p s).state := by
  unfold releaseFrameReply
  split
  · split
    · exact .start
    split
    · exact .start
    · exact passClaim_motion s
  split
  · exact MotionCourse.start.same (withdrawClaim_motion ..)
  · exact .start

theorem stopMotionReply_motion (p : Port) (s : State) : MotionCourse s (stopMotionReply p s).state := by
  unfold stopMotionReply
  split
  · exact MotionCourse.start.same (cancelRequest_motion ..)
  · split
    · exact .start
    · exact activateAfterEnd_motion s (endMotion_motion _ .start)
  · exact .start

theorem collectCompletionReply_motion (p : Port) (s : State) : SameMotion s (collectCompletionReply p s).state := by
  unfold collectCompletionReply
  split <;> constructor <;> simp [emptySlot]

/-! ### The other requests -/

theorem abortTestReply_motion (s : State) : MotionCourse s (abortTestReply s).state := by
  unfold abortTestReply
  split
  · exact .start
  · exact activateAfterEnd_motion s (closeTest_motion rfl .start)
  · exact activateAfterEnd_motion s (closeTest_motion rfl .start)

/-- CONFIGURE FRAME takes its values only while no motion is active and the configuration is not locked (R65). -/
theorem configureFrameReply_motion (v : FrameUpdate) (s : State) : MotionCourse s (configureFrameReply v s).state := by
  unfold configureFrameReply
  simp only []
  split
  · exact .start
  next ranges =>
    split
    · exact .start
    split
    · exact .start
    next unlocked =>
      split
      · exact .start
      next still =>
        split
        · exact .start
        next fields =>
          exact MotionCourse.start.configures v (by simpa using still) (by simpa using unlocked) (by simpa using ranges)
            (by simpa using fields)

theorem holdTestReply_motion (s : State) : SameMotion s (holdTestReply s).state := by
  unfold holdTestReply
  split
  · exact .of_sameTest (holdTest_sameTest ..)
  · exact .rfl

theorem resumeTestReply_motion (s : State) : SameMotion s (resumeTestReply s).state := by
  unfold resumeTestReply
  split
  · exact .rfl
  split
  · exact .rfl
  · exact .of_sameTest (releaseTest_sameTest s)

theorem adjustRateReply_motion (whole : Bool) (rate : Int) (s : State) : SameMotion s (adjustRateReply whole rate s).state := by
  unfold adjustRateReply
  split
  · exact .rfl
  next d adjustable =>
    split
    · exact .rfl
    split
    · have inTest : s.tex.test ≠ none := by
        intro h
        simp [adjustableStage, h] at adjustable
      refine .of_sameTest (.of_inTest inTest ?_ ?_ ?_ ?_ ?_ ?_) <;> simp [testIsActive]
    · exact .rfl

theorem extensometerPlacedReply_motion (s : State) : SameMotion s (extensometerPlacedReply s).state := by
  have zeroed : SameTest s (beginActive (zeroAtRequest (stopPlacement s))) := by constructor <;> simp [testIsActive]
  have timer : (zeroAtRequest (stopPlacement s)).ldc.sampleInterval = s.ldc.sampleInterval := rfl
  unfold extensometerPlacedReply
  split
  · split
    · exact .of_sameTest (zeroed.trans (leavePlacing_sameTest _)) (timer := by simp [timer])
    split
    · exact .of_sameTest (setExtState_sameTest ..)
    · exact .rfl
  · split
    · exact .of_sameTest (setExtState_sameTest ..)
    · exact .rfl
  all_goals exact .rfl

theorem extensometerRemovedReply_motion (s : State) : SameMotion s (extensometerRemovedReply s).state := by
  have removed : SameTest s (unannouncedRemoval s) := by constructor <;> simp [testIsActive]
  have confirmed : SameMotion s (confirmRemoval s) := by
    refine .of_sameTest (confirmRemoval_sameTest s) ?_ ?_ ?_ ?_
    all_goals
      unfold confirmRemoval
      simp only []
      split <;> simp
  unfold extensometerRemovedReply
  split
  · exact confirmed
  · exact confirmed
  · exact .of_sameTest (setExtState_sameTest ..)
  · exact .of_sameTest removed
  · exact .rfl
  · exact .rfl

theorem ackFlagsReply_motion (p : Port) (w : BitVec 16) (s : State) : SameMotion s (ackFlagsReply p w s).state := by
  unfold ackFlagsReply
  split <;> constructor <;> simp

theorem setNoticesReply_motion (p : Port) (w : BitVec 16) (b : Byte) (s : State) : SameMotion s (setNoticesReply p w b s).state := by
  unfold setNoticesReply
  (repeat' split) <;> constructor <;> simp

theorem setRangeReply_motion (x : Int) (s : State) : SameMotion s (setRangeReply x s).state := by
  unfold setRangeReply
  (repeat' split) <;> constructor <;> simp

theorem tareReply_motion (s : State) : SameMotion s (tareReply s).state := by
  unfold tareReply
  (repeat' split) <;> constructor <;> simp

theorem definePlanReply_motion (x : Int) (g : PlanUpdate) (l : List StageDef) (s : State) :
    SameMotion s (definePlanReply x g l s).state := by
  unfold definePlanReply
  (repeat' split) <;> constructor <;> simp

theorem readPlanReply_motion (x : Int) (s : State) : SameMotion s (readPlanReply x s).state := by
  unfold readPlanReply
  (repeat' split) <;> constructor <;> simp

theorem specimenMountedReply_motion (id : Text) (w t d : Option Int) (s : State) :
    SameMotion s (specimenMountedReply id w t d s).state := by
  unfold specimenMountedReply
  (repeat' split) <;> constructor <;> simp

theorem specimenUnmountedReply_motion (s : State) : SameMotion s (specimenUnmountedReply s).state := by
  unfold specimenUnmountedReply
  (repeat' split) <;> constructor <;> simp

theorem enqueueSpecimenReply_motion (p : SpecimenParams) (s : State) : SameMotion s (enqueueSpecimenReply p s).state := by
  unfold enqueueSpecimenReply
  (repeat' split) <;> constructor <;> simp

theorem cancelSpecimenReply_motion (id : Text) (s : State) : SameMotion s (cancelSpecimenReply id s).state := by
  unfold cancelSpecimenReply
  (repeat' split) <;> constructor <;> simp

theorem setGradeLimitsReply_motion (g : Int) (l : Option GradeLimits) (s : State) :
    SameMotion s (setGradeLimitsReply g l s).state := by
  unfold setGradeLimitsReply
  (repeat' split) <;> constructor <;> simp

theorem readGradeLimitsReply_motion (g : Int) (s : State) : SameMotion s (readGradeLimitsReply g s).state := by
  unfold readGradeLimitsReply
  (repeat' split) <;> constructor <;> simp

theorem collectResultReply_motion (s : State) : SameMotion s (collectResultReply s).state := by
  unfold collectResultReply
  split <;> constructor <;> simp

theorem peekResultReply_motion (s : State) : SameMotion s (peekResultReply s).state := by
  unfold peekResultReply
  split <;> constructor <;> simp

theorem readPageReply_motion (s : State) : SameMotion s (readPageReply s).state := by
  unfold readPageReply
  split
  · exact .rfl
  · refine .of_sameTest ?_
    constructor <;> simp [testIsActive]

theorem writeSiteCalibrationReply_motion (x : CalSection) (n : Int) (l : List CalPoint) (s : State) :
    SameMotion s (writeSiteCalibrationReply x n l s).state := by
  unfold writeSiteCalibrationReply
  (repeat' split) <;> constructor <;> simp

/-! ### Every command but the resets -/

/-- The two resets (R18, R84). -/
def isReset : Instr → Bool
  | .powerOnReset | .warmReset => true
  | _ => false

theorem request_motion {k : RequestKind} {r : Req} {body : State → Reply} (hbody : MotionCourse s (body s).state)
    (h : request k r s body = .next t) : MotionCourse s t :=
  request_keeps (fun _ _ _ hu => hu.same (.of_sameTest (setPort_sameTest ..))) (fun _ => hbody) .start h

theorem request_sameMotion {k : RequestKind} {r : Req} {body : State → Reply} (hbody : SameMotion s (body s).state)
    (h : request k r s body = .next t) : MotionCourse s t :=
  request_motion (.same .start hbody) h

theorem next_motion {u : State} (h : MotionCourse s t) (e : (.next t : Result) = .next u) : MotionCourse s u := by
  cases e
  exact h

theorem setPort_motion (p : Port) (v : PortState) (s : State) : MotionCourse s (s.setPort p v) :=
  .same .start (.of_sameTest (setPort_sameTest ..))

theorem arrived_motion (code : Int) (s : State) : MotionCourse s (arrived code s) := by
  unfold arrived
  split
  next h => exact arrive_motion h
  next => exact .start

theorem setLimit_released (side : LimitSide) (s : State) : Released s (setLimit side false s.inputs) := by
  cases side <;> constructor <;> simp +contextual [setLimit]

theorem exec_motion {i : Instr} (hi : isReset i = false) (h : exec i s = .next t) : MotionCourse s t := by
  cases i with
  | readStatus r => exact request_sameMotion .rfl h
  | readLive r => exact request_sameMotion .rfl h
  | readFlags r => exact request_motion (setPort_motion ..) h
  | ackFlags r w => exact request_sameMotion (ackFlagsReply_motion ..) h
  | setNotices r w b => exact request_sameMotion (setNoticesReply_motion ..) h
  | readQueue r => exact request_sameMotion .rfl h
  | nop r => exact request_sameMotion .rfl h
  | configureFrame r u => exact request_motion (configureFrameReply_motion u s) h
  | setRange r x => exact request_sameMotion (setRangeReply_motion x s) h
  | tare r => exact request_sameMotion (tareReply_motion s) h
  | clearFaults r => exact request_sameMotion ⟨rfl, rfl, List.Subset.refl _, rfl, rfl, fun _ => id⟩ h
  | definePlan r x g l => exact request_sameMotion (definePlanReply_motion x g l s) h
  | readPlan r x => exact request_sameMotion (readPlanReply_motion x s) h
  | referenceSearch r => exact request_motion (motionReply_motion ..) h
  | startTest r => exact request_motion (motionReply_motion ..) h
  | holdTest r => exact request_sameMotion (holdTestReply_motion s) h
  | resumeTest r => exact request_sameMotion (resumeTestReply_motion s) h
  | abortTest r => exact request_motion (abortTestReply_motion s) h
  | adjustRate r x => exact request_sameMotion (adjustRateReply_motion _ x s) h
  | claimFrame r => exact request_sameMotion (claimFrameReply_motion r.port s) h
  | releaseFrame r => exact request_motion (releaseFrameReply_motion r.port s) h
  | moveTo r x v => exact request_motion (motionReply_motion ..) h
  | stopMotion r => exact request_motion (stopMotionReply_motion r.port s) h
  | collectCompletion r => exact request_sameMotion (collectCompletionReply_motion r.port s) h
  | jog r d v n => exact request_motion (jogReply_motion ..) h
  | retract r => exact request_motion (motionReply_motion ..) h
  | extensometerPlaced r => exact request_sameMotion (extensometerPlacedReply_motion s) h
  | extensometerRemoved r => exact request_sameMotion (extensometerRemovedReply_motion s) h
  | setGradeLimits r g l => exact request_sameMotion (setGradeLimitsReply_motion g l s) h
  | readGradeLimits r g => exact request_sameMotion (readGradeLimitsReply_motion g s) h
  | collectResult r => exact request_sameMotion (collectResultReply_motion s) h
  | peekResult r => exact request_sameMotion (peekResultReply_motion s) h
  | readPage r => exact request_sameMotion (readPageReply_motion s) h
  | writeSiteCalibration r x n l => exact request_sameMotion (writeSiteCalibrationReply_motion x n l s) h
  | readCalibration r => exact request_sameMotion .rfl h
  | unknownRequest p tag k => exact next_motion (setPort_motion ..) h
  | writeNotTaken p b => exact next_motion (.ite (setPort_motion ..) .start) h
  | readTransaction p n => exact next_motion (setPort_motion ..) h
  | sampleTimerExpiry => exact next_motion (expire_motion s) h
  | loadFaultDeclaration => exact next_motion (.ite (expire_motion s) .start) h
  | placementTimeout => exact next_motion (.ite (expire_motion s) .start) h
  | removalTimeout => exact next_motion (.ite (expire_motion s) .start) h
  | conversionEndStrobe =>
    have strobed : ∀ c, SameMotion s { s with ldc := { s.ldc with conversion := c } } :=
      fun _ => .of_sameTest (.of_otherParts rfl)
    simp only [exec, execConversionEndStrobe] at h
    split at h
    · exact next_motion (.same .start (strobed _)) h
    · exact next_motion .start h
  | sampleArrival code => exact next_motion (arrived_motion code s) h
  | stageTimeout code =>
    simp only [exec, execStageTimeout] at h
    split at h
    next arriving => exact next_motion (.ite (arrive_motion arriving) .start) h
    next => exact next_motion .start h
  | endOfTail code =>
    simp only [exec, execEndOfTail] at h
    split at h
    next arriving => exact next_motion (.ite (arrive_motion arriving) .start) h
    next => exact next_motion .start h
  | brakeReleaseExpiry => exact next_motion (brakeReleased_motion s) h
  | holdTimerExpiry =>
    simp only [exec, execHoldTimerExpiry] at h
    split at h
    next holding => exact next_motion (MotionCourse.start.moves (.holdEnds holding)) h
    next => exact next_motion .start h
  | jogDurationExpiry =>
    exact next_motion (.ite (activateAfterEnd_motion s (endMotion_motion .done .start)) .start) h
  | activation => exact next_motion (tryActivate_motion .start) h
  | encoderEdge d => exact next_motion (edge_motion d s) h
  | searchTravelLimit d => exact next_motion (.ite (edge_motion d s) .start) h
  | extQuadratureEdge d =>
    have counted : SameMotion s { s with exc := { s.exc with count := s.exc.count + countStep d } } :=
      .of_sameTest (.of_otherParts rfl)
    exact next_motion (.same .start counted) h
  | referenceSwitchEvent => exact next_motion (referenceSwitchOn_motion s) h
  | referenceSwitchRelease => exact next_motion (referenceSwitchOff_motion s) h
  | hardLimitSwitchEvent side => exact next_motion (hardLimitOn_motion side s) h
  | hardLimitSwitchRelease side => exact next_motion (.switches _ .start (setLimit_released side s)) h
  | gateOpening => exact next_motion (gateOpens_motion s) h
  | gateClosing => exact next_motion (gateCloses_motion s) h
  | emergencyStopAssertion => exact next_motion (emergencyStops_motion s) h
  | emergencyStopRelease => exact next_motion (.switches { s.inputs with estop := false } .start ⟨by simp, id, id, .inl⟩) h
  | calProgrammingCompletion l => exact next_motion (.same .start (completeProgramming_motion l s)) h
  | enqueueSpecimen r p => exact request_sameMotion (enqueueSpecimenReply_motion p s) h
  | cancelSpecimen r x => exact request_sameMotion (cancelSpecimenReply_motion x s) h
  | specimenMounted r x w t d => exact request_sameMotion (specimenMountedReply_motion x w t d s) h
  | specimenUnmounted r => exact request_sameMotion (specimenUnmountedReply_motion s) h
  | powerOnReset => cases hi
  | warmReset => cases hi

/-- What holds at the end of every course and of a reset holds after a step. -/
theorem step_reaches {P Q : State → Prop} (taken : ∀ {s t}, SameMotion s t → SameTest s t → P s → P t) (still : ∀ {s}, P s → Q s)
    (course : ∀ {s t}, MotionCourse s t → P s → Q t) (power : ∀ s, Q (poweredOn s)) (warm : ∀ {s}, P s → Q (warmed s))
    (hs : P s) (h : step s = .next t) : Q t := by
  unfold step at h
  split at h
  · cases h
    exact still hs
  next i l _ =>
    have taken : P (s.withPending l) := taken (.of_sameTest (.of_otherParts rfl) rfl rfl rfl rfl) (.of_otherParts rfl) hs
    cases i with
    | powerOnReset =>
      cases h
      exact power _
    | warmReset =>
      cases h
      exact warm taken
    | _ => exact course (exec_motion rfl h) taken

end Sys2Proof.Machine

end

section

/-! PROOF. A course of the motion keeps the frame configuration, the position, the drive, the word and the emergency stop sound (R64 to
R70, R79, R83). -/

namespace Sys2Proof.Machine

variable {s t : State}

/-! ### What the ends, the starts and the moves leave of the crosshead controller -/

@[simp] theorem heldDrive_config (x : Crosshead) : (heldDrive x).config = x.config := by
  unfold heldDrive
  split <;> rfl

@[simp] theorem heldDrive_position (x : Crosshead) : (heldDrive x).position = x.position := by
  unfold heldDrive
  split <;> rfl

@[simp] theorem heldDrive_locked (x : Crosshead) : (heldDrive x).locked = x.locked := by
  unfold heldDrive
  split <;> rfl

@[simp] theorem heldDrive_referenceValid (x : Crosshead) : (heldDrive x).referenceValid = x.referenceValid := by
  unfold heldDrive
  split <;> rfl

@[simp] theorem heldDrive_word (x : Crosshead) : (heldDrive x).word = 0 := by
  unfold heldDrive
  split <;> rfl

@[simp] theorem enteredDrive_config (x : Crosshead) : (enteredDrive x).config = x.config := by
  unfold enteredDrive
  split <;> rfl

@[simp] theorem enteredDrive_position (x : Crosshead) : (enteredDrive x).position = x.position := by
  unfold enteredDrive
  split <;> rfl

@[simp] theorem enteredDrive_locked (x : Crosshead) : (enteredDrive x).locked = x.locked := by
  unfold enteredDrive
  split <;> rfl

@[simp] theorem enteredDrive_referenceValid (x : Crosshead) : (enteredDrive x).referenceValid = x.referenceValid := by
  unfold enteredDrive
  split <;> rfl

@[simp] theorem enteredDrive_word (x : Crosshead) : (enteredDrive x).word = x.word := by
  unfold enteredDrive
  split <;> rfl

theorem CrossheadMove.config {x : Crosshead} (h : CrossheadMove s x) : x.config = s.xhc.config := by
  cases h <;> rfl

/-! ### The frame configuration (R64, R65) -/

theorem ConfigSound.of_eq (h : ConfigSound s) (config : t.xhc.config = s.xhc.config)
    (timer : t.ldc.sampleInterval = s.ldc.sampleInterval) : ConfigSound t := by
  cases h
  constructor <;> simp only [config, timer] <;> assumption

/-- A value of its range replaces one of its range. -/
theorem within_getD {low high : Int} {o : Option Int} {x : Int} (named : optAll o (within low high) = true)
    (present : low ≤ x ∧ x ≤ high) : low ≤ o.getD x ∧ o.getD x ≤ high := by
  cases o with
  | none => exact present
  | some y => simpa [optAll, within] using named

theorem configured_sound {v : FrameUpdate} (h : ConfigSound t) (ranges : FrameUpdate.inRange v = true)
    (fields : crossFieldsHold t.cal.fullScale3 (FrameUpdate.applyTo v t.xhc.config) = true) :
    ConfigSound (setConfig (FrameUpdate.applyTo v t.xhc.config) t) := by
  simp only [FrameUpdate.inRange, Bool.and_eq_true] at ranges
  simp only [crossFieldsHold, Bool.and_eq_true, decide_eq_true_eq] at fields
  obtain ⟨⟨⟨⟨⟨⟨⟨⟨⟨⟨⟨⟨⟨interval, fcap⟩, lower⟩, upper⟩, reference⟩, rate⟩, limit⟩, vmax⟩, jog⟩, creep⟩, approach⟩, band⟩, hold⟩,
    brake⟩ := ranges
  obtain ⟨⟨⟨⟨ordered, jogged⟩, low⟩, high⟩, -⟩ := fields
  have jogBounds := within_getD jog ⟨h.jogLimit.1, h.jogLimit.2.1⟩
  constructor
  case interval =>
    have named : ∀ x ∈ v.sampleInterval, x = 250 ∨ x = 500 ∨ x = 1000 ∨ x = 2000 ∨ x = 4000 := by
      simpa [optAll_eq_true, or_assoc] using interval
    have taken : (setConfig (FrameUpdate.applyTo v t.xhc.config) t).xhc.config.sampleInterval =
      v.sampleInterval.getD t.xhc.config.sampleInterval := rfl
    rw [taken]
    cases chosen : v.sampleInterval with
    | none => exact h.interval
    | some y => exact named y chosen
  case timer => rfl
  case fcap => exact within_getD fcap h.fcap
  case lower => exact ⟨(within_getD lower ⟨h.lower.1, by have := h.lower.2; have := h.upper; omega⟩).1, ordered⟩
  case upper => exact (within_getD upper ⟨by have := h.lower; omega, h.upper⟩).2
  case referencePosition => exact within_getD reference h.referencePosition
  case searchRate => exact within_getD rate h.searchRate
  case searchLimit => exact within_getD limit h.searchLimit
  case vmax => exact (within_getD vmax ⟨by have := h.jogLimit; omega, h.vmax⟩).2
  case jogLimit => exact ⟨jogBounds.1, jogBounds.2, jogged⟩
  case creepRate => exact within_getD creep h.creepRate
  case approach => exact within_getD approach h.approach
  case band => exact within_getD band h.band
  case holdTime => exact within_getD hold h.holdTime
  case brakeTime => exact within_getD brake h.brakeTime
  case retract => exact ⟨low, high⟩

theorem ConfigSound.jogLimit_nonneg (h : ConfigSound s) : 0 ≤ s.xhc.config.jogLimit := by
  have := h.jogLimit
  omega

theorem MotionCourse.configSound (h : MotionCourse s t) (hs : ConfigSound s) : ConfigSound t := by
  induction h with
  | start => exact hs
  | same _ kept ih => exact ih.of_eq (by rw [kept.crosshead]) kept.timer
  | moves _ move ih => exact ih.of_eq move.config rfl
  | ends => rename_i ih; exact ih.of_eq (heldDrive_config _) rfl
  | starts => rename_i ih; exact ih.of_eq (enteredDrive_config _) rfl
  | queues | switches | disables => rename_i ih; exact ih.of_eq rfl rfl
  | configures v _ _ _ ranges fields ih => exact configured_sound ih ranges fields

/-! ### The position (R66, R67) -/

theorem PositionSound.of_eq (h : PositionSound s) (position : t.xhc.position = s.xhc.position)
    (reference : t.xhc.referenceValid = s.xhc.referenceValid) (locked : t.xhc.locked = s.xhc.locked) : PositionSound t := by
  obtain ⟨bound, kept⟩ := h
  exact ⟨by rwa [position], by rwa [reference, locked]⟩

theorem MotionCourse.positionSound (h : MotionCourse s t) (config : ConfigSound s) (hs : PositionSound s) : PositionSound t := by
  induction h with
  | start => exact hs
  | same _ kept ih => exact ih.of_eq (by rw [kept.crosshead]) (by rw [kept.crosshead]) (by rw [kept.crosshead])
  | @moves u x course move ih =>
    cases move with
    | unreferenced n => exact ⟨ih.bound, fun h => by simp at h⟩
    | referenced =>
      have range := (course.configSound config).referencePosition
      exact ⟨⟨by show _ ≤ u.xhc.config.referencePosition; omega, by show u.xhc.config.referencePosition ≤ _; omega⟩, fun _ => rfl⟩
    | counts p n w bound => exact ⟨bound, ih.locked⟩
    | sends | holdEnds | brakeReleased | jogStarts => exact ih.of_eq rfl rfl rfl
  | ends => rename_i ih; exact ih.of_eq (heldDrive_position _) (heldDrive_referenceValid _) (heldDrive_locked _)
  | starts => rename_i ih; exact ih.of_eq (enteredDrive_position _) (enteredDrive_referenceValid _) (enteredDrive_locked _)
  | queues | switches | disables | configures => rename_i ih; exact ih.of_eq rfl rfl rfl

/-! ### The drive (R68, R69) -/

theorem DriveSound.still (h : DriveSound s) (rest : s.mar.active = none) : s.xhc.drive = .disabled ∨ s.xhc.drive = .holding := by
  have active := h.active
  cases drive : s.xhc.drive <;> simp_all

theorem DriveSound.stopped (h : DriveSound s) (rest : s.mar.active = none) : s.xhc.word = 0 := by
  by_contra word
  have moving := h.word word
  rcases h.still rest with drive | drive <;> simp [drive] at moving

theorem DriveSound.of_same (h : DriveSound s) (same : SameMotion s t) : DriveSound t := by
  have active : t.mar.active.isSome = s.mar.active.isSome := by
    simpa using congrArg Option.isSome same.ports
  cases h
  constructor <;> simp only [same.crosshead, active] <;> assumption

/-- A disabled drive without a motion, its timers stopped (R69). -/
theorem DriveSound.of_disabled (rest : s.mar.active = none) (drive : s.xhc.drive = .disabled) (brake : s.xhc.brakeTimer = none)
    (hold : s.xhc.holdTimer = none) (jog : s.xhc.jogTimer = none) (word : s.xhc.word = 0) : DriveSound s := by
  constructor <;> simp [rest, drive, brake, hold, jog, word]

/-- No word but 0 is formed at rest (R70). -/
theorem formWord_zero (jog : 0 ≤ s.xhc.config.jogLimit) : formWord s 0 = 0 := by
  have clamped : clampTo (-(s.xhc.config.jogLimit * 1000)) (s.xhc.config.jogLimit * 1000) 0 = 0 := by
    unfold clampTo
    split
    · omega
    · split <;> omega
  simp [formWord, clamped]

theorem sent_moving (jog : 0 ≤ s.xhc.config.jogLimit) {w : Int} (formed : w = 0 ∨ w = formWord s (baseValue s)) (word : w ≠ 0) :
    s.xhc.drive = .moving := by
  by_contra still
  have base : baseValue s = 0 := by
    unfold baseValue
    split <;> simp_all
  rw [base, formWord_zero jog, or_self] at formed
  exact word formed

theorem CrossheadMove.driveSound {x : Crosshead} (move : CrossheadMove s x) (config : ConfigSound s) (h : DriveSound s) :
    DriveSound { s with xhc := x } := by
  have word := h.word
  have jog := h.jog
  obtain ⟨active, brake, hold, -, -⟩ := h
  cases move with
  | sends w formed => exact ⟨active, brake, hold, jog, sent_moving config.jogLimit_nonneg formed⟩
  | holdEnds holding | brakeReleased holding =>
    rw [holding] at active brake hold jog word
    constructor <;> simp_all <;> rfl
  | jogStarts n moving => exact ⟨active, brake, hold, fun _ => moving, word⟩
  | unreferenced => exact ⟨active, brake, hold, jog, word⟩
  | referenced => exact ⟨active, brake, hold, jog, fun h => absurd rfl h⟩
  | counts p n w bound away =>
    refine ⟨active, brake, hold, jog, fun nonzero => ?_⟩
    rcases away with zero | ⟨same, -⟩
    · exact absurd zero nonzero
    · exact word (same ▸ nonzero)

theorem heldDrive_sound {m : Arbiter} (rest : m.active = none) (s : State) :
    DriveSound { s with xhc := heldDrive s.xhc, mar := m } := by
  unfold heldDrive
  split <;> constructor <;> simp [rest, disabledDrive, holdingDrive]

theorem enteredDrive_sound (a : ActiveMotion) (h : DriveSound s) :
    DriveSound { s with xhc := enteredDrive s.xhc, mar := { s.mar with active := some a } } := by
  obtain ⟨active, brake, hold, jog, word⟩ := h
  unfold enteredDrive
  split <;> constructor <;> simp_all [releasingDrive]

theorem MotionCourse.driveSound (h : MotionCourse s t) (one : OneTest s) (config : ConfigSound s) (hs : DriveSound s) :
    DriveSound t := by
  induction h with
  | start => exact hs
  | same _ kept ih => exact ih.of_same kept
  | moves course move ih => exact move.driveSound (course.configSound config) ih
  | ends => exact heldDrive_sound rfl _
  | starts a _ _ _ ih => exact enteredDrive_sound a ih
  | disables i m x _ gone => exact .of_disabled (gone one).1 rfl rfl rfl rfl rfl
  | queues | switches | configures =>
    rename_i ih
    obtain ⟨active, brake, hold, jog, word⟩ := ih
    exact ⟨active, brake, hold, jog, word⟩

/-! ### The emergency stop (R83) -/

theorem formWord_estop (h : s.inputs.estop = true) (v : Int) : formWord s v = 0 := by
  simp [formWord, forcedZero, h]

theorem MotionCourse.estopHolds (h : MotionCourse s t) (one : OneTest s) (hs : EstopHolds s) : EstopHolds t := by
  induction h with
  | start => exact hs
  | same _ kept ih =>
    intro estop
    obtain ⟨drive, rest, queue, test, word⟩ := ih (by rwa [← kept.inputs])
    refine ⟨by rwa [kept.crosshead], kept.active_iff.2 rest, ?_, kept.idle rest test, by rwa [kept.crosshead]⟩
    exact List.subset_nil.1 (queue ▸ kept.queue)
  | moves _ move ih =>
    intro estop
    obtain ⟨drive, rest, queue, test, word⟩ := ih estop
    cases move with
    | sends w formed =>
      refine ⟨drive, rest, queue, test, ?_⟩
      rcases formed with zero | formed
      · exact zero
      · exact formed.trans (formWord_estop estop _)
    | holdEnds moving | brakeReleased moving | jogStarts _ moving => simp [drive] at moving
    | unreferenced => exact ⟨drive, rest, queue, test, word⟩
    | referenced => exact ⟨drive, rest, queue, test, rfl⟩
    | counts p n w bound away =>
      refine ⟨drive, rest, queue, test, ?_⟩
      rcases away with zero | ⟨same, -⟩
      · exact zero
      · exact same.trans word
  | ends _ pending ih =>
    intro estop
    obtain ⟨-, rest, -, test, -⟩ := ih estop
    simp [rest, test] at pending
  | starts a _ _ pending ih =>
    intro estop
    obtain ⟨-, rest, queue, -, -⟩ := ih estop
    simp [rest, queue] at pending
  | queues q _ released => exact fun estop => absurd estop (by simp [released])
  | switches i _ release ih => exact fun estop => ih (release.estop estop)
  | disables i m x _ gone subset kept ih =>
    intro estop
    obtain ⟨rest, idle⟩ := gone one
    refine ⟨rfl, rest, ?_, idle, rfl⟩
    rcases kept with same | emptied
    · obtain ⟨-, -, queue, -, -⟩ := ih (same ▸ estop)
      exact List.subset_nil.1 (queue ▸ subset)
    · exact emptied
  | configures => rename_i ih; exact ih

/-! ### The word (R70, R79, R81, R82) -/

theorem WordAllowed.of_zero (word : s.xhc.word = 0) : WordAllowed s := by
  constructor <;> simp [word]

theorem WordAllowed.of_eq (h : WordAllowed s) (word : t.xhc.word = s.xhc.word) (config : t.xhc.config = s.xhc.config)
    (position : t.xhc.position = s.xhc.position) (reference : t.xhc.referenceValid = s.xhc.referenceValid)
    (inputs : t.inputs = s.inputs) (cell : s.inputs.gateOpen = true → s.xhc.word ≠ 0 → cellMotion s = true → cellMotion t = true) :
    WordAllowed t := by
  obtain ⟨gate, upperSwitch, lowerSwitch, upperSoft, lowerSoft⟩ := h
  constructor <;> simp only [word, config, position, reference, inputs] <;> try assumption
  intro opened
  by_cases zero : s.xhc.word = 0
  · exact .inl zero
  · obtain ⟨moved, clamped⟩ := (gate opened).resolve_left zero
    exact .inr ⟨cell opened zero moved, clamped⟩

theorem cellMotion_of_ports (same : t.mar.active.map ActiveMotion.port = s.mar.active.map ActiveMotion.port) :
    cellMotion t = cellMotion s := by
  have byPort (u : State) : cellMotion u = (u.mar.active.map ActiveMotion.port == some .cell) := by
    unfold cellMotion
    cases u.mar.active <;> rfl
  rw [byPort, byPort, same]

theorem towardSoftLimit_eq_false {x : Crosshead} {v : Int} (h : towardSoftLimit x v = false) :
    (x.referenceValid = true → x.config.upperSoft ≤ x.position → v ≤ 0) ∧
      (x.referenceValid = true → x.position ≤ x.config.lowerSoft → 0 ≤ v) := by
  constructor <;>
  · intro valid reached
    by_contra toward
    simp [towardSoftLimit, valid] at h
    omega

theorem towardHardLimit_eq_false {i : Inputs} {v : Int} (h : towardHardLimit i v = false) :
    (i.upperLimit = true → v ≤ 0) ∧ (i.lowerLimit = true → 0 ≤ v) := by
  constructor <;>
  · intro active
    by_contra toward
    simp [towardHardLimit, active] at h
    omega

/-- A clamped value keeps its sign (R70). -/
theorem clampTo_toward {b : Int} (bound : 0 ≤ b) (v : Int) :
    ((clampTo (-b) b v).natAbs : Int) ≤ b ∧ (0 ≤ v → 0 ≤ clampTo (-b) b v) ∧ (v ≤ 0 → clampTo (-b) b v ≤ 0) := by
  unfold clampTo
  split
  · omega
  · split <;> omega

/-- A word that R70 forms is one it allows. -/
theorem formWord_allowed (jog : 0 ≤ s.xhc.config.jogLimit) (v : Int) : WordAllowed (sendWordValue (formWord s v) s) := by
  unfold formWord
  split
  · exact .of_zero rfl
  next free =>
    simp only [forcedZero, Bool.not_eq_true, Bool.or_eq_false_iff] at free
    obtain ⟨⟨⟨-, hard⟩, soft⟩, gate⟩ := free
    obtain ⟨upper, lower⟩ := towardSoftLimit_eq_false soft
    obtain ⟨upperSwitch, lowerSwitch⟩ := towardHardLimit_eq_false hard
    split
    next opened =>
      have cell : cellMotion s = true := by simpa [opened] using gate
      have clamped := clampTo_toward (show 0 ≤ s.xhc.config.jogLimit * 1000 by omega) v
      obtain ⟨bound, positive, negative⟩ := clamped
      exact ⟨fun _ => .inr ⟨cell, bound⟩, fun h => negative (upperSwitch h), fun h => positive (lowerSwitch h),
        fun valid h => negative (upper valid h), fun valid h => positive (lower valid h)⟩
    next closed => exact ⟨fun opened => absurd opened closed, upperSwitch, lowerSwitch, upper, lower⟩

theorem CrossheadMove.wordAllowed {x : Crosshead} (move : CrossheadMove s x) (config : ConfigSound s)
    (h : WordAllowed s) : WordAllowed { s with xhc := x } := by
  cases move with
  | sends w formed =>
    rcases formed with rfl | rfl
    · exact .of_zero rfl
    · exact formWord_allowed config.jogLimit_nonneg _
  | holdEnds | brakeReleased | jogStarts => exact h.of_eq rfl rfl rfl rfl rfl fun _ _ => id
  | unreferenced n => exact ⟨h.gate, h.upperSwitch, h.lowerSwitch, fun h => by simp at h, fun h => by simp at h⟩
  | referenced => exact .of_zero rfl
  | counts p n w bound away =>
    rcases away with rfl | ⟨rfl, away⟩
    · exact .of_zero rfl
    · obtain ⟨upper, lower⟩ := towardSoftLimit_eq_false away
      exact ⟨h.gate, h.upperSwitch, h.lowerSwitch, upper, lower⟩

theorem MotionCourse.wordAllowed (h : MotionCourse s t) (one : OneTest s) (config : ConfigSound s) (drive : DriveSound s)
    (hs : WordAllowed s) : WordAllowed t := by
  induction h with
  | start => exact hs
  | same _ kept ih =>
    exact ih.of_eq (by rw [kept.crosshead]) (by rw [kept.crosshead]) (by rw [kept.crosshead]) (by rw [kept.crosshead]) kept.inputs
      fun _ _ => by rw [cellMotion_of_ports kept.ports]; exact id
  | moves course move ih => exact move.wordAllowed (course.configSound config) ih
  | ends => exact .of_zero (heldDrive_word _)
  | @starts u a course preempts _ ih =>
    refine ih.of_eq (enteredDrive_word _) (enteredDrive_config _) (enteredDrive_position _) (enteredDrive_referenceValid _) rfl
      fun _ word cell => ?_
    cases active : u.mar.active with
    | none => exact absurd ((course.driveSound one config drive).stopped active) word
    | some b => simp [cellMotion, active, preempts b active] at cell
  | queues => rename_i ih; exact ih.of_eq rfl rfl rfl rfl rfl fun _ _ => id
  | switches i _ release ih =>
    refine ⟨fun opened => ?_, fun h => ih.upperSwitch (release.upper h), fun h => ih.lowerSwitch (release.lower h), ih.upperSoft,
      ih.lowerSoft⟩
    rcases release.gate opened with still | zero
    · exact ih.gate still
    · exact .inl zero
  | disables => exact .of_zero rfl
  | configures v course rest => exact .of_zero ((course.driveSound one config drive).stopped rest)

/-! ### The resets (R18, R84) -/

theorem poweredOn_config (s : State) : ConfigSound (poweredOn s) :=
  reset_configSound.of_eq rfl rfl

theorem warmed_config (h : ConfigSound s) : ConfigSound (warmed s) := by
  have timer := h.timer
  refine h.of_eq rfl ?_
  rw [timer]
  rfl

theorem poweredOn_drive (s : State) : DriveSound (poweredOn s) :=
  .of_disabled rfl rfl rfl rfl rfl rfl

theorem warmed_drive (s : State) : DriveSound (warmed s) :=
  .of_disabled rfl rfl rfl rfl rfl rfl

end Sys2Proof.Machine

open Sys2Proof Sys2Proof.Machine

/-- Settles O52: of the moves of which a course of the motion is made, only a CONFIGURE FRAME that passed its checks changes the
configuration, and only a found reference and an edge within the bound change the position. -/
theorem frameAndPositionKeptByEveryStep : Obligations.FrameAndPositionKeptByEveryStep := by
  unfold Obligations.FrameAndPositionKeptByEveryStep
  intro s t config position h
  have course {s t} (course : MotionCourse s t) (hs : ConfigSound s ∧ PositionSound s) : ConfigSound t ∧ PositionSound t :=
    ⟨course.configSound hs.1, course.positionSound hs.1 hs.2⟩
  refine step_reaches (fun same _ => course (.same .start same)) id course (fun s => ?_) (fun ⟨config, position⟩ => ?_)
    ⟨config, position⟩ h
  · exact ⟨poweredOn_config s, reset_positionSound.of_eq rfl rfl rfl⟩
  · exact ⟨warmed_config config, position.bound, fun valid => by cases valid⟩

/-- Settles O49: a motion that starts enters the drive, one that ends leaves it, and its timers and its word come and go with its
states; the hard limit and the emergency stop disable it once both the motion and the test have ended. -/
theorem driveKeptByEveryStep : Obligations.DriveKeptByEveryStep := by
  unfold Obligations.DriveKeptByEveryStep
  intro s t one config drive h
  refine step_reaches (P := fun s => OneTest s ∧ ConfigSound s ∧ DriveSound s)
    (fun same test ⟨one, config, drive⟩ => ?_) (fun ⟨_, _, drive⟩ => drive)
    (fun course ⟨one, config, drive⟩ => course.driveSound one config drive) poweredOn_drive (fun _ => warmed_drive _)
    ⟨one, config, drive⟩ h
  exact ⟨(TestCourse.of_same test).oneTest one, (MotionCourse.start.same same).configSound config, drive.of_same same⟩

/-- Settles O50: a word is formed within what is allowed (`formWord_allowed`), an edge stops one that points at the limit it reaches,
and a line that would forbid a word stops it before it is taken for granted (`Released`). -/
theorem wordKeptByEveryStep : Obligations.WordKeptByEveryStep := by
  unfold Obligations.WordKeptByEveryStep
  intro s t one config drive word h
  refine step_reaches (P := fun s => OneTest s ∧ ConfigSound s ∧ DriveSound s ∧ WordAllowed s)
    (fun same test ⟨one, config, drive, word⟩ => ?_) (fun ⟨_, _, _, word⟩ => word)
    (fun course ⟨one, config, drive, word⟩ => course.wordAllowed one config drive word) (fun _ => .of_zero rfl)
    (fun _ => .of_zero rfl) ⟨one, config, drive, word⟩ h
  have course := MotionCourse.start.same same
  exact ⟨(TestCourse.of_same test).oneTest one, course.configSound config, drive.of_same same,
    course.wordAllowed one config drive word⟩

/-- Settles O51: while the emergency stop is asserted nothing is active or queued, so that of the moves of a course only those remain
that start nothing: no request joins the queue, and no word but 0 is formed. -/
theorem emergencyStopKeptByEveryStep : Obligations.EmergencyStopKeptByEveryStep := by
  unfold Obligations.EmergencyStopKeptByEveryStep
  intro s t one holds h
  refine step_reaches (P := fun s => OneTest s ∧ EstopHolds s)
    (fun same test ⟨one, holds⟩ => ?_) (fun ⟨_, holds⟩ => holds) (fun course ⟨one, holds⟩ => course.estopHolds one holds)
    (fun _ _ => ⟨rfl, rfl, rfl, rfl, rfl⟩) (fun _ _ => ⟨rfl, rfl, rfl, rfl, rfl⟩) ⟨one, holds⟩ h
  exact ⟨(TestCourse.of_same test).oneTest one, (MotionCourse.start.same same).estopHolds one holds⟩

end

section

/-! PROOF. CONFIGURE FRAME, answered (R64, R65). -/

namespace Sys2Proof.Machine

variable {u : FrameUpdate} {s : State}

theorem crossFieldsHold_iff (fullScale3 : Int) (c : FrameConfig) :
    crossFieldsHold fullScale3 c = true ↔ c.lowerSoft < c.upperSoft ∧ c.jogLimit ≤ c.vmax ∧ c.lowerSoft ≤ c.retractPosition ∧
      c.retractPosition ≤ c.upperSoft ∧ fullScale3 < c.fcap := by
  simp [crossFieldsHold, and_assoc]

/-- A CONFIGURE FRAME that names values in their ranges meets the lock, the active motion and the conditions across fields, in this
order. -/
theorem configureFrameReply_named (ranges : FrameUpdate.inRange u = true) (named : FrameUpdate.namesNone u = false) :
    configureFrameReply u s =
      if s.xhc.locked then .plain s .isLocked
      else if s.mar.active.isSome then .plain s .wrongState
      else if crossFieldsHold s.cal.fullScale3 (FrameUpdate.applyTo u s.xhc.config) then
        { state := setConfig (FrameUpdate.applyTo u s.xhc.config) s, outcome := .ok,
          payload := .config (FrameUpdate.applyTo u s.xhc.config) }
      else .plain s .badParameter := by
  cases fields : crossFieldsHold s.cal.fullScale3 (FrameUpdate.applyTo u s.xhc.config) <;>
    simp [configureFrameReply, ranges, named, fields]

end Sys2Proof.Machine

open Sys2Proof Sys2Proof.Machine

/-- Settles O11, by the checks of R65 in their order (`configureFrameReply_named`). -/
theorem frameConfigured : Obligations.FrameConfigured := by
  unfold Obligations.FrameConfigured
  intro r u s form port
  have allowed : permitted .configureFrame r.port = true := by rw [port]; rfl
  refine ⟨fun ranges => ?_, fun ranges none => ?_, fun ranges named => ⟨fun locked => ?_, fun unlocked moving => ?_,
    fun unlocked still c taken => ⟨fun fields => ?_, fun fields => ?_⟩⟩⟩
  all_goals refine request_answered allowed form ?_
  · simp [configureFrameReply, ranges, Reply.plain]
  · simp [configureFrameReply, ranges, none]
  · simp [configureFrameReply_named ranges named, locked, Reply.plain]
  · simp [configureFrameReply_named ranges named, unlocked, isSome_of_ne_none moving, Reply.plain]
  · rw [← crossFieldsHold_iff, taken] at fields
    simp [configureFrameReply_named ranges named, unlocked, still, fields, taken, setConfig]
  · rw [← crossFieldsHold_iff, taken] at fields
    simp [configureFrameReply_named ranges named, unlocked, still, fields, Reply.plain]

end

section

/-! PROOF. The drive's timers and the reference switch (R69, R71, R72, R77), and STOP MOTION and COLLECT COMPLETION (R96, R99). -/

namespace Sys2Proof.Machine

variable {s : State} {a : ActiveMotion}

/-! ### The end of a motion with nothing queued (R69, R94, R98) -/

/-- The end of a motion other than a test with nothing queued, on a crosshead controller changed before it. -/
theorem activateAfterEnd_endMotion (b : State) (o : MotionOutcome) (active : s.mar.active = some a) (other : a.job ≠ .test)
    (queue : s.mar.queue = []) (hold : s.xhc.config.holdTime ≠ 0) :
    activateAfterEnd b (endMotion o s) =
      raise a.port .motionDone
        { s with
          mar := { s.mar with active := none }.setSlot a.port (some (ended (activeKind a.job) a.tag o s)),
          xhc := holdingDrive s.xhc } := by
  rw [activateAfterEnd_of_queue _ ((endMotion_queue o s).trans queue), endMotion_eq o active other hold]

/-- The completion of a motion reads the reference and the position only (R98). -/
theorem ended_of_position {u : State} (k : MotionKind) (tag : Tag) (o : MotionOutcome)
    (valid : u.xhc.referenceValid = s.xhc.referenceValid) (position : u.xhc.position = s.xhc.position) :
    ended k tag o u = ended k tag o s := by
  simp [ended, valid, position]

/-- A job that replaces the active motion's. -/
theorem setJob_eq (j : ActiveJob) (active : s.mar.active = some a) :
    setJob j s = { s with mar := { s.mar with active := some { a with job := j } } } := by
  simp [setJob, active]

theorem permitted_of_motionPort {p : Port} (h : p ≠ .record) :
    permitted .moveTo p = true ∧ permitted .stopMotion p = true ∧ permitted .collectCompletion p = true := by
  cases p <;> simp_all [permitted]

/-! ### The motion's own work begins (R69, R71, R77) -/

theorem beginMotion_other (active : s.mar.active = some a) (search : ∀ ph, a.job ≠ .search ph)
    (jog : ∀ d v n, a.job ≠ .jog d v n) : beginMotion s = s := by
  obtain ⟨port, tag, j⟩ := a
  simp only [beginMotion, active]
  cases j with
  | search ph => exact absurd rfl (search ph)
  | jog d v n => exact absurd rfl (jog d v n)
  | _ => rfl

theorem beginMotion_search {ph : SearchPhase} (active : s.mar.active = some a) (search : a.job = .search ph) :
    beginMotion s = setJob (.search (if s.inputs.referenceSwitch then .upward else .downward)) s := by
  obtain ⟨port, tag, j⟩ := a
  obtain rfl : j = .search ph := search
  simp only [beginMotion, active]

theorem beginMotion_jog {d : Direction} {v n : Int} (active : s.mar.active = some a) (jog : a.job = .jog d v n) :
    beginMotion s =
      if atSoftLimit s.xhc d then endMotion .stoppedLimit s else { s with xhc := { s.xhc with jogTimer := some n } } := by
  obtain ⟨port, tag, j⟩ := a
  obtain rfl : j = .jog d v n := jog
  simp only [beginMotion, active]

theorem brakeReleaseExpiry_next {u : State} (hu : u = { s with xhc := { s.xhc with drive := .moving, brakeTimer := none } })
    (releasing : s.xhc.drive = .releasing) : exec .brakeReleaseExpiry s = .next (activateAfterEnd s (beginMotion u)) := by
  simp [exec, execBrakeReleaseExpiry, brakeReleased, releasing, hu]

theorem jogRunning_of_active {d : Direction} {v n : Int} (active : s.mar.active = some a) (jog : a.job = .jog d v n)
    (timer : s.xhc.jogTimer ≠ none) : jogRunning s = true := by
  obtain ⟨port, tag, j⟩ := a
  obtain rfl : j = .jog d v n := jog
  simp [jogRunning, active, isSome_of_ne_none timer]

/-! ### The reference switch (R71, R72) -/

theorem searchPhase_iff (p : SearchPhase) : searchPhase s = some p ↔ ∃ a, s.mar.active = some a ∧ a.job = .search p := by
  constructor
  · exact searchPhase_active
  · rintro ⟨⟨port, tag, j⟩, active, rfl⟩
    simp [searchPhase, active]

end Sys2Proof.Machine

open Sys2Proof Sys2Proof.Machine

/-- Settles O39, by the job of the active motion (`beginMotion_other`, `beginMotion_search`, `beginMotion_jog`). -/
theorem driveTimersExpire : Obligations.DriveTimersExpire := by
  unfold Obligations.DriveTimersExpire
  intro s a
  refine ⟨fun holding => ?_, fun releasing active => ?_, fun d v n active jog timer queue hold => ?_⟩
  · simp [exec, execHoldTimerExpiry, holding]
  · obtain ⟨u, hu⟩ : ∃ u : State, u = { s with xhc := { s.xhc with drive := .moving, brakeTimer := none } } := ⟨_, rfl⟩
    have begun : u.mar.active = some a := by rw [hu, ← active]
    have goes {v : State} (same : v.mar.active = some a) : activateAfterEnd s v = v :=
      activateAfterEnd_of_active (same.trans active.symm)
    rw [brakeReleaseExpiry_next hu releasing]
    refine ⟨fun other => ?_, fun ph search => ?_, fun d v n jog => ⟨fun away => ?_, fun reached queue hold => ?_⟩⟩
    · have work : (∀ ph, a.job ≠ .search ph) ∧ ∀ d v n, a.job ≠ .jog d v n := by
        rcases other with job | ⟨w, v, c, q, job⟩ | ⟨w, v, q, job⟩ <;> simp [job]
      rw [beginMotion_other begun work.1 work.2, goes begun, hu]
    · have turns (j : ActiveJob) : activateAfterEnd s (setJob j u) = setJob j u := by
        simp [activateAfterEnd, setJob, begun]
      rw [beginMotion_search begun search, turns, setJob_eq _ begun, hu]
    · have still : atSoftLimit u.xhc d = false := by rw [← away, hu]; rfl
      have run := goes (v := { u with xhc := { u.xhc with jogTimer := some n } }) begun
      rw [beginMotion_jog begun jog, still, if_neg (by simp), run, hu]
    · have stands : atSoftLimit u.xhc d = true := by rw [← reached, hu]; rfl
      have kind : activeKind a.job = .jog := by rw [jog]; rfl
      rw [beginMotion_jog begun jog, if_pos stands,
        activateAfterEnd_endMotion s .stoppedLimit begun (by simp [jog]) (by rw [hu]; exact queue) (by rw [hu]; exact hold), kind, hu]
      rfl
  · have kind : activeKind a.job = .jog := by rw [jog]; rfl
    have runs := jogRunning_of_active active jog timer
    have ends := activateAfterEnd_endMotion s .done active (by simp [jog]) queue hold
    rw [kind] at ends
    simp [exec, execJogDurationExpiry, runs, ends]

/-- Settles O42, by the phase of an active search. -/
theorem referenceSwitchChanges : Obligations.ReferenceSwitchChanges := by
  unfold Obligations.ReferenceSwitchChanges
  intro s
  refine ⟨fun off other => ?_, fun a x off active down queue hold hx => ?_, fun on other => ?_, fun a on active up => ?_⟩
  · have noSearch : searchPhase s ≠ some .downward := by
      rw [ne_eq, searchPhase_iff]
      rintro ⟨a, active, down⟩
      exact other a active down
    simp [exec, execReferenceSwitchEvent, referenceSwitchOn, off, noSearch, setInputs]
  · obtain ⟨u, hu⟩ : ∃ u : State, u = referenced (setInputs { s.inputs with referenceSwitch := true } s) := ⟨_, rfl⟩
    have search := (searchPhase_iff .downward).2 ⟨a, active, down⟩
    have next : exec .referenceSwitchEvent s = .next (activateAfterEnd s (endMotion .done u)) := by
      simp [exec, execReferenceSwitchEvent, referenceSwitchOn, off, search, hu]
    have kind : activeKind a.job = .referenceSearch := by rw [down]; rfl
    rw [next, activateAfterEnd_endMotion s .done (by rw [hu]; exact active) (by simp [down]) (by rw [hu]; exact queue)
      (by rw [hu]; exact hold), kind, hu, hx]
    rfl
  · have noSearch : searchPhase s ≠ some .upward := by
      rw [ne_eq, searchPhase_iff]
      rintro ⟨a, active, up⟩
      exact other a active up
    simp [exec, execReferenceSwitchRelease, referenceSwitchOff, on, noSearch, setInputs]
  · have search := (searchPhase_iff .upward).2 ⟨a, active, up⟩
    simp [exec, execReferenceSwitchRelease, referenceSwitchOff, on, search, setInputs, setJob, active]

/-- Settles O24: the port's own request is the queued one, or the active motion, or there is none. -/
theorem motionStoppedAndCollected : Obligations.MotionStoppedAndCollected := by
  unfold Obligations.MotionStoppedAndCollected
  intro r s form port
  obtain ⟨-, stops, collects⟩ := permitted_of_motionPort port
  refine ⟨fun rq queue own => ?_, fun a queue active own => ⟨fun test => ?_, fun other hold => ?_⟩, fun queue still => ?_,
    fun empty => ?_, fun c filed => ?_⟩
  · refine request_answered stops form ?_
    have queued : queuedOf s.mar r.port = some rq := queuedOf_append (before := []) (after := []) queue own (by simp)
    simp [stopMotionReply, queued, Reply.plain, cancelRequest, fileRequestEnd, fileCompletion, unqueue, own, queue, ended,
      finalPosition]
  · refine request_answered stops form ?_
    have queued : queuedOf s.mar r.port = none := queuedOf_eq_none (by simp [queue])
    simp [stopMotionReply, queued, activeOf_eq_some active own, test, Reply.plain]
  · refine request_answered stops form ?_
    have queued : queuedOf s.mar r.port = none := queuedOf_eq_none (by simp [queue])
    rw [← own, ← activateAfterEnd_endMotion s .stopped active other queue hold]
    simp [stopMotionReply, queued, activeOf_eq_some active own, other, Reply.plain, own]
  · refine request_answered stops form ?_
    have queued : queuedOf s.mar r.port = none := queuedOf_eq_none (by simp [queue])
    have none : activeOf s.mar r.port = none := activeOf_eq_none (by simp [still])
    simp [stopMotionReply, queued, none, Reply.plain]
  · exact request_answered collects form (by simp [collectCompletionReply, empty, Reply.plain])
  · exact request_answered collects form (by simp [collectCompletionReply, filed, emptySlot])

end

section

/-! PROOF. The record of a closed test and its judgement (R190, R191, R194, R197, R198), and what a closure leaves of the blocks. -/

namespace Sys2Proof.Machine

variable {s : State} {t : TestContext} {m : MountedSpecimen} {l : GradeLimits} {r : FinalResults} {f : CheckedField}
  {k : FieldFailure}

/-! ### The failing fields (R198) -/

/-- The value of a checked field in the final results (R197, R198). -/
def checkedValue (r : FinalResults) : CheckedField → Option Int
  | .yield => (yieldValue r).map fun y => y.2
  | .rm => r.rm
  | .a => r.a
  | .ratio => ratioOf r

theorem fieldFailure_iff (lo hi value : Option Int) (k : FieldFailure) :
    fieldFailure lo hi value = some k ↔ Fails lo hi value k := by
  cases value with
  | none => cases lo <;> cases hi <;> cases k <;> simp [fieldFailure, Fails]
  | some v =>
    simp only [fieldFailure]
    split
    next low =>
      obtain ⟨b, rfl, under⟩ : ∃ b, lo = some b ∧ v < b := by simpa [Option.any_eq_true] using low
      cases k <;> simp [Fails, under]
    next notLow =>
      have above : ∀ b ∈ lo, b ≤ v := by simpa [Option.any_eq_true] using notLow
      split
      next high =>
        obtain ⟨b, rfl, beyond⟩ : ∃ b, hi = some b ∧ b < v := by simpa [Option.any_eq_true] using high
        cases k <;> simp_all [Fails]
      next notHigh =>
        have below : ∀ b ∈ hi, v ≤ b := by simpa [Option.any_eq_true] using notHigh
        cases k <;> simp_all [Fails]

theorem failingFields_eq (l : GradeLimits) (r : FinalResults) :
    failingFields l r = [CheckedField.yield, .rm, .a, .ratio].filterMap fun f =>
      (fieldFailure (fieldBounds l f).1 (fieldBounds l f).2 (checkedValue r f)).map fun k => (f, k) := rfl

theorem mem_failingFields :
    (f, k) ∈ failingFields l r ↔ Fails (fieldBounds l f).1 (fieldBounds l f).2 (checkedValue r f) k := by
  rw [← fieldFailure_iff, failingFields_eq, List.mem_filterMap]
  constructor
  · rintro ⟨g, -, failure⟩
    obtain ⟨k', fails, same⟩ := Option.map_eq_some_iff.1 failure
    cases same
    exact fails
  · intro fails
    exact ⟨f, by cases f <;> simp, by simp [fails]⟩

theorem failingFields_order (l : GradeLimits) (r : FinalResults) :
    ((failingFields l r).map (·.1)).Sublist [.yield, .rm, .a, .ratio] := by
  have named (fs : List CheckedField) (g : CheckedField → Option FieldFailure) :
      ((fs.filterMap fun f => (g f).map fun k => (f, k)).map (·.1)).Sublist fs := by
    induction fs with
    | nil => simp
    | cons f fs ih =>
      cases h : g f with
      | none => simpa [h] using ih.cons f
      | some k => simpa [h] using ih.cons_cons f
  rw [failingFields_eq]
  exact named _ fun f => fieldFailure (fieldBounds l f).1 (fieldBounds l f).2 (checkedValue r f)

/-- The verdict of a complete test's results is by the failing fields, which it carries whole (R198). -/
theorem verdictOf_complete (l : GradeLimits) (r : FinalResults) :
    verdictOf (some l) .complete r =
      (if (failingFields l r).any (fun x => x.2 = .absent) then .incomplete
        else if (failingFields l r).any (fun x => x.2 = .low) then .low
        else if (failingFields l r).any (fun x => x.2 = .high) then .high
        else .conforms, failingFields l r) := by
  simp only [verdictOf]
  split
  · rfl
  split
  · rfl
  split
  · rfl
  next absent low high =>
    have none_fails : failingFields l r = [] := by
      rw [List.eq_nil_iff_forall_not_mem]
      rintro ⟨f, k⟩ fails
      cases k <;> simp_all
    simp [none_fails]

theorem verdictOf_unchecked {limits : Option GradeLimits} {c : Closure} (h : limits = none ∨ c ≠ .complete) :
    verdictOf limits c r = (.notChecked, []) := by
  unfold verdictOf
  split
  · simp at h
  · rfl

/-! ### The record (R190, R197, R198) -/

theorem fieldValue_resultRecord (c : Closure) (n : Nat × Nat × Nat × Nat) (limits : Option GradeLimits) (f : CheckedField) :
    fieldValue (resultRecord t m c r n limits) f = checkedValue r f := by
  cases f with
  | yield => cases reH : r.reH <;> cases rp : r.rp <;> simp [fieldValue, resultRecord, checkedValue, yieldValue, reH, rp]
  | rm | a | ratio => rfl

theorem resultRecord_judged (t : TestContext) (m : MountedSpecimen) (c : Closure) (r : FinalResults)
    (n : Nat × Nat × Nat × Nat) (limits : Option GradeLimits) : Judged limits (resultRecord t m c r n limits) where
  yieldUsed := by cases reH : r.reH <;> cases rp : r.rp <;> simp [resultRecord, yieldValue, reH, rp]
  ratio y rm := by
    rw [fieldValue_resultRecord]
    intro hy hrm positive
    obtain ⟨⟨u, y'⟩, used, rfl⟩ := Option.map_eq_some_iff.1 hy
    have rm' : r.rm = some rm := hrm
    simp [resultRecord, ratioOf, used, rm', positive]
  noRatio := by
    rw [fieldValue_resultRecord]
    intro absent
    show ratioOf r = none
    unfold ratioOf
    split
    next u y rm used rm' =>
      rcases absent with none | low
      · simp [checkedValue, used] at none
      · exact if_neg (by have := low rm rm'; omega)
    next => rfl
  notChecked := by
    intro h
    have unchecked : limits = none ∨ c ≠ .complete := h
    simp [resultRecord, verdictOf_unchecked unchecked]
  listed l hl hc f k := by
    obtain rfl : c = .complete := hc
    rw [fieldValue_resultRecord, ← mem_failingFields]
    simp [resultRecord, hl, verdictOf_complete]
  order := by
    by_cases h : limits = none ∨ c ≠ .complete
    · simp [resultRecord, verdictOf_unchecked (r := r) h]
    · obtain ⟨limited, complete⟩ := not_or.1 h
      obtain ⟨l, rfl⟩ := Option.ne_none_iff_exists'.1 limited
      rw [not_not] at complete
      simpa [resultRecord, complete, verdictOf_complete] using failingFields_order l r
  verdict l hl hc := by
    obtain rfl : c = .complete := hc
    subst hl
    have failing : (resultRecord t m .complete r n (some l)).failing = failingFields l r := by
      simp [resultRecord, verdictOf_complete]
    rw [failing]
    simp [resultRecord, verdictOf_complete]

/-! ### What a closure leaves (R69, R98, R128) -/

/-- A closure leaves of the executive all but the test (R128). -/
theorem closeTest_tex (c : Closure) (h : s.tex.test = some t) : (closeTest c s).tex = { s.tex with test := none } := by
  simp only [closeTest, h]
  (repeat' split) <;> simp

/-- A closure leaves the slot's specimen TESTED (R16). -/
theorem closeTest_spt (c : Closure) (h : s.tex.test = some t) :
    (closeTest c s).spt = { s.spt with slot := s.spt.slot.map fun m => { m with state := .tested } } := by
  simp only [closeTest, h]
  (repeat' split) <;> simp [slotTested]

/-- The record that a closure appends, and the verdict on it (R190, R191, R198). -/
theorem closeTest_rsl (c : Closure) (h : s.tex.test = some t) (slot : s.spt.slot = some m) :
    ∃ rec, (closeTest c s).rsl = { s.rsl with results := s.rsl.results ++ [rec], reserved := false } ∧ rec.serial = t.serial ∧
      rec.specimen = m.specimen ∧ rec.closure = c ∧ Judged s.rsl.limits[m.specimen.grade] rec := by
  have recorded {u : State} (same : u.tex.test.map TestContext.identity = s.tex.test.map TestContext.identity)
      (spt : u.spt = s.spt) (rsl : u.rsl = s.rsl) (k : Nat × Nat × Nat × Nat) :
      ∃ rec, (recordTest t c k u).rsl = { s.rsl with results := s.rsl.results ++ [rec], reserved := false } ∧
        rec.serial = t.serial ∧ rec.specimen = m.specimen ∧ rec.closure = c ∧
        Judged s.rsl.limits[m.specimen.grade] rec := by
    rw [h] at same
    obtain ⟨t', test, identity⟩ := Option.map_eq_some_iff.1 same
    have serial : t'.serial = t.serial := congrArg Prod.fst identity
    rw [← rsl]
    simp only [recordTest, test, spt, slot]
    exact ⟨_, rfl, serial, rfl, rfl, resultRecord_judged ..⟩
  simp only [closeTest, h]
  split <;> split <;> simpa using recorded (by simp) (by simp) (by simp) _

/-- The completion that a closure files for the port of the test (R98, R128). -/
theorem closeTest_mar (c : Closure) (h : s.tex.test = some t) {a : ActiveMotion} (active : s.mar.active = some a) :
    (closeTest c s).mar = { s.mar with active := none }.setSlot a.port
      (some { kind := .startTest, tag := a.tag, outcome := (closureOutcome c).1, reason := (closureOutcome c).2,
              position := if s.xhc.referenceValid then some s.xhc.position else none, serial := some t.serial }) := by
  simp only [closeTest, h]
  split <;> split <;> simp [fileTestEnd, active, clearActive, finalPosition] <;> cases a.port <;> rfl

end Sys2Proof.Machine
end

section

/-! PROOF. The gate's opening onto a frame configuration outside R64's ranges (R70, R82). -/

namespace Sys2Proof.Machine

/-- A cell's move waits in a drive at rest, and the jog limit stands below 0: R64's range excludes it (`ConfigSound`), but no premise
of the statement does. -/
def jogLimitBelowZero : State :=
  { State.reset with
    mar := { State.reset.mar with active := some { port := .cell, tag := 0, job := .move 0 1 false 0 } },
    xhc := { State.reset.xhc with config := { State.reset.xhc.config with jogLimit := -1 } } }

/-- The clamp to such a jog limit makes a word of the base value 0 (R70). -/
theorem gateOpens_jogLimitBelowZero : (gateOpens jogLimitBelowZero).xhc.word = 1000 := by decide

end Sys2Proof.Machine

open Sys2Proof Sys2Proof.Machine

/-- Refutes O44: with a cell's motion active and the drive not MOVING the word is said to be 0 after the gate's opening, whatever the
configuration; a jog limit of -1 µm/s makes it 1000 nm/s. -/
theorem not_gateOpensAndCloses : ¬ Obligations.GateOpensAndCloses := by
  unfold Obligations.GateOpensAndCloses
  intro h
  obtain ⟨-, opens, -⟩ := h jogLimitBelowZero
  obtain ⟨-, -, -, cell⟩ := opens rfl rfl
  obtain ⟨still, -, -⟩ := cell 0 (.move 0 1 false 0) 0 _ rfl (.inr (.inl ⟨0, 1, false, rfl⟩)) rfl
  have stopped : (gateOpens jogLimitBelowZero).xhc.word = 0 :=
    congrArg (fun s : State => s.xhc.word) (Host.Outcome.next.inj (still (by decide)))
  rw [gateOpens_jogLimitBelowZero] at stopped
  exact absurd stopped (by decide)

end

section

/-! PROOF. The hard-limit switches and the emergency stop (R73, R80, R81, R83, R91, R97). -/

namespace Sys2Proof.Machine

variable {s : State} {a : ActiveMotion}

/-! ### The end of a motion on a disabled drive (R81, R83, R98) -/

theorem endMotionDisabled_idle (o : MotionOutcome) (still : s.mar.active = none) : endMotionDisabled o s = s := by
  simp [endMotionDisabled, activeMotion, still]

theorem endMotionDisabled_test (o : MotionOutcome) (active : s.mar.active = some a) (test : a.job = .test) :
    endMotionDisabled o s = s := by
  have none_other : activeMotion s = none := by simp [activeMotion, active, test]
  simp [endMotionDisabled, none_other]

theorem endMotionDisabled_eq (o : MotionOutcome) (active : s.mar.active = some a) (other : a.job ≠ .test) :
    endMotionDisabled o s =
      raise a.port .motionDone
        { s with mar := { s.mar with active := none }.setSlot a.port (some (ended (activeKind a.job) a.tag o s)) } := by
  obtain ⟨port, tag, j⟩ := a
  simp only [endMotionDisabled, activeMotion_of_active active other]
  cases port <;> rfl

/-! ### The hard-limit switches (R73, R80, R81) -/

/-- A switch whose level is to change was not active. -/
theorem limitActive_of_ne {side : LimitSide} {i : Inputs} (h : i ≠ setLimit side true i) : limitActive i side = false := by
  obtain ⟨gate, estop, upper, lower, reference⟩ := i
  cases side <;> cases upper <;> cases lower <;> simp_all [setLimit, limitActive]

theorem limitEndsMotion_other (search : searchActive s = false) : limitEndsMotion s = endMotionDisabled .stoppedLimit s := by
  simp [limitEndsMotion, search]

theorem limitEndsMotion_search (search : searchActive s = true) :
    limitEndsMotion s = endMotionDisabled .equipmentCheck (enterFault .equipmentCheck s) := by
  simp [limitEndsMotion, search]

theorem searchActive_of_none (still : s.mar.active = none) : searchActive s = false := by
  simp [searchActive, still]

theorem searchActive_of_other (active : s.mar.active = some a) (other : ∀ ph, a.job ≠ .search ph) : searchActive s = false := by
  rw [← Bool.not_eq_true, searchActive_of_active active]
  rintro ⟨ph, search⟩
  exact other ph search

/-- The event of a hard-limit switch, with the drive as it disables it (R81). -/
theorem hardLimitSwitchEvent_next {side : LimitSide} {u : State} (off : limitActive s.inputs side = false)
    (hu : u = { s with inputs := setLimit side true s.inputs, xhc := disabledDrive s.xhc }) :
    exec (.hardLimitSwitchEvent side) s =
      .next (activateAfterEnd s (abortTest .hardLimit (enterFault .hardLimit (limitEndsMotion u)))) := by
  rw [hu]
  simp only [exec, execHardLimitSwitchEvent, hardLimitOn, off]
  rfl

theorem abortTest_of_idle (c : AbortCause) (idle : s.tex.test = none) : abortTest c s = s :=
  closeTest_of_idle _ idle

end Sys2Proof.Machine

open Sys2Proof Sys2Proof.Machine

/-- Settles O43: the motion's end on the disabled drive by `endMotionDisabled_eq`, the test's by what a closure leaves of each block. -/
theorem hardLimitDisables : Obligations.HardLimitDisables := by
  unfold Obligations.HardLimitDisables
  intro s side on off hon hoff
  have hon : on = setLimit side true s.inputs := by cases side <;> exact hon
  have hoff : off = setLimit side false s.inputs := by cases side <;> exact hoff
  obtain ⟨u, hu⟩ : ∃ u : State, u = { s with inputs := setLimit side true s.inputs, xhc := disabledDrive s.xhc } := ⟨_, rfl⟩
  have mar : u.mar = s.mar := by rw [hu]
  have tex : u.tex = s.tex := by rw [hu]
  refine ⟨?_, fun changes idle => ?_, fun t m tag changes test slot queue active => ?_⟩
  · rw [hoff]
    rfl
  · rw [hon] at changes
    rw [hardLimitSwitchEvent_next (limitActive_of_ne changes) hu]
    refine ⟨fun still => ?_, fun a active queue => ⟨fun search other => ?_, fun ph search => ?_⟩⟩
    · have none : u.mar.active = none := by rw [mar, still]
      rw [limitEndsMotion_other (searchActive_of_none none), endMotionDisabled_idle _ none,
        abortTest_of_idle _ (by simp [tex, idle]), activateAfterEnd_of_active (by simp [mar]), hu, hon]
    · have active' : u.mar.active = some a := by rw [mar, active]
      rw [limitEndsMotion_other (searchActive_of_other active' search), endMotionDisabled_eq _ active' other,
        abortTest_of_idle _ (by simp [tex, idle]), activateAfterEnd_of_queue _ (by simp [mar, queue]), hu, hon]
      rfl
    · have active' : u.mar.active = some a := by rw [mar, active]
      have kind : activeKind a.job = .referenceSearch := by rw [search]; rfl
      rw [limitEndsMotion_search ((searchActive_of_active active').2 ⟨ph, search⟩),
        endMotionDisabled_eq _ (by simpa using active') (by simp [search]),
        abortTest_of_idle _ (by simp [tex, idle]), activateAfterEnd_of_queue _ (by simp [mar, queue]), kind, hu, hon]
      rfl
  · rw [hon] at changes
    have active' : u.mar.active = some { port := .sequencer, tag := tag, job := .test } := by rw [mar, active]
    obtain ⟨v, hv⟩ : ∃ v, v = enterFault .hardLimit u := ⟨_, rfl⟩
    have test' : v.tex.test = some t := by simp [hv, tex, test]
    have slot' : v.spt.slot = some m := by simp [hv, hu, slot]
    have next : exec (.hardLimitSwitchEvent side) s = .next (abortTest .hardLimit v) := by
      rw [hardLimitSwitchEvent_next (limitActive_of_ne changes) hu,
        limitEndsMotion_other (searchActive_of_other active' (by simp)), endMotionDisabled_test _ active' rfl, ← hv,
        activateAfterEnd_abortTest _ _ (by simp [hv, mar, queue])]
    obtain ⟨rec, rsl, serial, specimen, closure, judged⟩ := closeTest_rsl (.aborted .hardLimit) test' slot'
    obtain ⟨-, -, -, -, loop, -, -⟩ := closeTest_fields (.aborted .hardLimit) test'
    refine ⟨_, rec, next, ?_, ?_, serial, specimen, closure, ?_, ?_, ?_, ?_, loop, ?_, ?_⟩
    · rw [abortTest, closeTest_tex _ test']
      simp [hv, tex]
    · rw [abortTest, rsl]
      simp [hv, hu]
    · simpa [hv, hu] using judged
    · rw [abortTest, closeTest_spt _ test']
      simp [hv, hu, slot]
    · rw [abortTest_disabled _ rfl]
      simp [hv, hu]
    · simp [hv, hu, hon]
    · rw [abortTest, closeTest_faults, hv, hu]
      rfl
    · rw [abortTest, closeTest_mar _ test' (by simpa [hv] using active')]
      simp [hv, hu, disabledDrive]
      rfl

end

section

/-! PROOF. The emergency stop: every motion and the test end, their completions with outcome ESTOP (R83, R97), and motion requests are
refused (R83, R91). -/

namespace Sys2Proof.Machine

variable {s t u : State}

/-! ### What the emergency stop keeps while it ends motions and the test (R83, R97) -/

/-- The port's completion slot holds an end by the emergency stop (R97). -/
def EstopFiled (p : Port) (m : Arbiter) : Prop :=
  ∃ c, m.slot p = some c ∧ c.outcome = .estop

/-- From `s` to `t` motions have ended by the emergency stop alone: the claim, the fault word and the notices each port has are those
of `s`, and what was filed with outcome ESTOP still is, or something later was with that outcome. -/
structure EstopEnds (s t : State) : Prop where
  holder : t.mar.holder = s.mar.holder
  waiter : t.mar.waiter = s.mar.waiter
  faults : t.pif.faults = s.pif.faults
  notices : ∀ p, (t.portOf p).flags.map (fun e => e.1) = (s.portOf p).flags.map fun e => e.1
  filed : ∀ p, EstopFiled p s.mar → EstopFiled p t.mar

theorem EstopEnds.trans (h : EstopEnds s t) (k : EstopEnds t u) : EstopEnds s u where
  holder := k.holder.trans h.holder
  waiter := k.waiter.trans h.waiter
  faults := k.faults.trans h.faults
  notices p := (k.notices p).trans (h.notices p)
  filed p was := k.filed p (h.filed p was)

theorem portOf_of_pif (h : t.pif = s.pif) (p : Port) : t.portOf p = s.portOf p := by
  cases p <;> simp [State.portOf, h]

/-- What leaves the ports and the arbiter, but for the queue and the active motion. -/
theorem EstopEnds.of_pif (pif : t.pif = s.pif) (holder : t.mar.holder = s.mar.holder) (waiter : t.mar.waiter = s.mar.waiter)
    (slot : t.mar.slot = s.mar.slot) : EstopEnds s t :=
  ⟨holder, waiter, by rw [pif], fun p => by rw [portOf_of_pif pif], fun p => by simp only [EstopFiled, slot]; exact id⟩

theorem EstopEnds.rfl : EstopEnds s s :=
  .of_pif (Eq.refl _) (Eq.refl _) (Eq.refl _) (Eq.refl _)

theorem clearActive_estopEnds (s : State) : EstopEnds s (clearActive s) :=
  .of_pif (by simp) (by simp) (by simp) (by simp)

theorem slot_setSlot (m : Arbiter) (p q : Port) (c : Option Completion) :
    (m.setSlot p c).slot q = if q = p ∧ motionPort p = true then c else m.slot q := by
  cases p <;> cases q <;> simp [Arbiter.setSlot, Arbiter.slot, motionPort]

theorem raise_names (p q : Port) (n : Notice) (s : State) :
    ((raise p n s).portOf q).flags.map (fun e => e.1) = (s.portOf q).flags.map fun e => e.1 := by
  by_cases same : q = p <;> simp [raise, same]

theorem raise_estopEnds (p : Port) (n : Notice) (h : EstopEnds s t) : EstopEnds s (raise p n t) :=
  h.trans ⟨by simp, by simp, by simp, fun q => raise_names p q n t, fun q => by simp⟩

theorem fileCompletion_estopEnds (p : Port) {c : Completion} (estop : c.outcome = .estop) (s : State) :
    EstopEnds s (fileCompletion p c s) := by
  refine raise_estopEnds p .motionDone (t := { s with mar := s.mar.setSlot p (some c) }) ?_
  refine ⟨by simp, by simp, rfl, fun _ => rfl, fun q was => ?_⟩
  unfold EstopFiled
  rw [slot_setSlot]
  split
  · exact ⟨c, rfl, estop⟩
  · exact was

theorem fileCompletion_estopFiled {p : Port} (motion : motionPort p = true) {c : Completion} (estop : c.outcome = .estop)
    (s : State) : EstopFiled p (fileCompletion p c s).mar :=
  ⟨c, by simp [slot_setSlot, motion], estop⟩

/-! ### The queued requests and the active motion (R97, R98) -/

theorem fileEnds_estopEnds (l : List MotionRequest) (s : State) :
    EstopEnds s (l.foldl (fun s rq => fileRequestEnd rq .estop none s) s) := by
  induction l generalizing s with
  | nil => exact .rfl
  | cons rq l ih => exact (fileCompletion_estopEnds rq.port (c := _) rfl s).trans (ih _)

theorem fileEnds_filed (l : List MotionRequest) (s : State) {rq : MotionRequest} (queued : rq ∈ l)
    (motion : motionPort rq.port = true) :
    EstopFiled rq.port (l.foldl (fun s rq => fileRequestEnd rq .estop none s) s).mar := by
  induction l generalizing s with
  | nil => simp at queued
  | cons x l ih =>
    rcases List.mem_cons.1 queued with rfl | later
    · exact (fileEnds_estopEnds l _).filed _ (fileCompletion_estopFiled motion rfl s)
    · exact ih _ later

theorem stopQueue_estopEnds (s : State) : EstopEnds s (stopQueue s) := by
  have emptied : EstopEnds s { s with mar := { s.mar with queue := [] } } :=
    .of_pif rfl rfl rfl (by funext p; cases p <;> rfl)
  exact emptied.trans (fileEnds_estopEnds ..)

theorem stopQueue_filed {rq : MotionRequest} (queued : rq ∈ s.mar.queue) (motion : motionPort rq.port = true) :
    EstopFiled rq.port (stopQueue s).mar :=
  fileEnds_filed _ _ queued motion

theorem endMotionDisabled_estopEnds (s : State) : EstopEnds s (endMotionDisabled .estop s) := by
  unfold endMotionDisabled
  split
  · exact .rfl
  · refine EstopEnds.trans ?_ (clearActive_estopEnds _)
    exact fileCompletion_estopEnds _ rfl s

/-! ### The test (R98, R128) -/

theorem extClosure_estopEnds (s : State) : EstopEnds s (extClosure s) := by
  unfold extClosure
  simp only []
  split
  · exact raise_estopEnds _ _ (.of_pif (by simp) (by simp) (by simp) (by simp))
  · exact raise_estopEnds _ _ (.of_pif (by simp) (by simp) (by simp) (by simp))
  · exact raise_estopEnds _ _ (.of_pif (by simp) (by simp) (by simp) (by simp))
  · exact .of_pif (by simp) (by simp) (by simp) (by simp)
  · exact .of_pif (by simp) (by simp) (by simp) (by simp)
  · exact .of_pif (by simp) (by simp) (by simp) (by simp)

theorem closeLastPage_estopEnds (c : CaptureContext) (s : State) : EstopEnds s (closeLastPage c s) := by
  unfold closeLastPage
  split
  · exact raise_estopEnds _ _ (.of_pif (by simp) (by simp) (by simp) (by simp))
  split
  · exact raise_estopEnds _ _ (.of_pif (by simp) (by simp) (by simp) (by simp))
  · exact .of_pif (by simp) (by simp) (by simp) (by simp)

theorem fileTestEnd_estopEnds (n : BitVec 16) (s : State) : EstopEnds s (fileTestEnd n (.aborted .estop) s) := by
  unfold fileTestEnd
  split
  · exact .rfl
  · refine EstopEnds.trans ?_ (clearActive_estopEnds _)
    exact fileCompletion_estopEnds _ rfl s

theorem closureNotices_estopEnds (s : State) : EstopEnds s (closureNotices s) :=
  raise_estopEnds _ _ (raise_estopEnds _ _ (raise_estopEnds _ _ (raise_estopEnds _ _ .rfl)))

theorem abortTest_estopEnds (s : State) : EstopEnds s (abortTest .estop s) := by
  unfold abortTest closeTest
  split
  · exact .rfl
  next t _ =>
    have filed {u : State} (k) (hu : EstopEnds s u) :
        EstopEnds s (closureNotices (fileTestEnd t.serial (.aborted .estop)
          (endCapture (recordTest t (.aborted .estop) k u)))) := by
      have recorded : EstopEnds u (endCapture (recordTest t (.aborted .estop) k u)) :=
        .of_pif (by simp) (by simp) (by simp) (by simp)
      exact ((hu.trans recorded).trans (fileTestEnd_estopEnds ..)).trans (closureNotices_estopEnds _)
    have channel := extClosure_estopEnds s
    have closed {u : State} (hu : EstopEnds s u) {v : State} (pif : v.pif = u.pif) (mar : v.mar = u.mar) : EstopEnds s v :=
      hu.trans (.of_pif pif (by rw [mar]) (by rw [mar]) (by rw [mar]))
    simp only []
    cases capture : (extClosure s).cps.capture with
    | none => exact closed (filed (captureCounters none) channel) (by split <;> simp) (by split <;> simp)
    | some x =>
      exact closed (filed (captureCounters (some x)) (channel.trans (closeLastPage_estopEnds x _))) (by split <;> simp)
        (by split <;> simp)

/-! ### The assertion (R83) -/

theorem estop_noticed (p : Port) : Notice.estop ∈ noticesOf p := by
  cases p <;> decide

/-- A notice raised on every port is RAISED on each port that has it (R203, R204). -/
theorem raiseAll_raised {n : Notice} {p : Port} (has : n ∈ (s.portOf p).flags.map fun e => e.1) :
    (raiseAll n s).flag p n = .raised := by
  have first (q : Port) (u : State) (raised : u.flag p n = .raised) : (raise q n u).flag p n = .raised :=
    (raise_ports q n .rfl).raised p n raised
  unfold raiseAll
  cases p with
  | sequencer => exact first _ _ (first _ _ (flag_raise_self has))
  | cell => exact first _ _ (flag_raise_self (by rwa [raise_names]))
  | record => exact flag_raise_self (by rwa [raise_names, raise_names])

theorem raiseAll_estopEnds (n : Notice) (h : EstopEnds s t) : EstopEnds s (raiseAll n t) :=
  raise_estopEnds _ _ (raise_estopEnds _ _ (raise_estopEnds _ _ h))

/-- An abort leaves no test, loop and capture at rest and no reservation, whether a test was in progress or not (R127, R128). -/
theorem abortTest_rest (c : AbortCause) (one : OneTest s) :
    (abortTest c s).tex = { s.tex with test := none } ∧ (abortTest c s).rlp = idleLoop ∧ (abortTest c s).cps.capture = none ∧
      (abortTest c s).rsl.reserved = false := by
  unfold abortTest
  cases test : s.tex.test with
  | none =>
    rw [closeTest_of_idle _ test]
    exact ⟨by rw [← test], one.loop test, by simpa [test] using one.capturing, by simpa [test] using one.reserved⟩
  | some x =>
    obtain ⟨-, -, reserved, capture, loop, -, -⟩ := closeTest_fields (.aborted c) test
    exact ⟨closeTest_tex _ test, loop, capture, reserved⟩

/-! ### Refusals (R83, R91) -/

theorem earlyRefusal_estopActive {j : MotionJob} (form : motionForm s.xhc.config j = true) (estop : s.inputs.estop = true) :
    earlyRefusal j s = some .estopActive := by
  simp [earlyRefusal, form, estop]

theorem motionReply_estop {j : MotionJob} (p : Port) (tag : Tag) (form : motionForm s.xhc.config j = true)
    (estop : s.inputs.estop = true) : motionReply p tag j s = .plain s .estopActive := by
  simp [motionReply, earlyRefusal_estopActive form estop]

theorem motionForm_moveTo {c : FrameConfig} {target speed : Int} (low : -2000000 ≤ target) (high : target ≤ 2000000)
    (slow : 1 ≤ speed) (fast : speed ≤ c.vmax) : motionForm c (.moveTo target speed) = true := by
  simp [motionForm, within, low, high, slow, fast]

theorem motionForm_jog {c : FrameConfig} {d : Direction} {speed duration : Int} (slow : 1 ≤ speed) (fast : speed ≤ 20000)
    (short : 1 ≤ duration) (long : duration ≤ 2000) : motionForm c (.jog d speed duration) = true := by
  simp [motionForm, within, slow, fast, short, long]

end Sys2Proof.Machine

open Sys2Proof Sys2Proof.Machine

/-- Settles O45: all that the assertion files has outcome ESTOP (`EstopEnds`), and the refusal stands ahead of every other check but
the form. -/
theorem emergencyStopStopsAndRefuses : Obligations.EmergencyStopStopsAndRefuses := by
  unfold Obligations.EmergencyStopStopsAndRefuses
  refine ⟨fun s => ⟨rfl, fun released one ports => ?_⟩, fun r s form estop => ⟨fun port => ?_, fun port target speed low high slow
    fast => ?_, fun port => ?_⟩⟩
  · obtain ⟨u, hu⟩ : ∃ u, u = driveDisable (setInputs { s.inputs with estop := true } s) := ⟨_, rfl⟩
    obtain ⟨v, hv⟩ : ∃ v, v = endMotionDisabled .estop (stopQueue u) := ⟨_, rfl⟩
    have next : exec .emergencyStopAssertion s = .next (raiseAll .estop (abortTest .estop v)) := by
      simp [exec, execEmergencyStopAssertion, emergencyStops, released, hu, hv]
    have same : SameTest s v := by
      rw [hv, hu]
      exact (((setInputs_sameTest _ s).trans (driveDisable_sameTest _)).trans (stopQueue_sameTest _)).trans
        (endMotionDisabled_sameTest .estop _)
    have ends : EstopEnds s (abortTest .estop v) := by
      have started : EstopEnds s u := by
        rw [hu]
        exact .of_pif rfl rfl rfl rfl
      rw [hv]
      exact ((started.trans (stopQueue_estopEnds u)).trans (endMotionDisabled_estopEnds _)).trans (abortTest_estopEnds _)
    have raised := raiseAll_estopEnds .estop ends
    obtain ⟨active, -⟩ := abortTest_idle .estop one same fun other => by
      have still : testIsActive (stopQueue u) = false := by
        rwa [(stopQueue_sameTest u).active, hu]
      rw [hv]
      exact endMotionDisabled_active .estop still
    obtain ⟨tex, loop, capture, reserved⟩ := abortTest_rest .estop ((TestCourse.of_same same).oneTest one)
    refine ⟨_, next, ?_, ?_, by simpa using active, ?_, raised.holder, raised.waiter, ?_, by simpa using loop,
      by simpa using capture, by simpa using reserved, fun rq queued motion => ?_, fun p => raiseAll_raised ?_, raised.faults⟩
    · simp [hv, hu]
    · have drive : v.xhc = disabledDrive s.xhc := by simp [hv, hu, driveDisable_eq]
      simp [abortTest_disabled .estop rfl, drive]
    · simp [abortTest, closeTest_queue, hv, endMotionDisabled_queue, stopQueue_mar]
    · have kept : v.tex = s.tex := by simp [hv, hu]
      simp [tex, kept]
    · have filed : EstopFiled rq.port (stopQueue u).mar := stopQueue_filed (by rw [hu]; exact queued) motion
      have ended := (endMotionDisabled_estopEnds (stopQueue u)).trans (abortTest_estopEnds _)
      have mar : (raiseAll .estop (abortTest .estop v)).mar = (abortTest .estop v).mar := by simp
      rw [mar, hv]
      exact ended.filed _ filed
    · rw [ends.notices, ports.flags]
      exact estop_noticed p
  · have whole {k : RequestKind} {j : MotionJob} (allowed : permitted k r.port = true)
        (formed : motionForm s.xhc.config j = true) :
        request k r s (motionReply r.port r.tag j) = .next (answered k r .estopActive .nothing s) :=
      request_answered allowed form (motionReply_estop _ _ formed estop)
    exact ⟨whole (by rw [port]; rfl) rfl, whole (by rw [port]; rfl) rfl⟩
  · obtain ⟨moves, -, -⟩ := permitted_of_motionPort port
    exact request_answered moves form (motionReply_estop _ _ (motionForm_moveTo low high slow fast) estop)
  · refine ⟨request_answered (by rw [port]; rfl) form (motionReply_estop _ _ rfl estop), fun d speed duration slow fast short long =>
      request_answered (by rw [port]; rfl) form ?_⟩
    rw [jogReply, earlyRefusal_estopActive (motionForm_jog slow fast short long) estop]
    rfl

end

section

/-! PROOF. Activation: the first eligible request is taken, rechecked and started, or ends at once (R69, R74, R76, R77, R94,
R95). -/

namespace Sys2Proof.Machine

variable {s t u : State} {a : ActiveMotion} {rq : MotionRequest} {before after : List MotionRequest}

/-! ### Eligibility (R94) -/

theorem eligible_iff (s : State) (rq : MotionRequest) : eligible s rq = true ↔ Eligible s rq := by
  obtain ⟨port, tag, j⟩ := rq
  cases j <;> cases s.ldc.loadFault <;> simp [eligible, Eligible, and_comm]

/-- Whether a request is eligible is by the claim's holder and the load-fault state alone. -/
theorem Eligible.congr (holder : t.mar.holder = s.mar.holder) (fault : t.ldc.loadFault = s.ldc.loadFault) :
    Eligible t rq ↔ Eligible s rq := by
  simp only [Eligible, holder, fault]

/-- Nothing is left for activation to take: a motion is active, or no queued request is eligible. -/
def ActivationRests (s : State) : Prop :=
  s.mar.active ≠ none ∨ ∀ rq ∈ s.mar.queue, ¬ Eligible s rq

theorem activationLoop_rests (n : Nat) (h : ActivationRests s) : activationLoop n s = s := by
  cases n with
  | zero => rfl
  | succ n =>
    unfold activationLoop
    split
    · rfl
    next still =>
      have none_eligible : s.mar.queue.find? (eligible s) = none := by
        have queued := h.resolve_left (by simpa using still)
        simpa [List.find?_eq_none, eligible_iff] using queued
      rw [none_eligible]

theorem tryActivate_rests (h : ActivationRests s) : tryActivate s = s :=
  activationLoop_rests _ h

/-- The first eligible request is taken, whatever stands ahead of it, and nothing more where nothing more is to be taken (R94). -/
theorem tryActivate_takes (still : s.mar.active = none) (queue : s.mar.queue = before ++ rq :: after)
    (ahead : ∀ x ∈ before, ¬ Eligible s x) (first : Eligible s rq)
    (taken : takeRequest false rq (setMotionQueue (before ++ after) s) = u) (rests : ActivationRests u) :
    tryActivate s = u := by
  have found : s.mar.queue.find? (eligible s) = some rq := by
    have passed : before.find? (eligible s) = none := by simpa [List.find?_eq_none, eligible_iff] using ahead
    simp [queue, passed, (eligible_iff s rq).2 first]
  have left : unqueue rq s = setMotionQueue (before ++ after) s := by
    have absent : rq ∉ before := fun mem => ahead rq mem first
    simp [unqueue, setMotionQueue, queue, List.erase_append_right _ absent]
  have fuel : s.mar.queue.length = (before ++ after).length + 1 := by simp [queue, Nat.add_assoc]
  rw [tryActivate, fuel, activationLoop, found]
  simp [still, left, taken, activationLoop_rests _ rests]

/-! ### A motion starts (R69, R71, R77) -/

theorem startDrive_other (active : s.mar.active = some a)
    (search : ∀ ph, a.job ≠ .search ph) (jog : ∀ d v n, a.job ≠ .jog d v n)
    (still : s.xhc.drive = .disabled ∨ s.xhc.drive = .holding) : startDrive s = { s with xhc := startedDrive s.xhc } := by
  rcases still with disabled | holding
  · simp [startDrive, startedDrive, disabled, releasingDrive]
  · have begun := beginMotion_other (s := { s with xhc := { s.xhc with drive := .moving, holdTimer := none } }) active search jog
    simp [startDrive, startedDrive, holding, begun]

theorem startDrive_search (active : s.mar.active = some a) (search : a.job = .search .waiting)
    (still : s.xhc.drive = .disabled ∨ s.xhc.drive = .holding) :
    startDrive s =
      { s with
        xhc := startedDrive s.xhc, mar := { s.mar with active := some { a with job := .search (startedSearch s) } } } := by
  rcases still with disabled | holding
  · have same : s.mar.active = some { a with job := .search (startedSearch s) } := by
      rw [active, startedSearch, if_pos disabled, ← search]
    simp [startDrive, startedDrive, disabled, releasingDrive, ← same]
  · have begun := beginMotion_search (s := { s with xhc := { s.xhc with drive := .moving, holdTimer := none } }) active search
    simp [startDrive, startedDrive, startedSearch, holding, begun, setJob, active]

section
variable {d : Direction} {v n : Int} (active : s.mar.active = some a) (jog : a.job = .jog d v n)
include active jog

theorem startDrive_jog (still : s.xhc.drive = .disabled ∨ s.xhc.drive = .holding)
    (away : s.xhc.drive = .disabled ∨ atSoftLimit s.xhc d = false) :
    startDrive s = { s with xhc := startedJog n s.xhc } := by
  rcases still with disabled | holding
  · simp [startDrive, startedJog, disabled, releasingDrive]
  · have free : atSoftLimit { s.xhc with drive := .moving, holdTimer := none } d = false := by
      simpa [holding, atSoftLimit] using away
    have begun := beginMotion_jog (s := { s with xhc := { s.xhc with drive := .moving, holdTimer := none } }) active jog
    simp [startDrive, startedJog, holding, begun, free]

/-- A jog that enters MOVING at the soft limit in its direction ends there (R77). -/
theorem startDrive_jogEnds (holding : s.xhc.drive = .holding) (reached : atSoftLimit s.xhc d = true)
    (hold : s.xhc.config.holdTime ≠ 0) :
    startDrive s =
      raise a.port .motionDone
        { s with
          mar := { s.mar with active := none }.setSlot a.port (some (ended .jog a.tag .stoppedLimit s)),
          xhc := holdingDrive s.xhc } := by
  obtain ⟨u, hu⟩ : ∃ u : State, u = { s with xhc := { s.xhc with drive := .moving, holdTimer := none } } := ⟨_, rfl⟩
  have begun : u.mar.active = some a := by rw [hu, ← active]
  have stands : atSoftLimit u.xhc d = true := by rw [hu]; exact reached
  have kind : activeKind a.job = .jog := by rw [jog]; rfl
  calc startDrive s
    _ = beginMotion u := by simp [startDrive, holding, hu]
    _ = endMotion .stoppedLimit u := by rw [beginMotion_jog begun jog, if_pos stands]
    _ = _ := by
      rw [endMotion_eq _ begun (by simp [jog]) (by rw [hu]; exact hold), kind, hu]
      rfl

end

/-! ### The recheck by the hard-limit switches (R81, R95) -/

theorem limitForbids_of_clear (clear : LimitsClear s) (j : MotionJob) : limitForbids s j = false := by
  simp [limitForbids, State.atHardLimit, clear.1, clear.2]

theorem limitForbids_jog (d : Direction) (v n : Int) : limitForbids s (.jog d v n) = true ↔ limitAhead s.inputs d := by
  cases d <;> simp [limitForbids, State.atHardLimit, pointsAway, limitAhead] <;> tauto

theorem limitForbids_other {j : MotionJob} (active : s.inputs.upperLimit = true ∨ s.inputs.lowerLimit = true)
    (ahead : ∀ d v n, j = .jog d v n → limitAhead s.inputs d) : limitForbids s j = true := by
  cases j with
  | jog d v n => exact (limitForbids_jog d v n).2 (ahead d v n rfl)
  | _ => simpa [limitForbids, State.atHardLimit] using active

/-! ### A motion becomes active (R69, R77) -/

/-- A motion that is active has entered the drive by R69, from a drive at rest. -/
def startedWith (rq : MotionRequest) (j : ActiveJob) (s : State) : State :=
  { s with
    mar := { s.mar with active := some { port := rq.port, tag := rq.tag, job := j } }, xhc := startedDrive s.xhc }

theorem makeActive_other {j : ActiveJob} (search : ∀ ph, j ≠ .search ph) (jog : ∀ d v n, j ≠ .jog d v n)
    (still : s.xhc.drive = .disabled ∨ s.xhc.drive = .holding) : makeActive rq j s = startedWith rq j s :=
  startDrive_other (s := { s with mar := { s.mar with active := some { port := rq.port, tag := rq.tag, job := j } } }) rfl search
    jog still

theorem workingTarget_eq (c : FrameConfig) (target : Int) :
    workingTarget c target = (clampTo c.lowerSoft c.upperSoft target, clampTo c.lowerSoft c.upperSoft target != target) := by
  have clamped : outside c.lowerSoft c.upperSoft target = (clampTo c.lowerSoft c.upperSoft target != target) := by
    rw [Bool.eq_iff_iff]
    simp only [outside, clampTo, Bool.or_eq_true, decide_eq_true_eq, bne_iff_ne]
    split
    · omega
    · split <;> omega
  rw [workingTarget, clamped]

theorem makeActive_search (still : s.xhc.drive = .disabled ∨ s.xhc.drive = .holding) :
    makeActive rq (.search .waiting) (startSearch s) =
      { s with
        mar := { s.mar with active := some { port := rq.port, tag := rq.tag, job := .search (startedSearch s) } },
        xhc := { startedDrive s.xhc with referenceValid := false, searchTravel := 0 } } := by
  obtain ⟨u, hu⟩ : ∃ u : State, u =
      { startSearch s with
        mar := { s.mar with active := some { port := rq.port, tag := rq.tag, job := .search .waiting } } } := ⟨_, rfl⟩
  have started : startDrive u = _ := startDrive_search (by rw [hu]) rfl (by rw [hu]; exact still)
  have phase : startedSearch u = startedSearch s := by rw [hu]; rfl
  have drive : startedDrive (startSearch s).xhc = { startedDrive s.xhc with referenceValid := false, searchTravel := 0 } := by
    unfold startedDrive
    by_cases disabled : s.xhc.drive = .disabled <;> simp [startSearch, disabled, releasingDrive]
  have made : makeActive rq (.search .waiting) (startSearch s) = startDrive u := by rw [hu]; rfl
  rw [made, started, phase, hu]
  simp only [drive]
  rfl

section
variable {d : Direction} {v n : Int}

theorem makeActive_jog (still : s.xhc.drive = .disabled ∨ s.xhc.drive = .holding)
    (away : s.xhc.drive = .disabled ∨ atSoftLimit s.xhc d = false) :
    makeActive rq (.jog d v n) s =
      { s with
        mar := { s.mar with active := some { port := rq.port, tag := rq.tag, job := .jog d v n } },
        xhc := startedJog n s.xhc } :=
  startDrive_jog (s := { s with mar := { s.mar with active := some { port := rq.port, tag := rq.tag, job := .jog d v n } } })
    rfl rfl still away

/-- A jog that ends as it starts leaves what a request that ended at once leaves, but for the drive, which holds (R69, R77). -/
theorem makeActive_jogEnds (job : jobKind rq.job = .jog) (none : s.mar.active = none) (holding : s.xhc.drive = .holding)
    (reached : atSoftLimit s.xhc d = true) (hold : s.xhc.config.holdTime ≠ 0) :
    makeActive rq (.jog d v n) s =
      { endedAtOnce rq s.mar.queue .stoppedLimit Option.none s with xhc := holdingDrive s.xhc } := by
  have ends := startDrive_jogEnds
    (s := { s with mar := { s.mar with active := some { port := rq.port, tag := rq.tag, job := .jog d v n } } }) rfl rfl holding
    reached hold
  have same : ({ s.mar with active := Option.none } : Arbiter) = s.mar := by rw [← none]
  simp only [makeActive, ends, endedAtOnce, job, same]
  cases rq.port <;> rfl

end

/-! ### A request taken (R74, R76, R95) -/

section
variable {b : Bool}

theorem endAtOnce_eq (rq : MotionRequest) (o : MotionOutcome) (r : Option Reason) (rest : List MotionRequest) (s : State) :
    endAtOnce false rq o r (setMotionQueue rest s) = endedAtOnce rq rest o r s := rfl

/-- A move in its recheck stands neither without a reference nor, as a sequencer's MOVE TO, at an open gate (R95). -/
def MovePasses (rq : MotionRequest) (s : State) : Prop :=
  s.xhc.referenceValid = true ∧ (rq.job ≠ .retract → rq.port = .sequencer → s.inputs.gateOpen = false)

theorem takeMove_unreferenced (target speed : Int) (invalid : s.xhc.referenceValid = false) :
    takeMove b rq target speed s = endAtOnce b rq .notStarted (some (.refusal .noReference)) s := by
  simp [takeMove, invalid]

theorem takeMove_gate (target speed : Int) (valid : s.xhc.referenceValid = true) (move : rq.job ≠ .retract)
    (port : rq.port = .sequencer) (opened : s.inputs.gateOpen = true) :
    takeMove b rq target speed s = endAtOnce b rq .stoppedGate none s := by
  simp [takeMove, valid, move, port, opened]

variable {target speed w : Int} (hw : w = clampTo s.xhc.config.lowerSoft s.xhc.config.upperSoft target)
include hw

theorem takeMove_passes (passes : MovePasses rq s) :
    takeMove b rq target speed s =
      if ((w - s.xhc.position).natAbs : Int) ≤ s.xhc.config.band then
        endAtOnce b rq (if (w != target) && rq.job != .retract then .doneClamped else .done) none s
      else makeActive rq (if rq.job = .retract then .retract w speed 0 else .move w speed (w != target) 0) s := by
  obtain ⟨valid, gate⟩ := passes
  have free : (rq.job != .retract && rq.port == .sequencer && s.inputs.gateOpen) = false := by
    by_cases retract : rq.job = .retract
    · simp [retract]
    · by_cases port : rq.port = .sequencer <;> simp [port, gate retract]
  simp only [takeMove, workingTarget_eq, ← hw, valid, free, inBand_iff]
  rfl

end

section
variable {b : Bool} (clear : LimitsClear s)
include clear

theorem takeRequest_moveTo {target speed : Int} (job : rq.job = .moveTo target speed) :
    takeRequest b rq s = takeMove b rq target speed s := by
  simp [takeRequest, limitForbids_of_clear clear, job]

theorem takeRequest_retract (job : rq.job = .retract) :
    takeRequest b rq s = takeMove b rq s.xhc.config.retractPosition s.xhc.config.vmax s := by
  simp [takeRequest, limitForbids_of_clear clear, job]

theorem takeRequest_search (job : rq.job = .referenceSearch) :
    takeRequest b rq s =
      if rq.port = .sequencer ∧ s.inputs.gateOpen = true then endAtOnce b rq .stoppedGate none s
      else makeActive rq (.search .waiting) (startSearch s) := by
  simp [takeRequest, limitForbids_of_clear clear, job]

theorem takeRequest_startTest (job : rq.job = .startTest) : takeRequest b rq s = takeStartTest rq s := by
  simp [takeRequest, limitForbids_of_clear clear, job]

theorem takeRequest_moveTo_starts {target speed w : Int} (job : rq.job = .moveTo target speed)
    (hw : w = clampTo s.xhc.config.lowerSoft s.xhc.config.upperSoft target) (passes : MovePasses rq s)
    (away : s.xhc.config.band < ((w - s.xhc.position).natAbs : Int))
    (still : s.xhc.drive = .disabled ∨ s.xhc.drive = .holding) :
    takeRequest b rq s = startedWith rq (.move w speed (w != target) 0) s := by
  rw [takeRequest_moveTo clear job, takeMove_passes hw passes, if_neg (Int.not_le.2 away), if_neg (by simp [job]),
    makeActive_other (by simp) (by simp) still]

theorem takeRequest_moveTo_inBand {target speed w : Int} (job : rq.job = .moveTo target speed)
    (hw : w = clampTo s.xhc.config.lowerSoft s.xhc.config.upperSoft target) (passes : MovePasses rq s)
    (band : ((w - s.xhc.position).natAbs : Int) ≤ s.xhc.config.band) :
    takeRequest b rq s = endAtOnce b rq (if w = target then .done else .doneClamped) none s := by
  rw [takeRequest_moveTo clear job, takeMove_passes hw passes, if_pos band]
  by_cases same : w = target <;> simp [same, job]

theorem takeRequest_retract_passes {w : Int} (job : rq.job = .retract)
    (hw : w = clampTo s.xhc.config.lowerSoft s.xhc.config.upperSoft s.xhc.config.retractPosition)
    (valid : s.xhc.referenceValid = true) :
    takeRequest b rq s =
      if ((w - s.xhc.position).natAbs : Int) ≤ s.xhc.config.band then endAtOnce b rq .done none s
      else makeActive rq (.retract w s.xhc.config.vmax 0) s := by
  have passes : MovePasses rq s := ⟨valid, fun move => absurd job move⟩
  rw [takeRequest_retract clear job, takeMove_passes hw passes]
  simp [job]

theorem takeRequest_retract_starts {w : Int} (job : rq.job = .retract)
    (hw : w = clampTo s.xhc.config.lowerSoft s.xhc.config.upperSoft s.xhc.config.retractPosition)
    (valid : s.xhc.referenceValid = true) (away : s.xhc.config.band < ((w - s.xhc.position).natAbs : Int))
    (still : s.xhc.drive = .disabled ∨ s.xhc.drive = .holding) :
    takeRequest b rq s = startedWith rq (.retract w s.xhc.config.vmax 0) s := by
  rw [takeRequest_retract_passes clear job hw valid, if_neg (Int.not_le.2 away), makeActive_other (by simp) (by simp) still]

theorem takeRequest_search_starts (job : rq.job = .referenceSearch)
    (gate : rq.port = .sequencer → s.inputs.gateOpen = false)
    (still : s.xhc.drive = .disabled ∨ s.xhc.drive = .holding) :
    takeRequest b rq s =
      { s with
        mar := { s.mar with active := some { port := rq.port, tag := rq.tag, job := .search (startedSearch s) } },
        xhc := { startedDrive s.xhc with referenceValid := false, searchTravel := 0 } } := by
  have free : ¬ (rq.port = .sequencer ∧ s.inputs.gateOpen = true) := fun ⟨port, opened⟩ => by simp [gate port] at opened
  rw [takeRequest_search clear job, if_neg free, makeActive_search still]

end

theorem takeRequest_jog {b : Bool} {d : Direction} {v n : Int} (free : ¬ limitAhead s.inputs d) (job : rq.job = .jog d v n) :
    takeRequest b rq s = makeActive rq (.jog d (min v s.xhc.config.jogLimit) n) s := by
  have passes : limitForbids s (.jog d v n) = false := by
    rw [← Bool.not_eq_true, limitForbids_jog]
    exact free
  simp [takeRequest, job, passes]

theorem takeRequest_forbidden {b : Bool} (forbidden : limitForbids s rq.job = true) :
    takeRequest b rq s = endAtOnce b rq .notStarted (some (.refusal .atLimit)) s := by
  simp [takeRequest, forbidden]

/-- The test that an activation leaves is the new one, gone on by at most the entry of the capture's level (R111, R178). -/
theorem activateTest_inTest (m : MountedSpecimen) (p : Plan) (s : State) :
    InTest 1 (newTest (s.tex.serial + 1) m p) (activateTest m p s) :=
  setLevel_inTest (inTest_of_test (by simp))

/-- What an activation leaves of the executive: the next serial, and a test of it in PRELOAD on its plan (R109, R111). -/
theorem activateTest_tex (m : MountedSpecimen) (p : Plan) (s : State) :
    ∃ t, (activateTest m p s).tex = { plans := s.tex.plans, serial := s.tex.serial + 1, test := some t } ∧
      t.serial = s.tex.serial + 1 ∧ t.phase = .preload ∧ t.plan = p := by
  obtain ⟨t, test, going⟩ := activateTest_inTest m p s
  obtain ⟨-, -, serial, identity, -⟩ := activateTest_fields m p s
  have same : t.identity = (newTest (s.tex.serial + 1) m p).identity := by simpa [test] using identity
  have plans : (activateTest m p s).tex.plans = s.tex.plans := by simp [activateTest]
  exact ⟨t, by rw [← plans, ← serial, ← test], congrArg Prod.fst same, going.phase, going.plan⟩

/-- A test is activated whose start conditions hold (R110, R111). -/
theorem takeStartTest_starts {m : MountedSpecimen} {p : Plan} (allowed : startRefusal s = none) (slot : s.spt.slot = some m)
    (plan : s.tex.plans[m.specimen.plan] = some p) (still : s.xhc.drive = .disabled ∨ s.xhc.drive = .holding) :
    takeStartTest rq s = activateTest m p (startedWith rq .test s) := by
  simp only [takeStartTest, allowed, slot, plan]
  rw [makeActive_other (by simp) (by simp) still]

end Sys2Proof.Machine

open Sys2Proof Sys2Proof.Machine

/-- Settles O40: the first eligible request is taken (`tryActivate_takes`), rechecked (`takeRequest_move` and its companions), and
activation rests with the motion it started, or with nothing eligible left. -/
theorem activationTakesTheFirstEligible : Obligations.ActivationTakesTheFirstEligible := by
  unfold Obligations.ActivationTakesTheFirstEligible
  refine ⟨fun s rests => ?_, fun s before after rq none queue ahead first => ?_⟩
  · exact congrArg Host.Outcome.next (tryActivate_rests rests)
  have starts {u : State} (taken : takeRequest false rq (setMotionQueue (before ++ after) s) = u)
      (running : u.mar.active ≠ Option.none) : exec .activation s = .next u :=
    congrArg Host.Outcome.next (tryActivate_takes none queue ahead first taken (.inl running))
  have ends (rest : ∀ x ∈ after, ¬ Eligible s x) {u : State}
      (taken : takeRequest false rq (setMotionQueue (before ++ after) s) = u)
      (left : u.mar.queue = before ++ after) (holder : u.mar.holder = s.mar.holder) (fault : u.ldc = s.ldc) :
      exec .activation s = .next u := by
    refine congrArg Host.Outcome.next (tryActivate_takes none queue ahead first taken (.inr fun x mem => ?_))
    rw [Eligible.congr holder (by rw [fault])]
    rcases List.mem_append.1 (left ▸ mem) with before | after
    · exact ahead x before
    · exact rest x after
  refine ⟨fun still => ⟨fun clear x hx =>
    ⟨fun w clamped speed valid away => ⟨fun target job gate hw hc => ?_, fun job hs hw => ?_⟩, fun job gate => ?_,
      fun job allowed m p slot plan => ?_⟩, fun d speed duration job free => ⟨fun away => ?_,
    fun holding reached hold rest => ?_⟩⟩, fun rest => ?_⟩
  · subst hx hc
    exact starts (takeRequest_moveTo_starts (s := setMotionQueue (before ++ after) s) clear job hw ⟨valid, fun _ => gate⟩ away
      still) (by simp)
  · subst hx hs
    exact starts (takeRequest_retract_starts (s := setMotionQueue (before ++ after) s) clear job hw valid away still)
      (by simp)
  · subst hx
    exact starts (takeRequest_search_starts (s := setMotionQueue (before ++ after) s) clear job gate still) (by simp)
  · have taken := takeStartTest_starts (s := setMotionQueue (before ++ after) s) (rq := rq) allowed slot plan still
    obtain ⟨t, tex, serial, phase, plan⟩ := activateTest_tex m p (startedWith rq .test (setMotionQueue (before ++ after) s))
    obtain ⟨spt, -⟩ := activateTest_fields m p (startedWith rq .test (setMotionQueue (before ++ after) s))
    refine ⟨_, t, starts ((takeRequest_startTest (s := setMotionQueue (before ++ after) s) clear job).trans taken) ?_, ?_, ?_,
      tex, serial, phase, plan, spt⟩
    · simp [startedWith]
    · simp [startedWith, setMotionQueue]
    · simp [startedWith, hx]
  · exact starts ((takeRequest_jog (s := setMotionQueue (before ++ after) s) free job).trans
      (makeActive_jog (s := setMotionQueue (before ++ after) s) still away)) (by simp)
  · have taken := (takeRequest_jog (b := false) (s := setMotionQueue (before ++ after) s) free job).trans
      (makeActive_jogEnds (s := setMotionQueue (before ++ after) s) (by rw [job]; rfl) none holding reached hold)
    exact ends rest taken (by simp [endedAtOnce]) (by simp [endedAtOnce])
      (by simp [endedAtOnce])
  have endsAtOnce {o : MotionOutcome} {reason : Option Reason}
      (taken : takeRequest false rq (setMotionQueue (before ++ after) s) =
        endAtOnce false rq o reason (setMotionQueue (before ++ after) s)) :
      exec .activation s = .next (endedAtOnce rq (before ++ after) o reason s) := by
    rw [endAtOnce_eq] at taken
    exact ends rest taken (by simp [endedAtOnce]) (by simp [endedAtOnce]) (by simp [endedAtOnce])
  refine ⟨fun active ahead => ?_, fun clear => ⟨fun move invalid => ?_, fun move port opened => ?_, fun o job refused => ?_,
    fun w valid band => ⟨fun target speed job gate hw => ?_, fun job hw => ?_⟩⟩⟩
  · exact endsAtOnce (takeRequest_forbidden (limitForbids_other (s := setMotionQueue (before ++ after) s) active ahead))
  · rcases move with job | ⟨target, speed, job⟩
    · exact endsAtOnce ((takeRequest_retract (s := setMotionQueue (before ++ after) s) clear job).trans
        (takeMove_unreferenced _ _ invalid))
    · exact endsAtOnce ((takeRequest_moveTo (s := setMotionQueue (before ++ after) s) clear job).trans
        (takeMove_unreferenced _ _ invalid))
  · rcases move with ⟨target, speed, job, valid⟩ | job
    · exact endsAtOnce ((takeRequest_moveTo (s := setMotionQueue (before ++ after) s) clear job).trans
        (takeMove_gate _ _ valid (by simp [job]) port opened))
    · exact endsAtOnce ((takeRequest_search (s := setMotionQueue (before ++ after) s) clear job).trans
        (if_pos ⟨port, opened⟩))
  · have refusal : startRefusal (setMotionQueue (before ++ after) s) = some o := refused
    exact endsAtOnce ((takeRequest_startTest (s := setMotionQueue (before ++ after) s) clear job).trans
      (by simp only [takeStartTest, refusal]))
  · exact endsAtOnce (takeRequest_moveTo_inBand (s := setMotionQueue (before ++ after) s) clear job hw ⟨valid, fun _ => gate⟩
      band)
  · exact endsAtOnce ((takeRequest_retract_passes (s := setMotionQueue (before ++ after) s) clear job hw valid).trans
      (if_pos band))

end

section

/-! PROOF. Motion requests accepted (R78, R89 to R93). -/

namespace Sys2Proof.Machine

variable {s u : State} {a : ActiveMotion} {rq : MotionRequest} {p : Port} {tag : Tag} {j : MotionJob}

/-! ### The condition of a port's request (R90) -/

theorem requestCondition_active {m : Arbiter} (active : m.active = some a) (own : a.port = p) :
    requestCondition m p = .active := by
  simp [requestCondition, activeOf_eq_some active own]

theorem requestCondition_queued {m : Arbiter} (other : ∀ a ∈ m.active, a.port ≠ p) {before : List MotionRequest}
    (queue : m.queue = before ++ [rq]) (own : rq.port = p) (ahead : ∀ x ∈ before, x.port ≠ p) :
    requestCondition m p = .queued (before.length + 1) := by
  simp [requestCondition, activeOf_eq_none other, queue, queuePosition_append own ahead]

theorem requestCondition_filed {m : Arbiter} (still : m.active = none) (queue : m.queue = []) {c : Completion}
    (filed : m.slot p = some c) : requestCondition m p = .filed := by
  simp [requestCondition, activeOf_eq_none (p := p) (m := m) (by simp [still]), queue, queuePosition, filed]

/-! ### The checks of R91 passed -/

theorem earlyRefusal_passes (form : motionForm s.xhc.config j = true) (estop : s.inputs.estop = false)
    (fault : s.ldc.loadFault = false ∨ ∃ d v n, j = .jog d v n) (free : limitForbids s j = false) :
    earlyRefusal j s = none := by
  rcases fault with runs | ⟨d, v, n, rfl⟩
  · simp [earlyRefusal, form, estop, free, runs]
  · simp [earlyRefusal, form, estop, free]

theorem lateRefusal_passes (claim : claimant p s = true ∨ j = .retract ∨ jogsUnclaimed j s = true)
    (other : ∀ a ∈ s.mar.active, a.port ≠ p) (queued : ∀ rq ∈ s.mar.queue, rq.port ≠ p) (slot : s.mar.slot p = none)
    (kind : kindRefusal p j s = none) : lateRefusal p j s = none := by
  have free : requestOpen s.mar p = false := by
    simp [requestOpen, activeOf_eq_none other, queuedOf_eq_none queued]
  have claims : (claimant p s || j == .retract || jogsUnclaimed j s) = true := by
    rcases claim with claim | claim | claim <;> simp [claim]
  simp [lateRefusal, claims, free, slot, kind]

theorem motionReply_accepts (early : earlyRefusal j s = none) (late : lateRefusal p j s = none) :
    motionReply p tag j s = acceptMotion { port := p, tag := tag, job := j } s := by
  simp [motionReply, early, late]

/-! ### Acceptance with nothing ahead (R92, R94) -/

theorem placeRequest_rest (still : s.mar.active = none) (queue : s.mar.queue = []) (rq : MotionRequest) :
    placeRequest rq s = setMotionQueue [rq] s := by
  have none_preempted : preemptible s = none := by simp [preemptible, still]
  simp [placeRequest, placeRetract, none_preempted, queue]

/-- The only request there is, eligible, is taken at its acceptance. -/
theorem tryActivate_only (still : s.mar.active = none) (queue : s.mar.queue = []) (first : Eligible s rq)
    (taken : takeRequest false rq s = u) (rests : u.mar.active ≠ none ∨ u.mar.queue = []) :
    tryActivate (setMotionQueue [rq] s) = u := by
  have same : setMotionQueue ([] ++ []) (setMotionQueue [rq] s) = s := by
    show setMotionQueue [] s = s
    rw [← queue]
    rfl
  refine tryActivate_takes (before := []) (after := []) still rfl (by simp) first (by rw [same, taken]) ?_
  exact rests.imp_right fun empty => by simp [empty]

theorem ready_eligible (ready : ReadyFor p s) (tag : Tag) (j : MotionJob) : Eligible s { port := p, tag := tag, job := j } :=
  ⟨.inr ready.holder, fun fault => by simp [ready.loadFault] at fault⟩

/-- A request from a port that may have a motion start at once is answered by what its activation leaves. -/
theorem motionReply_ready (ready : ReadyFor p s) (form : motionForm s.xhc.config j = true) (free : limitForbids s j = false)
    (kind : kindRefusal p j s = none) (taken : takeRequest false { port := p, tag := tag, job := j } s = u)
    (rests : u.mar.active ≠ none ∨ u.mar.queue = []) :
    motionReply p tag j s = { state := u, outcome := .queued, payload := .motion (requestCondition u.mar p) none } := by
  have early : earlyRefusal j s = none := earlyRefusal_passes form ready.estop (.inl ready.loadFault) free
  have claim : claimant p s = true := by simp [claimant, ready.holder]
  have late : lateRefusal p j s = none :=
    lateRefusal_passes (.inl claim) (by simp [ready.active]) (by simp [ready.queue]) ready.slot kind
  have unclaimed : claimsByJog { port := p, tag := tag, job := j } s = false := by simp [claimsByJog, claim]
  have admitted : admitMotion { port := p, tag := tag, job := j } s = u := by
    rw [admitMotion, unclaimed, if_neg (by simp), placeRequest_rest ready.active ready.queue]
    exact tryActivate_only ready.active ready.queue (ready_eligible ready tag j) taken rests
  rw [motionReply_accepts early late, acceptMotion, admitted, unclaimed]
  rfl

/-- A motion has started at once: the answer says so. -/
theorem motionReply_starts (ready : ReadyFor p s) (form : motionForm s.xhc.config j = true) (free : limitForbids s j = false)
    (kind : kindRefusal p j s = none) (taken : takeRequest false { port := p, tag := tag, job := j } s = u)
    (active : u.mar.active = some a) (own : a.port = p) :
    motionReply p tag j s = { state := u, outcome := .queued, payload := .motion .active none } := by
  rw [motionReply_ready ready form free kind taken (.inl (by simp [active])), requestCondition_active active own]

theorem jogReply_other {d : Direction} {v n : Int} (other : ownJogActive p s = false)
    (early : earlyRefusal (.jog d v n) s = none) : jogReply p tag d v n s = motionReply p tag (.jog d v n) s := by
  simp [jogReply, early, other]

end Sys2Proof.Machine

open Sys2Proof Sys2Proof.Machine

/-- Settles O21, by the motion that each request starts (`motionReply_starts`); the jog at the soft limit has ended in its own
activation (`makeActive_jogEnds`). -/
theorem motionStartsFromRest : Obligations.MotionStartsFromRest := by
  unfold Obligations.MotionStartsFromRest
  intro r s x form ready still hx
  subst hx
  refine ⟨fun clear => ⟨fun target speed w port low high slow fast valid hw away => ?_, fun port => ?_,
    fun w port idle valid hw away => ?_⟩, fun d speed duration port slow fast short long free => ?_⟩
  · have kind : kindRefusal r.port (.moveTo target speed) s = none := by simp [kindRefusal, valid, ready.gate]
    exact request_answered (permitted_of_motionPort port).1 form (motionReply_starts ready (motionForm_moveTo low high slow fast)
      (limitForbids_of_clear clear _) kind
      (takeRequest_moveTo_starts clear rfl hw ⟨valid, fun _ _ => ready.gate⟩ away still) rfl rfl)
  · have kind : kindRefusal r.port .referenceSearch s = none := by simp [kindRefusal, ready.gate]
    exact request_answered (by rw [port]; rfl) form (motionReply_starts ready rfl (limitForbids_of_clear clear _) kind
      (takeRequest_search_starts clear rfl (fun _ => ready.gate) still) rfl rfl)
  · have kind : kindRefusal r.port .retract s = none := by simp [kindRefusal, testIdle_of_none idle, valid]
    exact request_answered (by rw [port]; rfl) form (motionReply_starts ready rfl (limitForbids_of_clear clear _) kind
      (takeRequest_retract_starts clear rfl hw valid away still) rfl rfl)
  · have allowed : permitted .jog r.port = true := by rw [port]; rfl
    have formed : motionForm s.xhc.config (.jog d speed duration) = true := motionForm_jog slow fast short long
    have passes : limitForbids s (.jog d speed duration) = false := by
      rw [← Bool.not_eq_true, limitForbids_jog]
      exact free
    have early := earlyRefusal_passes formed ready.estop (.inl ready.loadFault) passes
    have other : ownJogActive r.port s = false := by simp [ownJogActive, activeOf, ready.active]
    refine ⟨fun away => ?_, fun holding reached hold => ?_⟩
    all_goals refine request_answered allowed form ((jogReply_other other early).trans ?_)
    · exact motionReply_starts ready formed passes rfl ((takeRequest_jog free rfl).trans (makeActive_jog still away)) rfl rfl
    · have taken := (takeRequest_jog (b := false) (rq := { port := r.port, tag := r.tag, job := .jog d speed duration }) free
        rfl).trans (makeActive_jogEnds rfl ready.active holding reached hold)
      rw [motionReply_ready ready formed passes rfl taken (.inr (by simp [endedAtOnce, ready.queue])),
        requestCondition_filed (by simp [endedAtOnce, ready.active]) (by simp [endedAtOnce, ready.queue])
          (by simp [endedAtOnce, slot_setSlot, port, motionPort]; rfl)]
      simp only [endedAtOnce, port]
      rfl

end

section

/-! PROOF. Motion requests that meet another motion or another's claim (R76, R78, R89 to R93). -/

namespace Sys2Proof.Machine

variable {s u : State} {a : ActiveMotion} {rq : MotionRequest} {p : Port} {tag : Tag} {j : MotionJob}
  {d : Direction} {v n : Int}

/-! ### A request queued (R92) -/

theorem placeRequest_queues (other : rq.job ≠ .retract) (s : State) :
    placeRequest rq s = setMotionQueue (s.mar.queue ++ [rq]) s := by
  simp [placeRequest, other]

/-- A request from a claimant joins the queue where activation rests with what stands there. -/
theorem motionReply_queues (early : earlyRefusal j s = none) (late : lateRefusal p j s = none) (claim : claimant p s = true)
    (other : j ≠ .retract) (idle : ∀ a ∈ s.mar.active, a.port ≠ p) (queued : ∀ rq ∈ s.mar.queue, rq.port ≠ p)
    (rests : ActivationRests (setMotionQueue (s.mar.queue ++ [{ port := p, tag := tag, job := j }]) s)) :
    motionReply p tag j s =
      { state := setMotionQueue (s.mar.queue ++ [{ port := p, tag := tag, job := j }]) s, outcome := .queued,
        payload := .motion (.queued (s.mar.queue.length + 1)) none } := by
  have unclaimed : claimsByJog { port := p, tag := tag, job := j } s = false := by simp [claimsByJog, claim]
  have admitted : admitMotion { port := p, tag := tag, job := j } s =
      setMotionQueue (s.mar.queue ++ [{ port := p, tag := tag, job := j }]) s := by
    rw [admitMotion, unclaimed, if_neg (by simp), placeRequest_queues other, tryActivate_rests rests]
  have condition := requestCondition_queued (m := (setMotionQueue (s.mar.queue ++ [{ port := p, tag := tag, job := j }]) s).mar)
    idle rfl rfl queued
  rw [motionReply_accepts early late, acceptMotion, admitted, unclaimed, condition]
  rfl

/-! ### A RETRACT that preempts (R76, R93) -/

/-- The end of a motion filed, and the motion no longer active. -/
theorem clearActive_fileActiveEnd (a : ActiveMotion) (o : MotionOutcome) (s : State) :
    clearActive (fileActiveEnd a o s) =
      raise a.port .motionDone
        { s with mar := { s.mar with active := none }.setSlot a.port (some (ended (activeKind a.job) a.tag o s)) } := by
  obtain ⟨port, tag, j⟩ := a
  cases port <;> rfl

theorem preemptible_of_active (active : s.mar.active = some a) (port : a.port = .sequencer)
    (job : (∃ p v c q, a.job = .move p v c q) ∨ ∃ ph, a.job = .search ph) : preemptible s = some a := by
  rcases job with ⟨p, v, c, q, job⟩ | ⟨ph, job⟩ <;> simp [preemptible, active, port, job]

theorem sequencerSearches_of_active {ph : SearchPhase} (active : s.mar.active = some a) (port : a.port = .sequencer)
    (search : a.job = .search ph) : sequencerSearches s = true := by
  obtain ⟨q, tag, j⟩ := a
  obtain rfl : q = .sequencer := port
  obtain rfl : j = .search ph := search
  simp [sequencerSearches, active]

section
variable {g : State} (early : earlyRefusal .retract s = none) (late : lateRefusal p .retract s = none)
  (preempts : preemptible s = some a) (gone : g = clearActive (fileActiveEnd a .preempted s))
  (taken : takeRequest true { port := p, tag := tag, job := .retract } g = u)
include early late preempts gone taken

/-- An accepted RETRACT is taken in the place of the motion that it preempts. -/
theorem motionReply_preempts (rests : ActivationRests u) :
    motionReply p tag .retract s = { state := u, outcome := .queued, payload := .motion (requestCondition u.mar p) none } := by
  have unclaimed : claimsByJog { port := p, tag := tag, job := .retract } s = false := by simp [claimsByJog, jogsUnclaimed]
  have admitted : admitMotion { port := p, tag := tag, job := .retract } s = u := by
    simp [admitMotion, unclaimed, placeRequest, placeRetract, preempts, ← gone, taken, tryActivate_rests rests]
  rw [motionReply_accepts early late, acceptMotion, admitted, unclaimed]
  rfl

theorem motionReply_preempts_active {b : ActiveMotion} (active : u.mar.active = some b) (own : b.port = p) :
    motionReply p tag .retract s = { state := u, outcome := .queued, payload := .motion .active none } := by
  rw [motionReply_preempts early late preempts gone taken (.inl (by simp [active])), requestCondition_active active own]

theorem motionReply_preempts_filed (still : u.mar.active = none) (queue : u.mar.queue = []) {c : Completion}
    (filed : u.mar.slot p = some c) :
    motionReply p tag .retract s = { state := u, outcome := .queued, payload := .motion .filed none } := by
  rw [motionReply_preempts early late preempts gone taken (.inr (by simp [queue])), requestCondition_filed still queue filed]

end

/-- A motion that becomes active in a drive under way leaves the drive as it is (R76). -/
theorem makeActive_underWay {k : ActiveJob} (drive : s.xhc.drive = .releasing ∨ s.xhc.drive = .moving) :
    makeActive rq k s = { s with mar := { s.mar with active := some { port := rq.port, tag := rq.tag, job := k } } } := by
  rcases drive with drive | drive <;> simp [makeActive, startDrive, drive]

theorem heldDrive_of_holdTime {x : Crosshead} (hold : x.config.holdTime ≠ 0) : heldDrive x = holdingDrive x :=
  if_neg hold

theorem endAtOnce_preempting (o : MotionOutcome) (r : Option Reason) (hold : s.xhc.config.holdTime ≠ 0) :
    endAtOnce true rq o r s = { fileRequestEnd rq o r s with xhc := holdingDrive s.xhc } := by
  have held : heldDrive (fileRequestEnd rq o r s).xhc = holdingDrive s.xhc := by simp [heldDrive_of_holdTime hold]
  simp only [endAtOnce, driveHold_eq, held, if_true]

section
variable {w : Int} (early : earlyRefusal .retract s = none) (late : lateRefusal p .retract s = none)
  (preempts : preemptible s = some a)
include early late preempts

/-- A preempting RETRACT out of band becomes the active motion in the drive state of that moment (R76, R93). -/
theorem retractReply_starts (clear : LimitsClear s)
    (hw : w = clampTo s.xhc.config.lowerSoft s.xhc.config.upperSoft s.xhc.config.retractPosition)
    (valid : s.xhc.referenceValid = true) (away : s.xhc.config.band < ((w - s.xhc.position).natAbs : Int))
    (drive : s.xhc.drive = .releasing ∨ s.xhc.drive = .moving) (hu : u = clearActive (fileActiveEnd a .preempted s)) :
    motionReply p tag .retract s =
      { state := { u with
          mar := { u.mar with active := some { port := p, tag := tag, job := .retract w s.xhc.config.vmax 0 } } },
        outcome := .queued, payload := .motion .active none } := by
  have xhc : u.xhc = s.xhc := by simp [hu]
  have limits : LimitsClear u := by simpa [LimitsClear, hu] using clear
  have taken : takeRequest true { port := p, tag := tag, job := .retract } u =
      { u with mar := { u.mar with active := some { port := p, tag := tag, job := .retract w s.xhc.config.vmax 0 } } } := by
    rw [takeRequest_retract_passes (w := w) limits rfl (by rw [xhc, hw]) (by rw [xhc, valid]),
      if_neg (by rw [xhc]; exact Int.not_le.2 away), makeActive_underWay (by rwa [xhc]), xhc]
  exact motionReply_preempts_active early late preempts hu taken rfl rfl

/-- A preempting RETRACT that ends at once leaves the drive holding (R76). -/
theorem retractReply_ends {o : MotionOutcome} {reason : Option Reason} (motion : motionPort p = true) (queue : s.mar.queue = [])
    (hold : s.xhc.config.holdTime ≠ 0) (hu : u = clearActive (fileActiveEnd a .preempted s))
    (taken : takeRequest true { port := p, tag := tag, job := .retract } u =
      endAtOnce true { port := p, tag := tag, job := .retract } o reason u) :
    motionReply p tag .retract s =
      { state := { fileRequestEnd { port := p, tag := tag, job := .retract } o reason u with xhc := holdingDrive s.xhc },
        outcome := .queued, payload := .motion .filed none } := by
  have xhc : u.xhc = s.xhc := by simp [hu]
  have left : u.mar.active = none ∧ u.mar.queue = [] := by simp [hu, fileActiveEnd, queue]
  rw [endAtOnce_preempting _ _ (by rwa [xhc]), xhc] at taken
  exact motionReply_preempts_filed early late preempts hu taken (by simp [fileRequestEnd, left]) (by simp [fileRequestEnd, left])
    (by simp [fileRequestEnd, slot_setSlot, motion]; rfl)

end

/-! ### The refresh of a jog (R78) -/

theorem earlyRefusal_jogAhead (form : motionForm s.xhc.config (.jog d v n) = true) (estop : s.inputs.estop = false)
    (ahead : limitAhead s.inputs d) : earlyRefusal (.jog d v n) s = some .atLimit := by
  simp [earlyRefusal, form, estop, (limitForbids_jog d v n).2 ahead]

theorem earlyRefusal_jogPasses (form : motionForm s.xhc.config (.jog d v n) = true) (estop : s.inputs.estop = false)
    (free : ¬ limitAhead s.inputs d) : earlyRefusal (.jog d v n) s = none := by
  refine earlyRefusal_passes form estop (.inr ⟨d, v, n, rfl⟩) ?_
  rw [← Bool.not_eq_true, limitForbids_jog]
  exact free

/-- The port's own jog is refreshed (R78). -/
theorem jogReply_refreshes {e : Direction} {w k : Int} {own : Tag} (early : earlyRefusal (.jog d v n) s = none)
    (active : s.mar.active = some { port := p, tag := own, job := .jog e w k }) :
    jogReply p tag d v n s = .plain (refreshJog d v n s) .ok := by
  have jogs : ownJogActive p s = true := by simp [ownJogActive, activeOf_eq_some active rfl]
  simp [jogReply, early, jogs]

section
variable {w : Int} (active : s.mar.active = some a) (hw : w = min v s.xhc.config.jogLimit)
include active hw

theorem refreshJog_ends (reached : atSoftLimit s.xhc d = true) (queue : s.mar.queue = []) (hold : s.xhc.config.holdTime ≠ 0) :
    refreshJog d v n s =
      raise a.port .motionDone
        { s with
          mar := { s.mar with active := none }.setSlot a.port (some (ended .jog a.tag .stoppedLimit s)),
          xhc := holdingDrive s.xhc } := by
  have turned : (setJob (.jog d w n) s).mar.active = some { a with job := .jog d w n } := by rw [setJob_eq _ active]
  have ends := activateAfterEnd_endMotion s .stoppedLimit turned (by simp) queue hold
  simp only [refreshJog, reached, if_true, ← hw, ends]
  rfl

theorem refreshJog_waits (away : atSoftLimit s.xhc d = false) (releasing : s.xhc.drive ≠ .moving) :
    refreshJog d v n s = { s with mar := { s.mar with active := some { a with job := .jog d w n } } } := by
  simp [refreshJog, away, releasing, ← hw, setJob_eq _ active]

end

/-- A jog's value points at a soft limit reached where the position stands at the one in its direction (R70, R77). -/
theorem towardSoftLimit_signedSpeed (x : Crosshead) (positive : 1 ≤ v) :
    towardSoftLimit x (signedSpeed d v) = atSoftLimit x d := by
  cases d <;> simp [towardSoftLimit, atSoftLimit, signedSpeed] <;> grind

/-- A jog within the jog limit, away from an active switch, keeps its value as the word (R70). -/
theorem wordFor_signedSpeed (estop : s.inputs.estop = false) (free : ¬ limitAhead s.inputs d) (positive : 1 ≤ v)
    (within : v ≤ s.xhc.config.jogLimit) : wordFor s .cell (signedSpeed d v) = signedSpeed d v := by
  have clamped : clampTo (-(s.xhc.config.jogLimit * 1000)) (s.xhc.config.jogLimit * 1000) (signedSpeed d v) =
      signedSpeed d v := by
    rw [clampTo, if_neg (by cases d <;> simp only [signedSpeed] <;> omega),
      if_neg (by cases d <;> simp only [signedSpeed] <;> omega)]
  have unforced : ¬ (s.inputs.estop = true ∨ (0 < signedSpeed d v ∧ s.inputs.upperLimit = true) ∨
      (signedSpeed d v < 0 ∧ s.inputs.lowerLimit = true) ∨ (s.inputs.gateOpen = true ∧ Port.cell ≠ .cell)) := by
    cases d with
    | up => simp_all [limitAhead, signedSpeed]; omega
    | down => simp_all [limitAhead, signedSpeed]; omega
  rw [wordFor, if_neg unforced, clamped, ite_self]

/-- A jog under way is refreshed with a word at once (R70, R78). -/
theorem refreshJog_sends {e : Direction} {w k x : Int}
    (active : s.mar.active = some { port := .cell, tag := tag, job := .jog e x k })
    (hw : w = min v s.xhc.config.jogLimit) (slow : 1 ≤ v) (jog : 1 ≤ s.xhc.config.jogLimit) (estop : s.inputs.estop = false)
    (free : ¬ limitAhead s.inputs d) (away : atSoftLimit s.xhc d = false) (moving : s.xhc.drive = .moving) :
    refreshJog d v n s =
      { s with
        mar := { s.mar with active := some { port := .cell, tag := tag, job := .jog d w n } },
        xhc := { s.xhc with jogTimer := some n, word := signedSpeed d w } } := by
  obtain ⟨u, hu⟩ : ∃ u : State, u =
      { s with
        mar := { s.mar with active := some { port := .cell, tag := tag, job := .jog d w n } },
        xhc := { s.xhc with jogTimer := some n } } := ⟨_, rfl⟩
  have positive : 1 ≤ w := by omega
  have sends : refreshJog d v n s = sendWord u := by
    simp [refreshJog, away, moving, ← hw, setJob_eq _ active, hu]
  have clear : towardSoftLimit u.xhc (signedSpeed d w) = false := by
    rw [towardSoftLimit_signedSpeed _ positive, hu]
    exact away
  have word : wordFor u .cell (signedSpeed d w) = signedSpeed d w :=
    wordFor_signedSpeed (by rw [hu]; exact estop) (by rw [hu]; exact free) positive
      (by rw [hu]; exact hw ▸ Int.min_le_right ..)
  obtain ⟨formed, -⟩ := sendWord_moving (s := u) (port := .cell) (tag := tag) (j := .jog d w n) (by rw [hu])
    (by rw [hu]; exact moving) (v := signedSpeed d w) rfl
  rw [sends, formed clear, word, hu]
  rfl

/-! ### A JOG without a claim (R89) -/

section
variable (holder : s.mar.holder ≠ some p) (waiter : s.mar.waiter ≠ some p)
include holder waiter

theorem claimant_eq_false : claimant p s = false := by
  simp [claimant, holder, waiter]

variable (early : earlyRefusal (.jog d v n) s = none) (other : ∀ a ∈ s.mar.active, a.port ≠ p)
include early other

theorem jogReply_noClaim (closed : s.inputs.gateOpen = false) : jogReply p tag d v n s = .plain s .noClaim := by
  have jogs : ownJogActive p s = false := by simp [ownJogActive, activeOf_eq_none other]
  have late : lateRefusal p (.jog d v n) s = some .noClaim := by
    simp [lateRefusal, claimant_eq_false holder waiter, jogsUnclaimed, closed]
  simp [jogReply_other jogs early, motionReply, early, late]

variable (queued : ∀ rq ∈ s.mar.queue, rq.port ≠ p) (slot : s.mar.slot p = none) (opened : s.inputs.gateOpen = true)
include queued slot opened

/-- With the gate open the JOG makes its port a claimant and passes. -/
theorem jogReply_claims
    (admitted : tryActivate
      (setMotionQueue (s.mar.queue ++ [{ port := p, tag := tag, job := .jog d v n }]) (claimByJog p s)) = u) :
    jogReply p tag d v n s =
      { state := u, outcome := .queued, payload := .motion (requestCondition u.mar p) (roleOf p u) } := by
  have jogs : ownJogActive p s = false := by simp [ownJogActive, activeOf_eq_none other]
  have late : lateRefusal p (.jog d v n) s = none := lateRefusal_passes (.inr (.inr opened)) other queued slot rfl
  have claims : claimsByJog { port := p, tag := tag, job := .jog d v n } s = true := by
    simp [claimsByJog, jogsUnclaimed, opened, claimant_eq_false holder waiter]
  have same : (claimByJog p s).mar.queue = s.mar.queue := by cases h : s.mar.holder <;> simp [claimByJog, h, setClaim]
  have admits : admitMotion { port := p, tag := tag, job := .jog d v n } s = u := by
    rw [admitMotion, claims, if_pos rfl, placeRequest_queues (by simp), same, admitted]
  rw [jogReply_other jogs early, motionReply_accepts early late, acceptMotion, admits, claims]
  rfl

theorem jogReply_claims_starts (free : ¬ limitAhead s.inputs d) (unheld : s.mar.holder = none) (still : s.mar.active = none)
    (queue : s.mar.queue = [])
    (drive : s.xhc.drive = .disabled ∨ (s.xhc.drive = .holding ∧ atSoftLimit s.xhc d = false)) :
    jogReply p tag d v n s =
      { state := { s with
          mar := { s.mar with
            holder := some p,
            active := some { port := p, tag := tag, job := .jog d (min v s.xhc.config.jogLimit) n } },
          xhc := startedJog n s.xhc },
        outcome := .queued, payload := .motion .active (some .holder) } := by
  have taken := (takeRequest_jog (b := false) (s := setClaim (some p) s.mar.waiter s)
    (rq := { port := p, tag := tag, job := .jog d v n }) free rfl).trans
    (makeActive_jog (drive.imp_right And.left) (drive.imp_right And.right))
  have admitted := tryActivate_only (s := setClaim (some p) s.mar.waiter s) still queue ⟨.inr rfl, fun _ => ⟨d, v, n, rfl⟩⟩ taken
    (.inl (by simp))
  have held : claimByJog p s = setClaim (some p) s.mar.waiter s := by simp [claimByJog, unheld]
  rw [jogReply_claims holder waiter early other queued slot opened (Eq.trans (by rw [held, queue]; rfl) admitted),
    requestCondition_active (p := p) rfl rfl]
  simp [roleOf, setClaim]

theorem jogReply_claims_waits (held : s.mar.holder ≠ none) (rests : ActivationRests s) :
    jogReply p tag d v n s =
      { state := { s with
          mar := { s.mar with waiter := some p, queue := s.mar.queue ++ [{ port := p, tag := tag, job := .jog d v n }] } },
        outcome := .queued, payload := .motion (.queued (s.mar.queue.length + 1)) (some .waiter) } := by
  obtain ⟨h, hh⟩ := Option.ne_none_iff_exists'.1 held
  have claimed : claimByJog p s = { s with mar := { s.mar with waiter := some p } } := by simp [claimByJog, setClaim, hh]
  have waits : ActivationRests (setMotionQueue (s.mar.queue ++ [{ port := p, tag := tag, job := .jog d v n }])
      { s with mar := { s.mar with waiter := some p } }) := by
    refine rests.imp_right fun ineligible rq mem first => ?_
    have fits : Eligible s rq := (Eligible.congr (by rfl) (by rfl)).1 first
    rcases List.mem_append.1 mem with mem | mem
    · exact ineligible rq mem fits
    · obtain rfl := List.mem_singleton.1 mem
      simp [Eligible, holder] at fits
  have reply := jogReply_claims holder waiter early other queued slot opened
    (Eq.trans (by rw [claimed]) (tryActivate_rests waits))
  have condition := requestCondition_queued (m := { s.mar with
    waiter := some p, queue := s.mar.queue ++ [{ port := p, tag := tag, job := .jog d v n }] }) other rfl rfl queued
  have role : roleOf p { s with mar := { s.mar with
      waiter := some p, queue := s.mar.queue ++ [{ port := p, tag := tag, job := .jog d v n }] } } = some .waiter := by
    simp [roleOf, holder]
  simp only [reply, setMotionQueue, condition, role]

end

end Sys2Proof.Machine

open Sys2Proof Sys2Proof.Machine

/-- Settles O23: behind another's motion a MOVE TO queues (`motionReply_queues`), a RETRACT is taken in the place of what it preempts
(`motionReply_preempts`), a JOG refreshes its port's own (`jogReply_refreshes`) or makes its port a claimant at an open gate
(`jogReply_claims`). -/
theorem motionRequestsMeetOthers : Obligations.MotionRequestsMeetOthers := by
  unfold Obligations.MotionRequestsMeetOthers
  refine ⟨fun r target speed a s form port low high slow fast estop fault clear claim active own queued slot valid gate => ?_,
    fun r s a w form port idle estop fault clear active own job queued slot hw => ⟨fun drive valid away => ?_,
      fun queue hold c hc => ?_⟩,
    fun r s d d0 speed duration v v0 n0 tag form port slow fast short long estop active hv => ⟨fun ahead => ?_,
      fun free => ⟨fun reached queue hold => ?_, fun away releasing => ?_, fun away moving jog => ?_⟩⟩,
    fun r s d speed duration v form port slow fast short long estop free holder waiter other queued slot hv => ⟨fun closed => ?_,
      fun opened => ⟨fun unheld still queue drive => ?_, fun held rests => ?_⟩⟩⟩
  · have early := earlyRefusal_passes (s := s) (motionForm_moveTo low high slow fast) estop (.inl fault)
      (limitForbids_of_clear clear _)
    have claims : claimant r.port s = true := by simpa [claimant] using claim
    have idle : ∀ b ∈ s.mar.active, b.port ≠ r.port := by simpa [active] using own
    have kind : kindRefusal r.port (.moveTo target speed) s = none := by
      by_cases sequencer : r.port = .sequencer <;> simp [kindRefusal, valid, sequencer, gate]
    have late := lateRefusal_passes (.inl claims) idle queued slot kind
    exact request_answered (permitted_of_motionPort port).1 form
      (motionReply_queues early late claims (by simp) idle queued (.inl (by simp [setMotionQueue, active])))
  · have early : earlyRefusal .retract s = none := earlyRefusal_passes rfl estop (.inl fault) (limitForbids_of_clear clear _)
    have kind : kindRefusal r.port .retract s = none := by simp [kindRefusal, testIdle_of_none idle, valid]
    have late := lateRefusal_passes (.inr (.inl rfl)) (by simp [active, own, port]) (by rwa [port]) (by rwa [port]) kind
    refine request_answered (by rw [port]; rfl) form
      ((retractReply_starts early late (preemptible_of_active active own job) clear hw valid away drive rfl).trans ?_)
    rw [clearActive_fileActiveEnd, own, port]
    rfl
  · have early : earlyRefusal .retract s = none := earlyRefusal_passes rfl estop (.inl fault) (limitForbids_of_clear clear _)
    have kind : kindRefusal r.port .retract s = none := by
      rcases hc with ⟨valid, -⟩ | ⟨-, ⟨ph, search⟩, -⟩
      · simp [kindRefusal, testIdle_of_none idle, valid]
      · simp [kindRefusal, testIdle_of_none idle, sequencerSearches_of_active active own search]
    have late := lateRefusal_passes (.inr (.inl rfl)) (by simp [active, own, port]) (by simp [queue]) (by rwa [port]) kind
    obtain ⟨u, hu⟩ : ∃ u, u = clearActive (fileActiveEnd a .preempted s) := ⟨_, rfl⟩
    have xhc : u.xhc = s.xhc := by simp [hu]
    have limits : LimitsClear u := by simpa [LimitsClear, hu] using clear
    have preempts := preemptible_of_active active own job
    have motion : motionPort r.port = true := by rw [port]; rfl
    refine request_answered (by rw [port]; rfl) form ?_
    rcases hc with ⟨valid, band, hc⟩ | ⟨invalid, -, hc⟩
    · have taken := (takeRequest_retract_passes (b := true) (w := w)
        (rq := { port := r.port, tag := r.tag, job := .retract }) limits rfl (by rw [xhc, hw]) (by rw [xhc, valid])).trans
        (if_pos (by rwa [xhc]))
      rw [retractReply_ends early late preempts motion queue hold hu taken, hu, clearActive_fileActiveEnd, own, port, hc]
      rfl
    · have taken := (takeRequest_retract (b := true) (rq := { port := r.port, tag := r.tag, job := .retract }) limits rfl).trans
        (takeMove_unreferenced _ _ (by rw [xhc, invalid]))
      have unknown : finalPosition u = none := by simp [finalPosition, xhc, invalid]
      rw [retractReply_ends early late preempts motion queue hold hu taken]
      simp only [fileRequestEnd, unknown]
      rw [hu, clearActive_fileActiveEnd, own, port, hc]
      rfl
  · have formed : motionForm s.xhc.config (.jog d speed duration) = true := motionForm_jog slow fast short long
    refine request_answered (by rw [port]; rfl) form ?_
    simp only [jogReply, earlyRefusal_jogAhead formed estop ahead, Reply.plain]
  · have early := earlyRefusal_jogPasses (s := s) (motionForm_jog slow fast short long) estop free
    refine request_answered (by rw [port]; rfl) form ?_
    rw [port, jogReply_refreshes early active, refreshJog_ends active hv reached queue hold]
    rfl
  · have early := earlyRefusal_jogPasses (s := s) (motionForm_jog slow fast short long) estop free
    refine request_answered (by rw [port]; rfl) form ?_
    rw [port, jogReply_refreshes early active, refreshJog_waits active hv away (by simp [releasing])]
    rfl
  · have early := earlyRefusal_jogPasses (s := s) (motionForm_jog slow fast short long) estop free
    refine request_answered (by rw [port]; rfl) form ?_
    rw [port, jogReply_refreshes early active, refreshJog_sends active hv slow jog estop free away moving]
    cases d <;> rfl
  all_goals
    have early := earlyRefusal_jogPasses (s := s) (motionForm_jog slow fast short long) estop free
    refine request_answered (by rw [port]; rfl) form ?_
    rw [port]
  · rw [jogReply_noClaim holder waiter early other closed]
    rfl
  · rw [jogReply_claims_starts holder waiter early other queued slot opened free unheld still queue drive, hv]
  · rw [jogReply_claims_waits holder waiter early other queued slot opened held rests]

end

section

/-! PROOF. The claim's order and one motion request per port (R85, R90): what ends, queues, starts and claims does to the arbiter. -/

namespace Sys2Proof.Machine

variable {s t : State} {p : Port} {rq : MotionRequest} {a : ActiveMotion}

/-! ### The condition and what a port may have open -/

/-- The arbiter is sound: the claim is in order, and each port has at most one motion request (R85, R90). -/
structure ArbiterSound (s : State) : Prop where
  claim : ClaimOrdered s
  requests : OneRequestPerPort s

/-- The port has no motion request queued or active (R90). -/
structure Unrequested (p : Port) (s : State) : Prop where
  queued : ∀ rq ∈ s.mar.queue, rq.port ≠ p
  active : ∀ a ∈ s.mar.active, a.port ≠ p

/-- The port can make a motion request: it is motion-capable and has none queued, active or filed (R90). -/
structure Vacant (p : Port) (s : State) : Prop extends Unrequested p s where
  motion : motionPort p = true
  slot : s.mar.slot p = none

theorem unrequested_of_requestOpen (h : requestOpen s.mar p = false) : Unrequested p s := by
  obtain ⟨active, queued⟩ : activeOf s.mar p = none ∧ queuedOf s.mar p = none := by simpa [requestOpen] using h
  exact ⟨by simpa [queuedOf] using queued, by simpa [activeOf, Option.filter_eq_none_iff] using active⟩

theorem slot_congr {m n : Arbiter} (seq : m.seqSlot = n.seqSlot) (cell : m.cellSlot = n.cellSlot) : m.slot = n.slot := by
  funext p
  cases p <;> simp [Arbiter.slot, seq, cell]

theorem Vacant.congr (h : Vacant p s) (queue : t.mar.queue = s.mar.queue) (active : t.mar.active = s.mar.active)
    (slot : t.mar.slot p = s.mar.slot p) : Vacant p t :=
  ⟨⟨by rw [queue]; exact h.queued, by rw [active]; exact h.active⟩, h.motion, by rw [slot, h.slot]⟩

/-! ### Requests that end (R88, R95 to R98) -/

/-- From `s` to `t` motion requests have only ended: what is queued or active was so before, and no slot has been filled of a port
that still has a request open. -/
structure RequestsEnd (s t : State) : Prop where
  holder : t.mar.holder = s.mar.holder
  waiter : t.mar.waiter = s.mar.waiter
  queue : t.mar.queue.Sublist s.mar.queue
  active : ∀ a ∈ t.mar.active, ∃ b ∈ s.mar.active, b.port = a.port ∧ activeKind b.job = activeKind a.job
  slot : ∀ p, Unrequested p t ∨ t.mar.slot p = none ∨ t.mar.slot p = s.mar.slot p

theorem ArbiterSound.ended (hs : ArbiterSound s) (h : RequestsEnd s t) : ArbiterSound t := by
  obtain ⟨⟨holder, waiter⟩, requests⟩ := hs
  have slotQueued {rq} (mem : rq ∈ t.mar.queue) : t.mar.slot rq.port = none := by
    obtain free | empty | same := h.slot rq.port
    · exact absurd rfl (free.queued rq mem)
    · exact empty
    · rw [same, requests.queuedSlot rq (h.queue.subset mem)]
  have slotActive {a} (mem : a ∈ t.mar.active) : t.mar.slot a.port = none := by
    obtain ⟨b, was, port, -⟩ := h.active a mem
    obtain free | empty | same := h.slot a.port
    · exact absurd rfl (free.active a mem)
    · exact empty
    · rw [same, ← port, requests.activeSlot b was]
  refine ⟨⟨by rwa [h.holder], by rwa [h.holder, h.waiter]⟩, {
    ports := fun rq mem => requests.ports rq (h.queue.subset mem)
    once := requests.once.sublist (h.queue.map _)
    activePort := fun a mem => ?_
    queuedSlot := fun rq => slotQueued
    activeSlot := fun a => slotActive
    queuedClaim := fun rq mem => by
      rw [h.holder, h.waiter]
      exact requests.queuedClaim rq (h.queue.subset mem)
    activeClaim := fun a mem => ?_
    retract := fun rq mem => requests.retract rq (h.queue.subset mem)
    start := fun rq mem => requests.start rq (h.queue.subset mem) }⟩
  · obtain ⟨b, was, port, -⟩ := h.active a mem
    obtain ⟨motion, other⟩ := requests.activePort b was
    rw [← port]
    exact ⟨motion, fun rq mem => other rq (h.queue.subset mem)⟩
  · obtain ⟨b, was, port, kind⟩ := h.active a mem
    rw [h.holder, ← port, ← kind]
    exact requests.activeClaim b was

theorem ArbiterSound.of_mar (hs : ArbiterSound s) (h : t.mar = s.mar) : ArbiterSound t :=
  hs.ended ⟨by rw [h], by rw [h], by rw [h], fun a mem => ⟨a, by rwa [← h], rfl, rfl⟩, fun p => .inr (.inr (by rw [h]))⟩

theorem ArbiterSound.ite {c : Prop} [Decidable c] (ht : ArbiterSound t) (hs : ArbiterSound s) :
    ArbiterSound (if c then t else s) := by
  split
  · exact ht
  · exact hs

/-- A port's slot is filled once it has nothing open, or is emptied (R98, R99). -/
theorem ArbiterSound.slotSet (hs : ArbiterSound s) {c : Option Completion} (free : c = none ∨ Unrequested p s)
    (mar : t.mar = s.mar.setSlot p c) : ArbiterSound t := by
  refine hs.ended ⟨by simp [mar], by simp [mar], by simp [mar], fun a mem => ⟨a, by simpa [mar] using mem, rfl, rfl⟩, fun q => ?_⟩
  by_cases same : q = p ∧ motionPort p = true
  · rcases free with rfl | free
    · exact .inr (.inl (by simp [mar, slot_setSlot, same]))
    · refine .inl ⟨?_, ?_⟩
      · simpa [mar, same.1] using free.queued
      · simpa [mar, same.1] using free.active
  · exact .inr (.inr (by rw [mar, slot_setSlot, if_neg same]))

theorem fileRequestEnd_sound (o : MotionOutcome) (r : Option Reason) (hs : ArbiterSound s) (free : Unrequested rq.port s) :
    ArbiterSound (fileRequestEnd rq o r s) :=
  hs.slotSet (.inr free) (fileCompletion_mar ..)

theorem ArbiterSound.cleared (hs : ArbiterSound s) : ArbiterSound (clearActive s) :=
  hs.ended ⟨rfl, rfl, List.Sublist.refl _, by simp, fun p => .inr (.inr (by simp))⟩

theorem cleared_unrequested (hs : ArbiterSound s) (active : s.mar.active = some a) : Unrequested a.port (clearActive s) :=
  ⟨(hs.requests.activePort a active).2, by simp⟩

/-- The active motion ends, its completion filed in its port's slot (R98). -/
theorem ArbiterSound.activeEnds (hs : ArbiterSound s) (active : s.mar.active = some a) {c : Completion}
    (mar : t.mar = (clearActive s).mar.setSlot a.port (some c)) : ArbiterSound t :=
  hs.cleared.slotSet (.inr (cleared_unrequested hs active)) mar

theorem clearActive_fileCompletion (p : Port) (c : Completion) (s : State) :
    (clearActive (fileCompletion p c s)).mar = (clearActive s).mar.setSlot p (some c) := by
  cases p <;> simp [clearActive, Arbiter.setSlot]

theorem endMotionDisabled_sound (o : MotionOutcome) (hs : ArbiterSound s) : ArbiterSound (endMotionDisabled o s) := by
  unfold endMotionDisabled
  split
  · exact hs
  next a ended => exact hs.activeEnds (Option.filter_eq_some_iff.1 ended).1 (clearActive_fileCompletion ..)

theorem endMotion_sound (o : MotionOutcome) (hs : ArbiterSound s) : ArbiterSound (endMotion o s) := by
  have ended := endMotionDisabled_sound o hs
  unfold endMotionDisabled at ended
  unfold endMotion
  split
  · exact hs
  next active =>
    simp only [active] at ended
    exact ended.of_mar (by simp)

theorem fileTestEnd_sound (n : BitVec 16) (c : Closure) (hs : ArbiterSound s) : ArbiterSound (fileTestEnd n c s) := by
  unfold fileTestEnd
  split
  · exact hs
  next a active => exact hs.activeEnds active (clearActive_fileCompletion ..)

theorem closeTest_sound (c : Closure) (hs : ArbiterSound s) : ArbiterSound (closeTest c s) := by
  unfold closeTest
  split
  · exact hs
  next x _ =>
    have filed (k) {u : State} (mar : u.mar = s.mar) :
        ArbiterSound (fileTestEnd x.serial c (endCapture (recordTest x c k u))) :=
      fileTestEnd_sound _ _ (hs.of_mar (by simp [mar]))
    simp only []
    cases capture : (extClosure s).cps.capture with
    | none => exact (filed (captureCounters none) (u := extClosure s) (by simp)).of_mar (by split <;> simp)
    | some y =>
      exact (filed (captureCounters (some y)) (u := closeLastPage y (extClosure s)) (by simp)).of_mar (by split <;> simp)

/-- The active motion's work is replaced by work of its kind. -/
theorem setJob_sound {j : ActiveJob} (hs : ArbiterSound s) (kind : ∀ a ∈ s.mar.active, activeKind a.job = activeKind j) :
    ArbiterSound (setJob j s) := by
  refine hs.ended ⟨rfl, rfl, List.Sublist.refl _, fun a mem => ?_, fun p => .inr (.inr ?_)⟩
  · obtain ⟨b, was, rfl⟩ := Option.map_eq_some_iff.1 mem
    exact ⟨b, was, rfl, kind b was⟩
  · rw [slot_congr (setJob_mar_seqSlot j s) (setJob_mar_cellSlot j s)]

/-- A request that has left the queue leaves its port with nothing open. -/
theorem unqueue_vacant (hs : ArbiterSound s) (mem : rq ∈ s.mar.queue) : Vacant rq.port (unqueue rq s) := by
  have once := hs.requests.once
  rw [((List.perm_cons_erase mem).map _).nodup_iff, List.map_cons, List.nodup_cons, List.mem_map] at once
  refine ⟨⟨fun x left same => ?_, fun a active same => ?_⟩, hs.requests.ports rq mem, ?_⟩
  · exact once.1 ⟨x, by simpa using left, same⟩
  · exact (hs.requests.activePort a (by simpa using active)).2 rq mem same.symm
  · simpa using hs.requests.queuedSlot rq mem

theorem unqueue_sound (rq : MotionRequest) (hs : ArbiterSound s) : ArbiterSound (unqueue rq s) :=
  hs.ended ⟨by simp, by simp, by simpa using List.erase_sublist, fun a mem => ⟨a, by simpa using mem, rfl, rfl⟩,
    fun p => .inr (.inr (by simp))⟩

theorem cancelRequest_sound (hs : ArbiterSound s) (mem : rq ∈ s.mar.queue) : ArbiterSound (cancelRequest rq s) :=
  fileRequestEnd_sound _ _ (unqueue_sound rq hs) (unqueue_vacant hs mem).toUnrequested

/-- Requests that have left the queue are filed one after another (R97). -/
theorem fileEnds_sound (l : List MotionRequest) (o : MotionOutcome) (hs : ArbiterSound s)
    (free : ∀ rq ∈ l, Unrequested rq.port s) :
    ArbiterSound (l.foldl (fun s rq => fileRequestEnd rq o none s) s) := by
  induction l generalizing s with
  | nil => exact hs
  | cons rq l ih =>
    obtain ⟨first, later⟩ := List.forall_mem_cons.1 free
    refine ih (fileRequestEnd_sound o none hs first) fun x mem => ?_
    exact ⟨by simpa [fileRequestEnd] using (later x mem).queued, by simpa [fileRequestEnd] using (later x mem).active⟩

theorem stopQueue_sound (hs : ArbiterSound s) : ArbiterSound (stopQueue s) := by
  have emptied : ArbiterSound (setMotionQueue [] s) :=
    hs.ended ⟨rfl, rfl, by simp, fun a mem => ⟨a, mem, rfl, rfl⟩, fun p => .inr (.inr (by rw [slot_congr] <;> rfl))⟩
  refine fileEnds_sound s.mar.queue .estop emptied fun rq mem => ⟨by simp, fun a active same => ?_⟩
  exact (hs.requests.activePort a active).2 rq mem same.symm

/-! ### Requests that queue and motions that start (R90, R92, R94) -/

/-- A request of a vacant port joins the queue at some place. -/
theorem ArbiterSound.queued {q : List MotionRequest} (hs : ArbiterSound s) (vacant : Vacant rq.port s)
    (claim : rq.job = .retract ∨ s.mar.holder = some rq.port ∨ s.mar.waiter = some rq.port)
    (retract : rq.job = .retract → rq.port = .cell) (start : rq.job = .startTest → rq.port = .sequencer)
    (joins : q.Perm (rq :: s.mar.queue)) : ArbiterSound (setMotionQueue q s) := by
  have all {P : MotionRequest → Prop} (new : P rq) (old : ∀ x ∈ s.mar.queue, P x) : ∀ x ∈ q, P x := by
    simpa [joins.mem_iff] using ⟨new, old⟩
  have slot : (setMotionQueue q s).mar.slot = s.mar.slot := slot_congr rfl rfl
  refine ⟨⟨hs.claim.holder, hs.claim.waiter⟩, {
    ports := all vacant.motion hs.requests.ports
    once := ?_
    activePort := fun a mem => ?_
    queuedSlot := by rw [slot]; exact all vacant.slot hs.requests.queuedSlot
    activeSlot := by rw [slot]; exact hs.requests.activeSlot
    queuedClaim := all claim hs.requests.queuedClaim
    activeClaim := hs.requests.activeClaim
    retract := all retract hs.requests.retract
    start := all start hs.requests.start }⟩
  · simp only [setMotionQueue_mar_queue]
    rw [(joins.map _).nodup_iff, List.map_cons, List.nodup_cons]
    exact ⟨by simpa using vacant.queued, hs.requests.once⟩
  · obtain ⟨motion, other⟩ := hs.requests.activePort a mem
    exact ⟨motion, all (vacant.active a mem).symm other⟩

/-- A motion of a vacant port becomes active where none is. -/
theorem ArbiterSound.starts (hs : ArbiterSound s) (vacant : Vacant a.port s)
    (claim : activeKind a.job = .retract ∨ s.mar.holder = some a.port)
    (mar : t.mar = { s.mar with active := some a }) : ArbiterSound t := by
  have slot : t.mar.slot = s.mar.slot := by rw [mar]; exact slot_congr rfl rfl
  have only {P : ActiveMotion → Prop} (new : P a) : ∀ b ∈ t.mar.active, P b := by simpa [mar] using new
  refine ⟨⟨by rw [mar]; exact hs.claim.holder, by rw [mar]; exact hs.claim.waiter⟩, {
    ports := by rw [mar]; exact hs.requests.ports
    once := by rw [mar]; exact hs.requests.once
    activePort := only ⟨vacant.motion, by rw [mar]; exact vacant.queued⟩
    queuedSlot := by rw [slot, mar]; exact hs.requests.queuedSlot
    activeSlot := only (by rw [slot]; exact vacant.slot)
    queuedClaim := by rw [mar]; exact hs.requests.queuedClaim
    activeClaim := only (by rw [mar]; exact claim)
    retract := by rw [mar]; exact hs.requests.retract
    start := by rw [mar]; exact hs.requests.start }⟩

/-! ### The claim (R85 to R89) -/

theorem setClaim_slot (x y : Option Port) (s : State) : (setClaim x y s).mar.slot = s.mar.slot :=
  slot_congr rfl rfl

/-- The claim's entries are set so that the claim is in order and the requests that need it have it. -/
theorem ArbiterSound.claimSet {x y : Option Port} (hs : ArbiterSound s) (claim : ClaimOrdered (setClaim x y s))
    (queued : ∀ rq ∈ s.mar.queue, rq.job = .retract ∨ x = some rq.port ∨ y = some rq.port)
    (active : ∀ a ∈ s.mar.active, activeKind a.job = .retract ∨ x = some a.port) : ArbiterSound (setClaim x y s) := by
  obtain ⟨-, requests⟩ := hs
  exact ⟨claim, {
    ports := requests.ports
    once := requests.once
    activePort := requests.activePort
    queuedSlot := by rw [setClaim_slot]; exact requests.queuedSlot
    activeSlot := by rw [setClaim_slot]; exact requests.activeSlot
    queuedClaim := queued
    activeClaim := active
    retract := requests.retract
    start := requests.start }⟩

/-- There are two motion-capable ports (R85). -/
theorem motionPort_other {x y h : Port} (hx : motionPort x = true) (hy : motionPort y = true) (hh : motionPort h = true)
    (xh : x ≠ h) (yh : y ≠ h) : x = y := by
  cases x <;> cases y <;> cases h <;> simp_all [motionPort]

/-- A port without the claim takes a free one or waits behind its holder (R86, R89). -/
theorem claimByJog_sound (motion : motionPort p = true) (other : s.mar.holder ≠ some p) (hs : ArbiterSound s) :
    ArbiterSound (claimByJog p s) := by
  unfold claimByJog
  split
  next free =>
    have alone : s.mar.waiter = none := by
      by_contra waits
      obtain ⟨w, waiter⟩ := Option.ne_none_iff_exists'.1 waits
      exact (hs.claim.waiter w waiter).2.1 free
    refine hs.claimSet ⟨by simpa using motion, by simp [alone]⟩ (fun rq mem => ?_) fun a mem => ?_
    · exact .inl (by simpa [free, alone] using hs.requests.queuedClaim rq mem)
    · exact .inl (by simpa [free] using hs.requests.activeClaim a mem)
  next h held =>
    have ne : p ≠ h := fun same => other (by rw [held, same])
    have holds : motionPort h = true := hs.claim.holder h held
    refine hs.claimSet ⟨by simpa using holds, by simpa [motion] using ne.symm⟩ (fun rq mem => ?_) fun a mem => ?_
    · rw [← held]
      refine (hs.requests.queuedClaim rq mem).imp_right (Or.imp_right fun waits => congrArg some ?_)
      refine motionPort_other motion (hs.requests.ports rq mem) holds ne fun same => ?_
      exact (hs.claim.waiter _ waits).2.2 (by rw [held, same])
    · rw [← held]
      exact hs.requests.activeClaim a mem

end Sys2Proof.Machine

end

section

/-! PROOF. The arbiter stays sound through activation, the events of the drive and the lines, the timers, the edges and the
arrivals. -/

namespace Sys2Proof.Machine

variable {s : State} {rq : MotionRequest} {a : Arrival}

/-! ### Words and the motion's own work (R69 to R79) -/

theorem abortTest_sound (c : AbortCause) (hs : ArbiterSound s) : ArbiterSound (abortTest c s) :=
  closeTest_sound _ hs

theorem sendWordValue_sound (w : Int) (hs : ArbiterSound s) : ArbiterSound (sendWordValue w s) :=
  hs.of_mar (by simp)

theorem softLimitEvent_sound (up : Bool) (hs : ArbiterSound s) : ArbiterSound (softLimitEvent up s) := by
  have stopped := sendWordValue_sound 0 hs
  unfold softLimitEvent
  split
  · exact .ite (abortTest_sound _ stopped) stopped
  · exact stopped
  · exact endMotion_sound _ stopped
  · exact stopped

theorem sendWord_sound (hs : ArbiterSound s) : ArbiterSound (sendWord s) :=
  .ite (softLimitEvent_sound _ hs) (sendWordValue_sound _ hs)

theorem beginMotion_sound (hs : ArbiterSound s) : ArbiterSound (beginMotion s) := by
  unfold beginMotion
  split
  next active => exact setJob_sound hs (by simp [active, activeKind])
  · exact .ite (endMotion_sound _ hs) (hs.of_mar rfl)
  · exact hs

theorem startDrive_sound (hs : ArbiterSound s) : ArbiterSound (startDrive s) := by
  unfold startDrive
  split
  · exact hs.of_mar rfl
  · exact beginMotion_sound (hs.of_mar rfl)
  · exact hs
  · exact hs

/-! ### Activation (R94, R95) -/

section
variable (hs : ArbiterSound s) (vacant : Vacant rq.port s)
include hs vacant

theorem endAtOnce_sound (b : Bool) (o : MotionOutcome) (r : Option Reason) : ArbiterSound (endAtOnce b rq o r s) := by
  have filed := fileRequestEnd_sound o r hs vacant.toUnrequested
  exact .ite (filed.of_mar (by simp)) filed

theorem makeActive_sound {j : ActiveJob} (claim : activeKind j = .retract ∨ s.mar.holder = some rq.port) :
    ArbiterSound (makeActive rq j s) :=
  startDrive_sound (hs.starts (a := { port := rq.port, tag := rq.tag, job := j }) vacant claim rfl)

variable (claim : rq.job = .retract ∨ s.mar.holder = some rq.port)
include claim

theorem takeMove_sound (b : Bool) (target speed : Int) : ArbiterSound (takeMove b rq target speed s) := by
  have ended := endAtOnce_sound hs vacant b
  refine .ite (ended _ _) (.ite (ended _ _) (.ite (ended _ _) (makeActive_sound hs vacant ?_)))
  exact claim.imp_left fun retract => by simp [retract, activeKind]

theorem takeStartTest_sound (start : rq.job = .startTest) : ArbiterSound (takeStartTest rq s) := by
  unfold takeStartTest
  split
  · exact endAtOnce_sound hs vacant ..
  split
  · exact hs
  split
  · exact hs
  · have active := makeActive_sound hs vacant (j := .test) (.inr (by simpa [start] using claim))
    exact active.of_mar (by simp)

theorem takeRequest_sound (b : Bool) : ArbiterSound (takeRequest b rq s) := by
  unfold takeRequest
  refine .ite (endAtOnce_sound hs vacant ..) ?_
  split
  · exact takeMove_sound hs vacant claim ..
  · exact takeMove_sound hs vacant claim ..
  next search =>
    refine .ite (endAtOnce_sound hs vacant ..) ?_
    exact makeActive_sound (s := startSearch s) (hs.of_mar rfl) (vacant.congr rfl rfl rfl) (.inr (by simpa [search] using claim))
  next start => exact takeStartTest_sound hs vacant claim start
  next jog => exact makeActive_sound hs vacant (.inr (by simpa [jog] using claim))

end

/-- What is taken is a RETRACT or the holder's, and has left its port vacant with the queue (R94). -/
theorem activationLoop_sound (n : Nat) (hs : ArbiterSound s) : ArbiterSound (activationLoop n s) := by
  induction n generalizing s with
  | zero => exact hs
  | succ n ih =>
    unfold activationLoop
    refine .ite hs ?_
    split
    · exact hs
    next rq found =>
      have mem := List.mem_of_find?_eq_some found
      obtain ⟨claim, -⟩ := (eligible_iff s rq).1 (List.find?_some found)
      exact ih (takeRequest_sound (unqueue_sound rq hs) (unqueue_vacant hs mem) (by simpa using claim) false)

theorem tryActivate_sound (hs : ArbiterSound s) : ArbiterSound (tryActivate s) :=
  activationLoop_sound _ hs

theorem activateAfterEnd_sound (b : State) (hs : ArbiterSound s) : ArbiterSound (activateAfterEnd b s) :=
  .ite (tryActivate_sound hs) hs

theorem brakeReleased_sound (hs : ArbiterSound s) : ArbiterSound (brakeReleased s) :=
  .ite (activateAfterEnd_sound s (beginMotion_sound (hs.of_mar rfl))) hs

/-! ### The lines (R71, R72, R80 to R83) -/

theorem referenceSwitchOn_sound (hs : ArbiterSound s) : ArbiterSound (referenceSwitchOn s) :=
  .ite hs (.ite (activateAfterEnd_sound s (endMotion_sound _ (hs.of_mar rfl))) (hs.of_mar rfl))

theorem referenceSwitchOff_sound (hs : ArbiterSound s) : ArbiterSound (referenceSwitchOff s) := by
  have switched : ArbiterSound (setInputs { s.inputs with referenceSwitch := false } s) := hs.of_mar rfl
  unfold referenceSwitchOff
  simp only []
  refine .ite ?_ hs
  split
  next up =>
    obtain ⟨m, active, search⟩ := searchPhase_active up
    exact setJob_sound switched (by simp [active, search, activeKind])
  next => exact switched

theorem limitEndsMotion_sound (hs : ArbiterSound s) : ArbiterSound (limitEndsMotion s) :=
  .ite (endMotionDisabled_sound _ (hs.of_mar (by simp))) (endMotionDisabled_sound _ hs)

theorem hardLimitOn_sound (side : LimitSide) (hs : ArbiterSound s) : ArbiterSound (hardLimitOn side s) := by
  have disabled : ArbiterSound (driveDisable (setInputs (setLimit side true s.inputs) s)) := hs.of_mar rfl
  have ended := limitEndsMotion_sound disabled
  exact .ite hs (activateAfterEnd_sound s (abortTest_sound .hardLimit (ended.of_mar (by simp))))

theorem gateEndsMotion_sound (hs : ArbiterSound s) : ArbiterSound (gateEndsMotion s) := by
  unfold gateEndsMotion
  split
  · exact endMotion_sound _ hs
  · exact endMotion_sound _ hs
  · exact hs

theorem gateOpens_sound (hs : ArbiterSound s) : ArbiterSound (gateOpens s) := by
  have opened : ArbiterSound (setInputs { s.inputs with gateOpen := true } s) := hs.of_mar rfl
  have held : ArbiterSound (holdTest .gate (gateEndsMotion (setInputs { s.inputs with gateOpen := true } s))) :=
    (gateEndsMotion_sound opened).of_mar (by simp)
  exact .ite hs (activateAfterEnd_sound s ((sendWord_sound held).of_mar (by simp)))

theorem emergencyStops_sound (hs : ArbiterSound s) : ArbiterSound (emergencyStops s) := by
  have disabled : ArbiterSound (driveDisable (setInputs { s.inputs with estop := true } s)) := hs.of_mar rfl
  have ended := abortTest_sound .estop (endMotionDisabled_sound .estop (stopQueue_sound disabled))
  exact .ite hs (ended.of_mar (by simp))

/-! ### Timers and edges (R22, R67 to R79) -/

theorem declareLoadFault_sound (hs : ArbiterSound s) : ArbiterSound (declareLoadFault s) :=
  abortTest_sound _ (endMotion_sound _ (hs.of_mar (by simp)))

theorem expire_sound (hs : ArbiterSound s) : ArbiterSound (expire s).s := by
  have timed : ArbiterSound (advanceTimers (beginExpiry s)).s := hs.of_mar (by simp)
  have declared : ArbiterSound (declareAtExpiry (advanceTimers (beginExpiry s))).s := by
    unfold declareAtExpiry
    split
    · exact declareLoadFault_sound timed
    · exact timed
  refine activateAfterEnd_sound s ?_
  unfold workExpiry wordAtExpiry
  split
  · exact sendWord_sound declared
  · exact declared

theorem boundMet_sound (hs : ArbiterSound s) : ArbiterSound (boundMet s) :=
  abortTest_sound _ (endMotion_sound _ (.ite (hs.of_mar (by simp)) (hs.of_mar rfl)))

theorem workEdge_sound (d : Direction) (hs : ArbiterSound s) : ArbiterSound (workEdge d s).s := by
  have counted : ArbiterSound (countEdge d s) := hs.of_mar (by simp)
  unfold workEdge
  split
  · exact boundMet_sound hs
  simp only []
  split
  · exact endMotion_sound _ (counted.of_mar (by simp))
  · exact .ite (softLimitEvent_sound _ counted) counted

theorem edge_sound (d : Direction) (hs : ArbiterSound s) : ArbiterSound (edge d s).s :=
  activateAfterEnd_sound s (workEdge_sound d hs)

/-! ### Arrivals (R24) -/

theorem evaluateMove_sound (x : Int) (hs : ArbiterSound s) : ArbiterSound (evaluateMove x s) := by
  unfold evaluateMove
  refine .ite ?_ hs
  split
  next active => exact .ite (endMotion_sound _ hs) (setJob_sound hs (by simp [active, activeKind]))
  next active => exact .ite (endMotion_sound _ hs) (setJob_sound hs (by simp [active, activeKind]))
  next => exact hs

theorem overloadEnds_sound (hs : ArbiterSound s) : ArbiterSound (overloadEnds s) := by
  unfold overloadEnds
  split
  · exact hs
  · exact endMotion_sound _ hs

theorem motionTakes_sound (ha : ArbiterSound a.s) : ArbiterSound (motionTakes a).s := by
  unfold motionTakes
  split
  · exact overloadEnds_sound ha
  · exact evaluateMove_sound _ ha

theorem wordTakes_sound (ha : ArbiterSound a.s) : ArbiterSound (wordTakes a).s := by
  unfold wordTakes
  split
  · exact sendWordValue_sound _ ha
  split
  · split
    · split <;> exact sendWordValue_sound _ ha
    · exact softLimitEvent_sound _ ha
  · exact sendWordValue_sound _ ha

theorem closeOrCount_sound (ha : ArbiterSound a.s) : ArbiterSound (closeOrCount a).s := by
  unfold closeOrCount
  split
  · exact closeTest_sound _ ha
  · exact ha.of_mar (by simp)

theorem workArrival_sound (code : Int) (range : LoadRange) (l : Latch) (hs : ArbiterSound s) :
    ArbiterSound (workArrival code range l s).s := by
  have formed : ArbiterSound (loopTakes (executiveTakes (arrivalForExecutive code range l s))).s :=
    hs.of_mar (by simp [arrivalForExecutive])
  have worded := wordTakes_sound (motionTakes_sound formed)
  exact closeOrCount_sound (worded.of_mar (by simp [arrivalForExecutive]))

theorem arrive_sound {code : Int} (hs : ArbiterSound s) (h : arrive code s = some a) : ArbiterSound a.s := by
  obtain ⟨c, _, rfl⟩ := Option.map_eq_some_iff.1 h
  have worked := workArrival_sound code c.1 c.2 hs
  exact .ite (tryActivate_sound worked) (activateAfterEnd_sound s worked)

theorem arrived_sound (code : Int) (hs : ArbiterSound s) : ArbiterSound (arrived code s) := by
  unfold arrived
  split
  next arriving => exact arrive_sound hs arriving
  next => exact hs

end Sys2Proof.Machine

end

section

/-! PROOF. The arbiter stays sound through the requests (R78, R85 to R99), and so through every step. -/

namespace Sys2Proof.Machine

variable {s t : State} {p : Port} {rq : MotionRequest}

/-! ### The claim (R85 to R88) -/

theorem claimFrameReply_sound (motion : motionPort p = true) (hs : ArbiterSound s) :
    ArbiterSound (claimFrameReply p s).state := by
  unfold claimFrameReply
  split
  next free =>
    have claimed := claimByJog_sound motion (by simp [free]) hs
    rwa [claimByJog, free] at claimed
  next h held =>
    split
    · exact hs
    next other =>
      have claimed := claimByJog_sound motion (by simpa [held] using other) hs
      rwa [claimByJog, held] at claimed

/-- A holder with no request of its own passes the claim: what needs it from then on is the waiter's (R87). -/
theorem passClaim_sound (hs : ArbiterSound s) (holder : s.mar.holder = some p) (free : Unrequested p s) :
    ArbiterSound (passClaim s) := by
  have queued (rq) (mem : rq ∈ s.mar.queue) : rq.job = .retract ∨ s.mar.waiter = some rq.port := by
    refine (hs.requests.queuedClaim rq mem).imp_right (Or.resolve_left · fun own => ?_)
    exact free.queued rq mem (Option.some.inj (own.symm.trans holder))
  have active (a) (mem : a ∈ s.mar.active) : activeKind a.job = .retract := by
    refine (hs.requests.activeClaim a mem).resolve_right fun own => ?_
    exact free.active a mem (Option.some.inj (own.symm.trans holder))
  unfold passClaim
  split
  next w waits =>
    have motion := (hs.claim.waiter w waits).1
    have passed : ArbiterSound (setClaim (some w) none s) :=
      hs.claimSet ⟨by simpa using motion, by simp⟩ (fun rq mem => (queued rq mem).imp_right fun own => .inl (waits ▸ own))
        fun a mem => .inl (active a mem)
    exact tryActivate_sound (passed.of_mar (by simp))
  next alone =>
    refine hs.claimSet ⟨by simp, by simp⟩ (fun rq mem => .inl ?_) fun a mem => .inl (active a mem)
    simpa [alone] using queued rq mem

/-- The waiter leaves the claim, with nothing of its own queued that needs it (R88). -/
theorem withdrawn_sound (hs : ArbiterSound s) (waits : s.mar.waiter = some p)
    (queued : ∀ rq ∈ s.mar.queue, rq.port = p → rq.job = .retract) : ArbiterSound (setClaim s.mar.holder none s) := by
  refine hs.claimSet ⟨hs.claim.holder, by simp⟩ (fun rq mem => ?_) hs.requests.activeClaim
  rcases hs.requests.queuedClaim rq mem with retract | holds | own
  · exact .inl retract
  · exact .inr (.inl holds)
  · exact .inl (queued rq mem (Option.some.inj (own.symm.trans waits)))

theorem queuedOf_eq_some (h : queuedOf s.mar p = some rq) : rq ∈ s.mar.queue ∧ rq.port = p :=
  ⟨List.mem_of_find?_eq_some h, by simpa using List.find?_some h⟩

@[simp] theorem cancelRequest_mar (rq : MotionRequest) (s : State) :
    (cancelRequest rq s).mar.holder = s.mar.holder ∧ (cancelRequest rq s).mar.waiter = s.mar.waiter ∧
      (cancelRequest rq s).mar.queue = s.mar.queue.erase rq := by
  simp [cancelRequest, fileRequestEnd]

theorem cancelRequest_setClaim (rq : MotionRequest) (x y : Option Port) (s : State) :
    (cancelRequest rq (setClaim x y s)).mar = (setClaim x y (cancelRequest rq s)).mar := by
  obtain ⟨port, tag, job⟩ := rq
  cases port <;> rfl

theorem withdrawClaim_sound (hs : ArbiterSound s) (waits : s.mar.waiter = some p) : ArbiterSound (withdrawClaim p s) := by
  unfold withdrawClaim
  simp only []
  split
  next rq found =>
    obtain ⟨mem, rfl⟩ := queuedOf_eq_some found
    have only (x) (left : x ∈ s.mar.queue.erase rq) : x.port ≠ rq.port :=
      (unqueue_vacant hs mem).queued x (by simpa using left)
    split
    next retract =>
      refine withdrawn_sound hs waits fun x queued own => ?_
      by_contra other
      exact only x ((List.mem_erase_of_ne fun same => other (by rw [same, retract])).2 queued) own
    next =>
      have withdrawn := withdrawn_sound (cancelRequest_sound hs mem) (p := rq.port) (by simp [waits])
        fun x left own => absurd own (only x (by simpa using left))
      exact withdrawn.of_mar (by rw [cancelRequest_setClaim, (cancelRequest_mar rq s).1])
  next none_queued =>
    have absent : ∀ x ∈ s.mar.queue, x.port ≠ p := by simpa [queuedOf] using none_queued
    exact withdrawn_sound hs waits fun x mem own => absurd own (absent x mem)

theorem releaseFrameReply_sound (p : Port) (hs : ArbiterSound s) : ArbiterSound (releaseFrameReply p s).state := by
  unfold releaseFrameReply
  split
  next holder =>
    split
    · exact hs
    split
    · exact hs
    next free => exact passClaim_sound hs holder (unrequested_of_requestOpen (by simpa using free))
  split
  next waits => exact withdrawClaim_sound hs waits
  next => exact hs

/-! ### Motion requests (R89 to R93) -/

/-- What has passed the arbiter's checks of R91. -/
theorem lateRefusal_passed {j : MotionJob} (h : lateRefusal p j s = none) :
    (claimant p s = true ∨ j = .retract ∨ jogsUnclaimed j s = true) ∧ Unrequested p s ∧ s.mar.slot p = none := by
  unfold lateRefusal at h
  split at h
  · cases h
  next claims =>
    split at h
    · cases h
    next closed =>
      split at h
      · cases h
      next empty =>
        rw [Bool.not_eq_true', Bool.not_eq_false, Bool.or_eq_true, Bool.or_eq_true, beq_iff_eq, or_assoc] at claims
        exact ⟨claims, unrequested_of_requestOpen (by simpa using closed), by simpa using empty⟩

/-- The motion that a RETRACT preempts is another port's, so that the RETRACT finds its own slot empty still (R93). -/
theorem placeRequest_sound (hs : ArbiterSound s) (vacant : Vacant rq.port s)
    (claim : rq.job = .retract ∨ s.mar.holder = some rq.port ∨ s.mar.waiter = some rq.port)
    (retract : rq.job = .retract → rq.port = .cell) (start : rq.job = .startTest → rq.port = .sequencer) :
    ArbiterSound (placeRequest rq s) := by
  unfold placeRequest placeRetract
  split
  next job =>
    split
    next a preempted =>
      have active := (Option.filter_eq_some_iff.1 preempted).1
      have mar : (clearActive (fileActiveEnd a .preempted s)).mar = _ := clearActive_fileCompletion ..
      refine takeRequest_sound (hs.activeEnds active mar) ⟨⟨?_, by simp⟩, vacant.motion, ?_⟩ (.inl job) true
      · simpa [fileActiveEnd] using vacant.queued
      · have other : rq.port ≠ a.port := (vacant.active a active).symm
        rw [mar, slot_setSlot, if_neg fun same => other same.1]
        simpa using vacant.slot
    next => exact hs.queued vacant claim retract start (.refl _)
  next => exact hs.queued vacant claim retract start (List.perm_append_singleton ..)

theorem claimByJog_claims (p : Port) (s : State) :
    (claimByJog p s).mar.holder = some p ∨ (claimByJog p s).mar.waiter = some p := by
  unfold claimByJog
  split
  · exact .inl rfl
  · exact .inr rfl

theorem claimByJog_vacant (h : Vacant p s) : Vacant p (claimByJog p s) := by
  unfold claimByJog
  split <;> exact h.congr rfl rfl (by rw [setClaim_slot])

theorem admitMotion_sound (hs : ArbiterSound s) (vacant : Vacant rq.port s)
    (claim : claimant rq.port s = true ∨ rq.job = .retract ∨ jogsUnclaimed rq.job s = true)
    (retract : rq.job = .retract → rq.port = .cell) (start : rq.job = .startTest → rq.port = .sequencer) :
    ArbiterSound (admitMotion rq s) := by
  refine tryActivate_sound ?_
  by_cases claims : claimsByJog rq s = true
  · have unclaimed : claimant rq.port s = false := by
      simp only [claimsByJog, Bool.and_eq_true, Bool.not_eq_true'] at claims
      exact claims.2
    have other : s.mar.holder ≠ some rq.port := fun own => by simp [claimant, own] at unclaimed
    rw [if_pos claims]
    exact placeRequest_sound (claimByJog_sound vacant.motion other hs) (claimByJog_vacant vacant)
      (.inr (claimByJog_claims ..)) retract start
  · rw [if_neg claims]
    refine placeRequest_sound hs vacant ?_ retract start
    simp only [claimsByJog, claimant, Bool.and_eq_true, Bool.not_eq_true', Bool.or_eq_false_iff, Bool.or_eq_true,
      beq_iff_eq, beq_eq_false_iff_ne] at claims claim
    tauto

theorem motionReply_sound (tag : Tag) (j : MotionJob) (hs : ArbiterSound s) (motion : motionPort p = true)
    (retract : j = .retract → p = .cell) (start : j = .startTest → p = .sequencer) :
    ArbiterSound (motionReply p tag j s).state := by
  unfold motionReply
  split
  · exact hs
  split
  · exact hs
  next late =>
    obtain ⟨claim, free, slot⟩ := lateRefusal_passed late
    exact admitMotion_sound hs (rq := { port := p, tag := tag, job := j }) ⟨free, motion, slot⟩ claim retract start

theorem refreshJog_sound (d : Direction) (v n : Int) (hs : ArbiterSound s) (own : ownJogActive p s = true) :
    ArbiterSound (refreshJog d v n s) := by
  have refreshed : ArbiterSound (setJob (.jog d (min v s.xhc.config.jogLimit) n) s) := by
    refine setJob_sound hs fun a mem => ?_
    unfold ownJogActive at own
    split at own
    next jog =>
      have active := (Option.filter_eq_some_iff.1 jog).1
      obtain rfl := Option.some.inj (mem.symm.trans active)
      rfl
    next => cases own
  exact .ite (activateAfterEnd_sound s (endMotion_sound _ refreshed)) (.ite (sendWord_sound (refreshed.of_mar rfl)) refreshed)

theorem jogReply_sound (tag : Tag) (d : Direction) (v n : Int) (hs : ArbiterSound s) (motion : motionPort p = true) :
    ArbiterSound (jogReply p tag d v n s).state := by
  unfold jogReply
  split
  · exact hs
  split
  next own => exact refreshJog_sound d v n hs own
  next => exact motionReply_sound tag _ hs motion (fun h => by cases h) fun h => by cases h

theorem stopMotionReply_sound (p : Port) (hs : ArbiterSound s) : ArbiterSound (stopMotionReply p s).state := by
  unfold stopMotionReply
  split
  next rq _ found => exact cancelRequest_sound hs (queuedOf_eq_some found).1
  · split
    · exact hs
    · exact activateAfterEnd_sound s (endMotion_sound _ hs)
  · exact hs

theorem collectCompletionReply_sound (p : Port) (hs : ArbiterSound s) : ArbiterSound (collectCompletionReply p s).state := by
  unfold collectCompletionReply
  split
  · exact hs
  · exact hs.slotSet (.inl rfl) rfl

theorem abortTestReply_sound (hs : ArbiterSound s) : ArbiterSound (abortTestReply s).state := by
  unfold abortTestReply
  split
  · exact hs
  · exact activateAfterEnd_sound s (closeTest_sound _ hs)
  · exact activateAfterEnd_sound s (abortTest_sound _ hs)

/-! ### The commands that leave the arbiter as it is -/

/-- The commands that can end, queue or start a motion, or change the claim: the motion requests, ABORT TEST, the resets, and the
events of the timers, the arrivals and the lines. -/
def reachesArbiter : Instr → Bool
  | .claimFrame _ | .releaseFrame _ | .referenceSearch _ | .startTest _ | .moveTo _ _ _ | .jog _ _ _ _ | .retract _ => true
  | .stopMotion _ | .collectCompletion _ | .abortTest _ | .powerOnReset | .warmReset => true
  | .sampleTimerExpiry | .loadFaultDeclaration | .placementTimeout | .removalTimeout => true
  | .sampleArrival _ | .stageTimeout _ | .endOfTail _ | .brakeReleaseExpiry | .jogDurationExpiry | .activation => true
  | .encoderEdge _ | .searchTravelLimit _ | .referenceSwitchEvent | .referenceSwitchRelease => true
  | .hardLimitSwitchEvent _ | .gateOpening | .emergencyStopAssertion => true
  | _ => false

theorem request_mar {k : RequestKind} {r : Req} {body : State → Reply} (hbody : (body s).state.mar = s.mar)
    (h : request k r s body = .next t) : t.mar = s.mar :=
  request_keeps (P := fun u => u.mar = s.mar) (fun _ _ _ same => by simpa using same) (fun _ => hbody) rfl h

theorem next_mar {u : State} (h : (.next u : Result) = .next t) (same : u.mar = s.mar) : t.mar = s.mar := by
  cases h
  exact same

theorem completeProgramming_mar (l : List CalPoint) (s : State) : (completeProgramming l s).mar = s.mar := by
  unfold completeProgramming
  split <;> simp

theorem exec_mar {i : Instr} (hi : reachesArbiter i = false) (h : exec i s = .next t) : t.mar = s.mar := by
  cases i with
  | readStatus r => exact request_mar rfl h
  | readLive r => exact request_mar rfl h
  | readFlags r => exact request_mar (by simp [readFlagsReply]) h
  | ackFlags r w => exact request_mar (by unfold ackFlagsReply; split <;> simp) h
  | setNotices r w b => exact request_mar (by unfold setNoticesReply; (repeat' split) <;> simp) h
  | readQueue r => exact request_mar rfl h
  | nop r => exact request_mar rfl h
  | configureFrame r u => exact request_mar (by simp only [configureFrameReply]; (repeat' split) <;> simp) h
  | setRange r x => exact request_mar (by unfold setRangeReply; (repeat' split) <;> simp) h
  | tare r => exact request_mar (by unfold tareReply; (repeat' split) <;> simp) h
  | clearFaults r => exact request_mar rfl h
  | definePlan r x g l => exact request_mar (by unfold definePlanReply; (repeat' split) <;> simp) h
  | readPlan r x => exact request_mar (by unfold readPlanReply; (repeat' split) <;> simp) h
  | holdTest r => exact request_mar (by unfold holdTestReply; split <;> simp) h
  | resumeTest r => exact request_mar (by unfold resumeTestReply; (repeat' split) <;> simp) h
  | adjustRate r x => exact request_mar (by unfold adjustRateReply; (repeat' split) <;> simp) h
  | specimenMounted r x w t d => exact request_mar (by unfold specimenMountedReply; (repeat' split) <;> simp) h
  | specimenUnmounted r => exact request_mar (by unfold specimenUnmountedReply; (repeat' split) <;> simp) h
  | extensometerPlaced r => exact request_mar (by unfold extensometerPlacedReply; (repeat' split) <;> simp) h
  | extensometerRemoved r =>
    exact request_mar (by unfold extensometerRemovedReply; split <;> simp) h
  | enqueueSpecimen r x => exact request_mar (by unfold enqueueSpecimenReply; (repeat' split) <;> simp) h
  | cancelSpecimen r x => exact request_mar (by unfold cancelSpecimenReply; (repeat' split) <;> simp) h
  | setGradeLimits r g l => exact request_mar (by unfold setGradeLimitsReply; (repeat' split) <;> simp) h
  | readGradeLimits r g => exact request_mar (by unfold readGradeLimitsReply; (repeat' split) <;> simp) h
  | collectResult r => exact request_mar (by unfold collectResultReply; split <;> simp) h
  | peekResult r => exact request_mar (by unfold peekResultReply; split <;> simp) h
  | readPage r => exact request_mar (by unfold readPageReply; split <;> simp) h
  | writeSiteCalibration r x n l => exact request_mar (by unfold writeSiteCalibrationReply; (repeat' split) <;> simp) h
  | readCalibration r => exact request_mar rfl h
  | unknownRequest p tag k => exact next_mar h (by simp)
  | writeNotTaken p b => exact next_mar h (by split <;> simp)
  | readTransaction p n => exact next_mar h (by simp)
  | conversionEndStrobe =>
    simp only [exec, execConversionEndStrobe] at h
    split at h <;> exact next_mar h rfl
  | holdTimerExpiry => exact next_mar h (by split <;> rfl)
  | extQuadratureEdge d => exact next_mar h rfl
  | hardLimitSwitchRelease side => exact next_mar h rfl
  | gateClosing => exact next_mar h (by unfold gateCloses; split <;> simp)
  | emergencyStopRelease => exact next_mar h rfl
  | calProgrammingCompletion l => exact next_mar h (completeProgramming_mar l s)
  | _ => cases hi

/-! ### Every command -/

theorem request_sound {k : RequestKind} {r : Req} {body : State → Reply} (hs : ArbiterSound s)
    (hbody : permitted k r.port = true → ArbiterSound (body s).state) (h : request k r s body = .next t) : ArbiterSound t :=
  request_keeps (fun _ _ _ hu => hu.of_mar (by simp)) hbody hs h

theorem next_sound {u : State} (h : (.next u : Result) = .next t) (hu : ArbiterSound u) : ArbiterSound t := by
  cases h
  exact hu

theorem reset_sound (mar : s.mar = resetArbiter) : ArbiterSound s :=
  ArbiterSound.of_mar ⟨reset_claimOrdered, reset_oneRequestPerPort⟩ mar

/-- Who may make motion requests and claim the frame is motion-capable (R85, R202). -/
theorem motionPort_of_permitted (h : permitted .claimFrame p = true) : motionPort p = true := by
  cases p <;> simp_all [permitted, motionPort]

theorem exec_sound {i : Instr} (hs : ArbiterSound s) (h : exec i s = .next t) : ArbiterSound t := by
  cases i with
  | claimFrame r => exact request_sound hs (fun may => claimFrameReply_sound (motionPort_of_permitted may) hs) h
  | releaseFrame r => exact request_sound hs (fun _ => releaseFrameReply_sound _ hs) h
  | moveTo r x v =>
    refine request_sound hs (fun may => ?_) h
    exact motionReply_sound _ _ hs (motionPort_of_permitted may) (fun h => by cases h) fun h => by cases h
  | referenceSearch r =>
    refine request_sound hs (fun may => ?_) h
    have port : r.port = .sequencer := by simpa [permitted] using may
    exact motionReply_sound _ _ hs (by rw [port]; rfl) (fun h => by cases h) fun _ => port
  | startTest r =>
    refine request_sound hs (fun may => ?_) h
    have port : r.port = .sequencer := by simpa [permitted] using may
    exact motionReply_sound _ _ hs (by rw [port]; rfl) (fun h => by cases h) fun _ => port
  | retract r =>
    refine request_sound hs (fun may => ?_) h
    have port : r.port = .cell := by simpa [permitted] using may
    exact motionReply_sound _ _ hs (by rw [port]; rfl) (fun _ => port) fun h => by cases h
  | jog r d v n =>
    refine request_sound hs (fun may => ?_) h
    have port : r.port = .cell := by simpa [permitted] using may
    exact jogReply_sound _ _ _ _ hs (by rw [port]; rfl)
  | stopMotion r => exact request_sound hs (fun _ => stopMotionReply_sound _ hs) h
  | collectCompletion r => exact request_sound hs (fun _ => collectCompletionReply_sound _ hs) h
  | abortTest r => exact request_sound hs (fun _ => abortTestReply_sound hs) h
  | powerOnReset => exact next_sound h (reset_sound rfl)
  | warmReset => exact next_sound h (reset_sound rfl)
  | sampleTimerExpiry => exact next_sound h (expire_sound hs)
  | loadFaultDeclaration => exact next_sound h (.ite (expire_sound hs) hs)
  | placementTimeout => exact next_sound h (.ite (expire_sound hs) hs)
  | removalTimeout => exact next_sound h (.ite (expire_sound hs) hs)
  | sampleArrival code => exact next_sound h (arrived_sound code hs)
  | stageTimeout code =>
    simp only [exec, execStageTimeout] at h
    split at h
    next arriving => exact next_sound h (.ite (arrive_sound hs arriving) hs)
    next => exact next_sound h hs
  | endOfTail code =>
    simp only [exec, execEndOfTail] at h
    split at h
    next arriving => exact next_sound h (.ite (arrive_sound hs arriving) hs)
    next => exact next_sound h hs
  | brakeReleaseExpiry => exact next_sound h (brakeReleased_sound hs)
  | jogDurationExpiry => exact next_sound h (.ite (activateAfterEnd_sound s (endMotion_sound _ hs)) hs)
  | activation => exact next_sound h (tryActivate_sound hs)
  | encoderEdge d => exact next_sound h (edge_sound d hs)
  | searchTravelLimit d => exact next_sound h (.ite (edge_sound d hs) hs)
  | referenceSwitchEvent => exact next_sound h (referenceSwitchOn_sound hs)
  | referenceSwitchRelease => exact next_sound h (referenceSwitchOff_sound hs)
  | hardLimitSwitchEvent side => exact next_sound h (hardLimitOn_sound side hs)
  | gateOpening => exact next_sound h (gateOpens_sound hs)
  | emergencyStopAssertion => exact next_sound h (emergencyStops_sound hs)
  | _ => exact hs.of_mar (exec_mar rfl h)

end Sys2Proof.Machine

open Sys2Proof Sys2Proof.Machine

/-- Settles O48: a request ends only into a slot of its own port (`ArbiterSound.ended`), and joins the queue or becomes active only
while its port has nothing queued, active or filed (`ArbiterSound.queued`, `ArbiterSound.starts`); the claim passes from a holder
without requests, and is withdrawn with the request that needs it. -/
theorem claimAndRequestsKeptByEveryStep : Obligations.ClaimAndRequestsKeptByEveryStep := by
  unfold Obligations.ClaimAndRequestsKeptByEveryStep
  intro s t claim requests h
  obtain ⟨claim, requests⟩ : ArbiterSound t :=
    step_keeps (fun _ _ hs => hs.of_mar rfl) (fun _ _ _ hs h => exec_sound hs h) ⟨claim, requests⟩ h
  exact ⟨claim, requests⟩

end

section

/-! PROOF. CLAIM FRAME and RELEASE FRAME, answered (R86 to R88). -/

namespace Sys2Proof.Machine

variable {s : State} {p : Port}

/-- A holder with nothing active and nothing queued at all releases the claim (R87). -/
theorem releaseFrameReply_passes (holder : s.mar.holder = some p) (idle : s.tex.test = none) (still : s.mar.active = none)
    (queue : s.mar.queue = []) : releaseFrameReply p s = .plain (passClaim s) .ok := by
  have closed : requestOpen s.mar p = false := by simp [requestOpen, activeOf, queuedOf, still, queue]
  simp [releaseFrameReply, holder, testIdle_of_none idle, closed]

theorem passClaim_waiter {w : Port} (waits : s.mar.waiter = some w) (queue : s.mar.queue = []) :
    passClaim s = raise w .claimGranted { s with mar := { s.mar with holder := some w, waiter := none } } := by
  simp only [passClaim, waits]
  exact tryActivate_rests (.inr (by simp [queue]))

theorem passClaim_alone (waits : s.mar.waiter = none) : passClaim s = { s with mar := { s.mar with holder := none } } := by
  simp [passClaim, waits, setClaim]

theorem withdrawClaim_idle (queued : ∀ rq ∈ s.mar.queue, rq.port ≠ p) :
    withdrawClaim p s = { s with mar := { s.mar with waiter := none } } := by
  simp [withdrawClaim, queuedOf_eq_none queued, setClaim]

end Sys2Proof.Machine

open Sys2Proof Sys2Proof.Machine

/-- Settles O20, by the claim as it stands; nothing being queued, no activation follows the claim that passes. -/
theorem claimAnsweredAndReleased : Obligations.ClaimAnsweredAndReleased := by
  unfold Obligations.ClaimAnsweredAndReleased
  have permits {p : Port} (port : p ≠ .record) : permitted .claimFrame p = true ∧ permitted .releaseFrame p = true :=
    ⟨(permitted_of_motionPort port).1, (permitted_of_motionPort port).1⟩
  refine ⟨fun r s form port => ⟨fun free => ?_, fun own => ?_, fun h held other => ?_⟩, fun r s form port =>
    ⟨fun holder test => ?_, fun holder idle => ⟨fun a active own => ?_, fun still queue => ⟨fun alone => ?_, fun w waits => ?_⟩⟩,
      fun other waits queued => ?_, fun other stranger => ?_⟩⟩
  all_goals obtain ⟨claims, releases⟩ := permits port
  · exact request_answered claims form (by simp [claimFrameReply, free, setClaim, Reply.plain])
  · exact request_answered claims form (by simp [claimFrameReply, own, Reply.plain])
  · exact request_answered claims form (by simp [claimFrameReply, held, other, setClaim, Reply.plain])
  · exact request_answered releases form (by simp [releaseFrameReply, holder, testIdle_of_test test, Reply.plain])
  · have opened : requestOpen s.mar r.port = true := by simp [requestOpen, activeOf_eq_some active own]
    exact request_answered releases form (by simp [releaseFrameReply, holder, testIdle_of_none idle, opened, Reply.plain])
  · refine request_answered releases form ((releaseFrameReply_passes holder idle still queue).trans ?_)
    rw [passClaim_alone alone]
    rfl
  · refine request_answered releases form ((releaseFrameReply_passes holder idle still queue).trans ?_)
    rw [passClaim_waiter waits queue]
    rfl
  · exact request_answered releases form (by simp [releaseFrameReply, other, waits, withdrawClaim_idle queued, Reply.plain])
  · exact request_answered releases form (by simp [releaseFrameReply, other, stranger, Reply.plain])

end

section

/-! PROOF. The defined plans stay in form, and the test in progress stays on its plan as defined and within the frame (R103 to R107):
each shared operation, each work of an expiry, an edge and an arrival, and each command keeps them so. -/

namespace Sys2Proof.Machine

variable {s t : State} {a : Arrival} {e : Expiry}

/-! ### What the plans' condition speaks of -/

/-- A test of this identity runs on its plan as defined (R105), which keeps its bounds on the frame (R107). -/
def RunsDefined (s : State) (k : BitVec 16 × Text × Fin 8 × Plan) : Prop :=
  s.tex.plans[k.2.2.1] = some k.2.2.2 ∧ planFitsFrame s.xhc.config k.2.2.2 = true

/-- The condition on the running test asks only for what stays the same through a test. -/
theorem plansSound_iff :
    PlansSound s ↔ (∀ i : Fin 8, ∀ p ∈ s.tex.plans[i], planForm p = true) ∧
      ∀ k ∈ s.tex.test.map TestContext.identity, RunsDefined s k := by
  have running : (∀ k ∈ s.tex.test.map TestContext.identity, RunsDefined s k) ↔
      ∀ x ∈ s.tex.test, s.tex.plans[x.planId] = some x.plan ∧ planFitsFrame s.xhc.config x.plan = true := by
    cases s.tex.test <;> simp [RunsDefined, TestContext.identity]
  rw [running]
  exact ⟨fun h => ⟨h.defined, h.running⟩, fun h => ⟨h.1, h.2⟩⟩

/-- What leaves the plans, the running test's identity and the frame configuration keeps the condition. -/
theorem PlansSound.of_eq (hs : PlansSound s)
    (kept : t.tex.plans = s.tex.plans ∧ t.tex.test.map TestContext.identity = s.tex.test.map TestContext.identity ∧
      t.xhc.config = s.xhc.config) : PlansSound t := by
  obtain ⟨plans, test, config⟩ := kept
  rw [plansSound_iff] at hs ⊢
  simpa only [RunsDefined, plans, test, config] using hs

/-- With no test in progress only the defined plans are asked for. -/
theorem PlansSound.of_idle (hs : PlansSound s) (test : t.tex.test = none) (plans : t.tex.plans = s.tex.plans) : PlansSound t :=
  plansSound_iff.2 ⟨plans ▸ hs.defined, by simp [test]⟩

theorem PlansSound.ite {c : Prop} [Decidable c] (ht : PlansSound t) (hs : PlansSound s) : PlansSound (if c then t else s) := by
  split
  · exact ht
  · exact hs

/-! ### The frame configuration through the drive's and the motions' operations (R69) -/

@[simp] theorem driveHold_config (s : State) : (driveHold s).xhc.config = s.xhc.config := by
  simp only [driveHold]
  split <;> rfl

@[simp] theorem endMotion_config (o : MotionOutcome) (s : State) : (endMotion o s).xhc.config = s.xhc.config := by
  unfold endMotion
  split <;> simp

@[simp] theorem beginMotion_config (s : State) : (beginMotion s).xhc.config = s.xhc.config := by
  unfold beginMotion
  (repeat' split) <;> simp

@[simp] theorem startDrive_config (s : State) : (startDrive s).xhc.config = s.xhc.config := by
  unfold startDrive
  split <;> simp

@[simp] theorem makeActive_config (rq : MotionRequest) (j : ActiveJob) (s : State) :
    (makeActive rq j s).xhc.config = s.xhc.config := by
  simp [makeActive]

@[simp] theorem endAtOnce_config (b : Bool) (rq : MotionRequest) (o : MotionOutcome) (r : Option Reason) (s : State) :
    (endAtOnce b rq o r s).xhc.config = s.xhc.config := by
  simp only [endAtOnce]
  split <;> simp

@[simp] theorem takeMove_config (b : Bool) (rq : MotionRequest) (x v : Int) (s : State) :
    (takeMove b rq x v s).xhc.config = s.xhc.config := by
  simp only [takeMove]
  (repeat' split) <;> simp

/-! ### Closure, words and activation (R70, R79, R94, R107, R110, R111, R128) -/

theorem closeTest_plans (c : Closure) (s : State) : (closeTest c s).tex.plans = s.tex.plans := by
  unfold closeTest
  split
  · rfl
  · simp only []
    (repeat' split) <;> simp

theorem closeTest_plansSound (c : Closure) (hs : PlansSound s) : PlansSound (closeTest c s) := by
  cases h : s.tex.test with
  | none => rwa [closeTest_of_idle c h]
  | some x => exact hs.of_idle (closeTest_fields c h).1 (closeTest_plans c s)

theorem endMotion_plansSound (o : MotionOutcome) (hs : PlansSound s) : PlansSound (endMotion o s) :=
  hs.of_eq (by simp)

theorem softLimitEvent_plansSound (up : Bool) (hs : PlansSound s) : PlansSound (softLimitEvent up s) := by
  have stopped : PlansSound (sendWordValue 0 s) := hs.of_eq (by simp)
  unfold softLimitEvent
  split
  · exact (closeTest_plansSound _ stopped).ite stopped
  · exact stopped
  · exact endMotion_plansSound _ stopped
  · exact stopped

theorem sendWord_plansSound (hs : PlansSound s) : PlansSound (sendWord s) :=
  (softLimitEvent_plansSound _ hs).ite (hs.of_eq (by simp))

/-- Of the start conditions the one on the plan (R107, R110): it is defined and keeps its bounds on the frame. -/
theorem planFits_of_startRefusal {m : MountedSpecimen} {p : Plan} (startable : startRefusal s = none)
    (slot : s.spt.slot = some m) (plan : s.tex.plans[m.specimen.plan] = some p) : planFitsFrame s.xhc.config p = true := by
  have valid : planValidFor s.xhc.config s.tex.plans[m.specimen.plan] m = true := by
    by_contra invalid
    simp only [startRefusal, slot] at startable
    grind
  rw [plan] at valid
  simp only [planValidFor, Bool.and_eq_true] at valid
  exact valid.2

theorem takeStartTest_plansSound (rq : MotionRequest) (hs : PlansSound s) : PlansSound (takeStartTest rq s) := by
  unfold takeStartTest
  split
  · exact hs.of_eq (by simp)
  next startable =>
    split
    · exact hs
    next m slot =>
      split
      · exact hs
      next p plan =>
        obtain ⟨-, -, -, identity, -⟩ := activateTest_fields m p (makeActive rq .test s)
        have plans : (activateTest m p (makeActive rq .test s)).tex.plans = s.tex.plans := by simp [activateTest]
        have config : (activateTest m p (makeActive rq .test s)).xhc.config = s.xhc.config := by simp [activateTest]
        refine plansSound_iff.2 ⟨plans ▸ hs.defined, ?_⟩
        rw [identity]
        rintro _ ⟨rfl⟩
        exact ⟨by rw [plans]; exact plan, by rw [config]; exact planFits_of_startRefusal startable slot plan⟩

theorem takeRequest_plansSound (b : Bool) (rq : MotionRequest) (hs : PlansSound s) : PlansSound (takeRequest b rq s) := by
  unfold takeRequest
  split
  · exact hs.of_eq (by simp)
  split
  · exact hs.of_eq (by simp)
  · exact hs.of_eq (by simp)
  · exact .ite (hs.of_eq (by simp)) (hs.of_eq (by simp))
  · exact takeStartTest_plansSound _ hs
  · exact hs.of_eq (by simp)

theorem activationLoop_plansSound (n : Nat) (hs : PlansSound s) : PlansSound (activationLoop n s) := by
  induction n generalizing s with
  | zero => exact hs
  | succ n ih =>
    unfold activationLoop
    split
    · exact hs
    split
    · exact hs
    · exact ih (takeRequest_plansSound _ _ (hs.of_eq (by simp)))

theorem tryActivate_plansSound (hs : PlansSound s) : PlansSound (tryActivate s) :=
  activationLoop_plansSound _ hs

theorem activateAfterEnd_plansSound (b : State) (hs : PlansSound s) : PlansSound (activateAfterEnd b s) :=
  (tryActivate_plansSound hs).ite hs

/-! ### Expiries (R50, R56, R118) -/

theorem advancePlacement_plansSound (p : Plan) (he : PlansSound e.s) : PlansSound (advancePlacement p e).s := by
  simp only [advancePlacement]
  split <;> exact he.of_eq (by simp)

theorem advanceRemoval_plansSound (p : Plan) (he : PlansSound e.s) : PlansSound (advanceRemoval p e).s := by
  simp only [advanceRemoval]
  split <;> exact he.of_eq (by simp)

theorem advanceTimers_plansSound (he : PlansSound e.s) : PlansSound (advanceTimers e).s := by
  unfold advanceTimers
  split
  · exact advanceRemoval_plansSound _ (advancePlacement_plansSound _ he)
  · exact he

theorem declareLoadFault_plansSound (hs : PlansSound s) : PlansSound (declareLoadFault s) :=
  closeTest_plansSound _ (hs.of_eq (by simp))

theorem declareAtExpiry_plansSound (he : PlansSound e.s) : PlansSound (declareAtExpiry e).s := by
  unfold declareAtExpiry
  split
  · exact declareLoadFault_plansSound he
  · exact he

theorem wordAtExpiry_plansSound (he : PlansSound e.s) : PlansSound (wordAtExpiry e).s := by
  unfold wordAtExpiry
  split
  · exact sendWord_plansSound he
  · exact he

theorem expire_plansSound (hs : PlansSound s) : PlansSound (expire s).s := by
  have begun : PlansSound (beginExpiry s).s := hs.of_eq (by simp [beginExpiry])
  exact activateAfterEnd_plansSound s
    (wordAtExpiry_plansSound (declareAtExpiry_plansSound (advanceTimers_plansSound begun)))

/-! ### Edges and lines (R67 to R83) -/

theorem edge_plansSound (d : Direction) (hs : PlansSound s) : PlansSound (edge d s).s := by
  have unreferenced : PlansSound { s with xhc := { s.xhc with referenceValid := false } } := hs.of_eq (by simp)
  refine activateAfterEnd_plansSound s ?_
  unfold workEdge
  split
  · exact closeTest_plansSound _ (endMotion_plansSound _ (.ite (unreferenced.of_eq (by simp)) unreferenced))
  simp only []
  split
  · exact hs.of_eq (by simp)
  · exact (softLimitEvent_plansSound _ (hs.of_eq (by simp))).ite (hs.of_eq (by simp))

theorem hardLimitOn_plansSound (side : LimitSide) (hs : PlansSound s) : PlansSound (hardLimitOn side s) :=
  .ite hs (activateAfterEnd_plansSound s (closeTest_plansSound _ (hs.of_eq (by simp))))

@[simp] theorem gateEndsMotion_config (s : State) : (gateEndsMotion s).xhc.config = s.xhc.config := by
  unfold gateEndsMotion
  split <;> simp

theorem gateOpens_plansSound (hs : PlansSound s) : PlansSound (gateOpens s) := by
  have held : PlansSound (holdTest .gate (gateEndsMotion (setInputs { s.inputs with gateOpen := true } s))) := hs.of_eq (by simp)
  exact .ite hs (activateAfterEnd_plansSound s ((sendWord_plansSound held).of_eq (by simp)))

theorem abortTest_plansSound (c : AbortCause) (hs : PlansSound s) : PlansSound (abortTest c s) :=
  closeTest_plansSound _ hs

theorem raiseAll_plansSound (n : Notice) (hs : PlansSound s) : PlansSound (raiseAll n s) :=
  hs.of_eq (by simp)

theorem emergencyStops_plansSound (hs : PlansSound s) : PlansSound (emergencyStops s) := by
  refine .ite hs (raiseAll_plansSound _ (abortTest_plansSound _ ?_))
  exact hs.of_eq (by simp)

theorem referenceSwitchOn_plansSound (hs : PlansSound s) : PlansSound (referenceSwitchOn s) :=
  .ite hs (.ite (activateAfterEnd_plansSound s (hs.of_eq (by simp))) (hs.of_eq (by simp)))

theorem referenceSwitchOff_plansSound (hs : PlansSound s) : PlansSound (referenceSwitchOff s) :=
  .ite (.ite (hs.of_eq (by simp)) (hs.of_eq (by simp))) hs

theorem brakeReleased_plansSound (hs : PlansSound s) : PlansSound (brakeReleased s) :=
  .ite (activateAfterEnd_plansSound s (hs.of_eq (by simp))) hs

theorem completeProgramming_plansSound (l : List CalPoint) (hs : PlansSound s) : PlansSound (completeProgramming l s) := by
  unfold completeProgramming
  split
  · exact hs
  · exact hs.of_eq (by simp)

/-! ### Arrivals (R24) -/

@[simp] theorem stepUp_plans (a : Arrival) : (stepUp a).s.tex.plans = a.s.tex.plans := by
  unfold stepUp
  (repeat' split) <;> simp

@[simp] theorem formHandover_plans (a : Arrival) : (formHandover a).s.tex.plans = a.s.tex.plans := by
  unfold formHandover
  (repeat' split) <;> simp

@[simp] theorem addSampleEvents_plans (es : List SampleEvent) (s : State) : (addSampleEvents es s).tex.plans = s.tex.plans := by
  unfold addSampleEvents
  induction es generalizing s with
  | nil => rfl
  | cons x es ih => simp [ih]

@[simp] theorem evaluateArrival_plans (a : Arrival) : (evaluateArrival a).s.tex.plans = a.s.tex.plans := by
  unfold evaluateArrival
  split <;> simp

@[simp] theorem detectFracture_plans (a : Arrival) : (detectFracture a).s.tex.plans = a.s.tex.plans := by
  unfold detectFracture
  split <;> simp

@[simp] theorem enterStage_plans (i : Nat) (d : StageDef) (a : Arrival) : (enterStage i d a).s.tex.plans = a.s.tex.plans := by
  simp [enterStage]

@[simp] theorem endPreload_plans (p : Plan) (a : Arrival) : (endPreload p a).s.tex.plans = a.s.tex.plans := by
  simp only [endPreload]
  (repeat' split) <;> simp

@[simp] theorem takeEnd_plans (p : Plan) (r : StageRun) (d : StageDef) (a : Arrival) :
    (takeEnd p r d a).s.tex.plans = a.s.tex.plans := by
  unfold takeEnd
  split <;> simp

@[simp] theorem takeTimeout_plans (p : Plan) (r : StageRun) (d : StageDef) (a : Arrival) :
    (takeTimeout p r d a).s.tex.plans = a.s.tex.plans := by
  simp only [takeTimeout]
  (repeat' split) <;> simp

@[simp] theorem judgeStage_plans (t : TestContext) (a : Arrival) : (judgeStage t a).s.tex.plans = a.s.tex.plans := by
  unfold judgeStage
  (repeat' split) <;> simp

@[simp] theorem judgePhase_plans (t : TestContext) (a : Arrival) : (judgePhase t a).s.tex.plans = a.s.tex.plans := by
  unfold judgePhase countTail
  (repeat' split) <;> simp

@[simp] theorem handoverHold_plans (p : Plan) (a : Arrival) : (handoverHold p a).s.tex.plans = a.s.tex.plans := by
  unfold handoverHold
  split <;> simp

@[simp] theorem executiveTakes_plans (a : Arrival) : (executiveTakes a).s.tex.plans = a.s.tex.plans := by
  simp only [executiveTakes]
  (repeat' split) <;> simp

/-- The works of an arrival from the load channel's to the rate loop's (R24) keep the test, the plans and the frame configuration. -/
theorem arrivalJudged_plansSound (code : Int) (range : LoadRange) (l : Latch) (hs : PlansSound s) :
    PlansSound (loopTakes (executiveTakes (evaluateArrival (formHandover (updatePeak (formStrain (stepUp (overloadCheck
      (beginArrival code range l s)))))))) ).s := by
  have loaded := ((beginArrival_sameTest code range l s).trans (overloadCheck_sameTest _)).trans (stepUp_sameTest _)
  have formed := ((loaded.trans (formStrain_sameTest _)).trans (updatePeak_sameTest _)).trans (formHandover_sameTest _)
  have judged := (formed.trans (evaluateArrival_sameTest _)).trans (executiveTakes_sameTest _)
  exact hs.of_eq ⟨by simp [beginArrival], (judged.trans (loopTakes_sameTest _)).test, by simp [beginArrival]⟩

theorem evaluateMove_plansSound (x : Int) (hs : PlansSound s) : PlansSound (evaluateMove x s) := by
  unfold evaluateMove
  split
  · split
    · exact .ite (endMotion_plansSound _ hs) (hs.of_eq (by simp))
    · exact .ite (endMotion_plansSound _ hs) (hs.of_eq (by simp))
    · exact hs
  · exact hs

theorem motionTakes_plansSound (ha : PlansSound a.s) : PlansSound (motionTakes a).s := by
  unfold motionTakes
  split
  · simp only [mapState_fields, overloadEnds]
    split
    · exact ha
    · exact endMotion_plansSound _ ha
  · exact evaluateMove_plansSound _ ha

theorem wordTakes_plansSound (ha : PlansSound a.s) : PlansSound (wordTakes a).s := by
  have sent w : PlansSound (sendWordValue w a.s) := ha.of_eq (by simp)
  unfold wordTakes
  split
  · exact sent 0
  split
  · split
    · split <;> exact sent 0
    · exact softLimitEvent_plansSound _ ha
  · exact sent _

theorem captureTakes_plansSound (ha : PlansSound a.s) : PlansSound (captureTakes a).s := by
  unfold captureTakes
  split
  · exact ha
  · exact ha.of_eq (by simp)

theorem closeOrCount_plansSound (ha : PlansSound a.s) : PlansSound (closeOrCount a).s := by
  unfold closeOrCount
  split
  · exact closeTest_plansSound _ ha
  · exact ha.of_eq ⟨rfl, (updateTest_identity (fun t => { t with arrivals := t.arrivals + 1 }) (fun _ => rfl) _).1, rfl⟩

theorem workArrival_plansSound (code : Int) (range : LoadRange) (l : Latch) (hs : PlansSound s) :
    PlansSound (workArrival code range l s).s := by
  have sent := wordTakes_plansSound (motionTakes_plansSound (arrivalJudged_plansSound code range l hs))
  exact closeOrCount_plansSound (captureTakes_plansSound (a := publish _) (sent.of_eq ⟨rfl, rfl, rfl⟩))

theorem arrive_plansSound {code : Int} (hs : PlansSound s) (h : arrive code s = some a) : PlansSound a.s := by
  obtain ⟨c, _, rfl⟩ := Option.map_eq_some_iff.1 h
  have worked := workArrival_plansSound code c.1 c.2 hs
  exact .ite (tryActivate_plansSound worked) (activateAfterEnd_plansSound s worked)

/-! ### Requests that move neither the plans nor the configuration (R202) -/

theorem refreshJog_plansSound (d : Direction) (v n : Int) (hs : PlansSound s) : PlansSound (refreshJog d v n s) := by
  have refreshed : PlansSound (setJob (.jog d (min v s.xhc.config.jogLimit) n) s) := hs.of_eq (by simp)
  exact .ite (activateAfterEnd_plansSound s (endMotion_plansSound _ refreshed))
    (.ite (sendWord_plansSound (refreshed.of_eq ⟨rfl, rfl, rfl⟩)) refreshed)

theorem placeRequest_plansSound (rq : MotionRequest) (hs : PlansSound s) : PlansSound (placeRequest rq s) := by
  unfold placeRequest placeRetract
  split
  · split
    · exact takeRequest_plansSound _ _ (hs.of_eq (by simp))
    · exact hs.of_eq (by simp)
  · exact hs.of_eq (by simp)

theorem motionReply_plansSound (p : Port) (tag : Tag) (j : MotionJob) (hs : PlansSound s) :
    PlansSound (motionReply p tag j s).state := by
  unfold motionReply
  split
  · exact hs
  split
  · exact hs
  · exact tryActivate_plansSound (placeRequest_plansSound _ (.ite (hs.of_eq (by simp)) hs))

theorem jogReply_plansSound (p : Port) (tag : Tag) (d : Direction) (v n : Int) (hs : PlansSound s) :
    PlansSound (jogReply p tag d v n s).state := by
  unfold jogReply
  split
  · exact hs
  split
  · exact refreshJog_plansSound d v n hs
  · exact motionReply_plansSound _ _ _ hs

theorem releaseFrameReply_plansSound (p : Port) (hs : PlansSound s) : PlansSound (releaseFrameReply p s).state := by
  unfold releaseFrameReply passClaim
  split
  · split
    · exact hs
    split
    · exact hs
    · dsimp only [Reply.plain_state]
      split
      · exact tryActivate_plansSound (hs.of_eq (by simp))
      · exact hs.of_eq (by simp)
  split
  · exact hs.of_eq (by simp)
  · exact hs

theorem stopMotionReply_plansSound (p : Port) (hs : PlansSound s) : PlansSound (stopMotionReply p s).state := by
  unfold stopMotionReply
  split
  · exact hs.of_eq (by simp)
  · split
    · exact hs
    · exact activateAfterEnd_plansSound s (endMotion_plansSound _ hs)
  · exact hs

theorem abortTestReply_plansSound (hs : PlansSound s) : PlansSound (abortTestReply s).state := by
  unfold abortTestReply
  split
  · exact hs
  · exact activateAfterEnd_plansSound s (closeTest_plansSound _ hs)
  · exact activateAfterEnd_plansSound s (closeTest_plansSound _ hs)

theorem holdTestReply_plansSound (hs : PlansSound s) : PlansSound (holdTestReply s).state := by
  unfold holdTestReply
  (repeat' split) <;> exact hs.of_eq (by simp)

theorem resumeTestReply_plansSound (hs : PlansSound s) : PlansSound (resumeTestReply s).state := by
  unfold resumeTestReply
  (repeat' split) <;> exact hs.of_eq (by simp)

theorem adjustRateReply_plansSound (whole : Bool) (rate : Int) (hs : PlansSound s) :
    PlansSound (adjustRateReply whole rate s).state := by
  unfold adjustRateReply
  (repeat' split) <;> exact hs.of_eq (by simp)

theorem extensometerPlacedReply_plansSound (hs : PlansSound s) : PlansSound (extensometerPlacedReply s).state := by
  unfold extensometerPlacedReply
  (repeat' split) <;> exact hs.of_eq (by simp)

theorem extensometerRemovedReply_plansSound (hs : PlansSound s) : PlansSound (extensometerRemovedReply s).state := by
  unfold extensometerRemovedReply
  (repeat' split) <;> exact hs.of_eq (by simp)

theorem enqueueSpecimenReply_plansSound (p : SpecimenParams) (hs : PlansSound s) :
    PlansSound (enqueueSpecimenReply p s).state := by
  unfold enqueueSpecimenReply
  (repeat' split) <;> exact hs.of_eq (by simp)

theorem cancelSpecimenReply_plansSound (id : Text) (hs : PlansSound s) : PlansSound (cancelSpecimenReply id s).state := by
  unfold cancelSpecimenReply
  (repeat' split) <;> exact hs.of_eq (by simp)

theorem specimenMountedReply_plansSound (id : Text) (w t d : Option Int) (hs : PlansSound s) :
    PlansSound (specimenMountedReply id w t d s).state := by
  unfold specimenMountedReply
  (repeat' split) <;> exact hs.of_eq (by simp)

theorem specimenUnmountedReply_plansSound (hs : PlansSound s) : PlansSound (specimenUnmountedReply s).state := by
  unfold specimenUnmountedReply
  (repeat' split) <;> exact hs.of_eq (by simp)

theorem ackFlagsReply_plansSound (p : Port) (w : BitVec 16) (hs : PlansSound s) : PlansSound (ackFlagsReply p w s).state := by
  unfold ackFlagsReply
  (repeat' split) <;> exact hs.of_eq (by simp)

theorem setNoticesReply_plansSound (p : Port) (w : BitVec 16) (b : Byte) (hs : PlansSound s) :
    PlansSound (setNoticesReply p w b s).state := by
  unfold setNoticesReply
  (repeat' split) <;> exact hs.of_eq (by simp)

theorem claimFrameReply_plansSound (p : Port) (hs : PlansSound s) : PlansSound (claimFrameReply p s).state := by
  unfold claimFrameReply
  (repeat' split) <;> exact hs.of_eq (by simp)

theorem collectCompletionReply_plansSound (p : Port) (hs : PlansSound s) : PlansSound (collectCompletionReply p s).state := by
  unfold collectCompletionReply
  (repeat' split) <;> exact hs.of_eq (by simp)

theorem setRangeReply_plansSound (x : Int) (hs : PlansSound s) : PlansSound (setRangeReply x s).state := by
  unfold setRangeReply
  (repeat' split) <;> exact hs.of_eq (by simp)

theorem tareReply_plansSound (hs : PlansSound s) : PlansSound (tareReply s).state := by
  unfold tareReply
  (repeat' split) <;> exact hs.of_eq (by simp)

theorem writeSiteCalibrationReply_plansSound (c : CalSection) (x : Int) (l : List CalPoint) (hs : PlansSound s) :
    PlansSound (writeSiteCalibrationReply c x l s).state := by
  unfold writeSiteCalibrationReply
  (repeat' split) <;> exact hs.of_eq (by simp)

theorem setGradeLimitsReply_plansSound (g : Int) (l : Option GradeLimits) (hs : PlansSound s) :
    PlansSound (setGradeLimitsReply g l s).state := by
  unfold setGradeLimitsReply
  (repeat' split) <;> exact hs.of_eq (by simp)

theorem readGradeLimitsReply_plansSound (g : Int) (hs : PlansSound s) : PlansSound (readGradeLimitsReply g s).state := by
  unfold readGradeLimitsReply
  (repeat' split) <;> exact hs.of_eq (by simp)

theorem collectResultReply_plansSound (hs : PlansSound s) : PlansSound (collectResultReply s).state := by
  unfold collectResultReply
  (repeat' split) <;> exact hs.of_eq (by simp)

theorem peekResultReply_plansSound (hs : PlansSound s) : PlansSound (peekResultReply s).state := by
  unfold peekResultReply
  (repeat' split) <;> exact hs.of_eq (by simp)

theorem readPageReply_plansSound (hs : PlansSound s) : PlansSound (readPageReply s).state := by
  unfold readPageReply
  (repeat' split) <;> exact hs.of_eq (by simp)

/-! ### The requests on the plans and the configuration, and the resets (R65, R105, R106) -/

theorem readPlanReply_plansSound (x : Int) (hs : PlansSound s) : PlansSound (readPlanReply x s).state := by
  unfold readPlanReply
  (repeat' split) <;> exact hs

/-- A plan is stored in form, and not under the id of the test in progress (R105). -/
theorem storePlan_plansSound {i : Fin 8} {p : Plan} (form : planForm p = true) (free : planInUse s i = false)
    (hs : PlansSound s) : PlansSound (storePlan i p s) where
  defined j q hq := by
    by_cases same : i = j
    · subst same
      obtain rfl : p = q := by simpa [storePlan] using hq
      exact form
    · have other : (i : ℕ) ≠ j := fun h => same (Fin.ext h)
      exact hs.defined j q (by simpa [storePlan, Vector.getElem_set_ne, other] using hq)
  running x hx := by
    have test : s.tex.test = some x := hx
    have other : (i : ℕ) ≠ x.planId := by
      intro h
      simp [planInUse, test, Fin.ext h.symm] at free
    simpa [storePlan, Vector.getElem_set_ne, other] using hs.running x hx

theorem definePlanReply_plansSound (x : Int) (g : PlanUpdate) (l : List StageDef) (hs : PlansSound s) :
    PlansSound (definePlanReply x g l s).state := by
  unfold definePlanReply
  split
  next i p _ _ =>
    split
    · exact hs
    next form =>
      split
      · exact hs
      next free =>
        split
        · exact hs
        · exact storePlan_plansSound (by simpa using form) (by simpa using free) hs
  next => exact hs

/-- The configuration changes with no motion active (R65), and so outside a test. -/
theorem configureFrameReply_plansSound (u : FrameUpdate) (one : OneTest s) (hs : PlansSound s) :
    PlansSound (configureFrameReply u s).state := by
  simp only [configureFrameReply]
  split
  · exact hs
  split
  · exact hs
  split
  · exact hs
  split
  · exact hs
  next still =>
    split
    · exact hs
    · have idle : s.tex.test = none := by
        have active : s.mar.active = none := by simpa using still
        simpa [testIsActive, active] using one.active.symm
      exact hs.of_idle (by simpa using idle) (by simp)

theorem poweredOn_plansSound (s : State) : PlansSound (poweredOn s) :=
  reset_plansSound.of_eq ⟨rfl, rfl, rfl⟩

/-! ### Every command and every step -/

theorem setPort_plansSound (p : Port) (v : PortState) (hs : PlansSound s) : PlansSound (s.setPort p v) :=
  hs.of_eq (by simp)

theorem request_plansSound {k : RequestKind} {r : Req} {body : State → Reply} (hs : PlansSound s)
    (hbody : PlansSound (body s).state) (h : request k r s body = .next t) : PlansSound t :=
  request_keeps (fun _ _ _ hu => setPort_plansSound _ _ hu) (fun _ => hbody) hs h

theorem next_plansSound {u : State} (h : (.next u : Result) = .next t) (hu : PlansSound u) : PlansSound t := by
  cases h
  exact hu

theorem arrived_plansSound (code : Int) (hs : PlansSound s) : PlansSound (arrived code s) := by
  unfold arrived
  split
  next arriving => exact arrive_plansSound hs arriving
  next => exact hs

theorem exec_plansSound {i : Instr} (one : OneTest s) (hs : PlansSound s) (h : exec i s = .next t) : PlansSound t := by
  cases i with
  | readStatus r => exact request_plansSound hs hs h
  | readLive r => exact request_plansSound hs hs h
  | readFlags r => exact request_plansSound hs (setPort_plansSound _ _ hs) h
  | ackFlags r w => exact request_plansSound hs (ackFlagsReply_plansSound _ _ hs) h
  | setNotices r w b => exact request_plansSound hs (setNoticesReply_plansSound _ _ _ hs) h
  | readQueue r => exact request_plansSound hs hs h
  | nop r => exact request_plansSound hs hs h
  | configureFrame r u => exact request_plansSound hs (configureFrameReply_plansSound u one hs) h
  | setRange r x => exact request_plansSound hs (setRangeReply_plansSound x hs) h
  | tare r => exact request_plansSound hs (tareReply_plansSound hs) h
  | clearFaults r => exact request_plansSound hs (hs.of_eq ⟨rfl, rfl, rfl⟩) h
  | definePlan r x g l => exact request_plansSound hs (definePlanReply_plansSound x g l hs) h
  | readPlan r x => exact request_plansSound hs (readPlanReply_plansSound x hs) h
  | referenceSearch r => exact request_plansSound hs (motionReply_plansSound _ _ _ hs) h
  | startTest r => exact request_plansSound hs (motionReply_plansSound _ _ _ hs) h
  | holdTest r => exact request_plansSound hs (holdTestReply_plansSound hs) h
  | resumeTest r => exact request_plansSound hs (resumeTestReply_plansSound hs) h
  | abortTest r => exact request_plansSound hs (abortTestReply_plansSound hs) h
  | adjustRate r x => exact request_plansSound hs (adjustRateReply_plansSound _ _ hs) h
  | claimFrame r => exact request_plansSound hs (claimFrameReply_plansSound _ hs) h
  | releaseFrame r => exact request_plansSound hs (releaseFrameReply_plansSound _ hs) h
  | moveTo r x v => exact request_plansSound hs (motionReply_plansSound _ _ _ hs) h
  | stopMotion r => exact request_plansSound hs (stopMotionReply_plansSound _ hs) h
  | collectCompletion r => exact request_plansSound hs (collectCompletionReply_plansSound _ hs) h
  | jog r d v n => exact request_plansSound hs (jogReply_plansSound _ _ _ _ _ hs) h
  | retract r => exact request_plansSound hs (motionReply_plansSound _ _ _ hs) h
  | specimenMounted r x w t d => exact request_plansSound hs (specimenMountedReply_plansSound _ _ _ _ hs) h
  | specimenUnmounted r => exact request_plansSound hs (specimenUnmountedReply_plansSound hs) h
  | extensometerPlaced r => exact request_plansSound hs (extensometerPlacedReply_plansSound hs) h
  | extensometerRemoved r => exact request_plansSound hs (extensometerRemovedReply_plansSound hs) h
  | enqueueSpecimen r p => exact request_plansSound hs (enqueueSpecimenReply_plansSound p hs) h
  | cancelSpecimen r x => exact request_plansSound hs (cancelSpecimenReply_plansSound x hs) h
  | setGradeLimits r g l => exact request_plansSound hs (setGradeLimitsReply_plansSound g l hs) h
  | readGradeLimits r g => exact request_plansSound hs (readGradeLimitsReply_plansSound g hs) h
  | collectResult r => exact request_plansSound hs (collectResultReply_plansSound hs) h
  | peekResult r => exact request_plansSound hs (peekResultReply_plansSound hs) h
  | readPage r => exact request_plansSound hs (readPageReply_plansSound hs) h
  | writeSiteCalibration r x n l => exact request_plansSound hs (writeSiteCalibrationReply_plansSound x n l hs) h
  | readCalibration r => exact request_plansSound hs hs h
  | unknownRequest p tag k => exact next_plansSound h (setPort_plansSound _ _ hs)
  | writeNotTaken p b => exact next_plansSound h (.ite (setPort_plansSound _ _ hs) hs)
  | readTransaction p n => exact next_plansSound h (setPort_plansSound _ _ hs)
  | powerOnReset => exact next_plansSound h (reset_plansSound.of_eq ⟨rfl, rfl, rfl⟩)
  | warmReset => exact next_plansSound h (hs.of_idle rfl rfl)
  | sampleTimerExpiry => exact next_plansSound h (expire_plansSound hs)
  | loadFaultDeclaration => exact next_plansSound h (.ite (expire_plansSound hs) hs)
  | placementTimeout => exact next_plansSound h (.ite (expire_plansSound hs) hs)
  | removalTimeout => exact next_plansSound h (.ite (expire_plansSound hs) hs)
  | conversionEndStrobe =>
    simp only [exec, execConversionEndStrobe] at h
    split at h
    · exact next_plansSound h (hs.of_eq ⟨rfl, rfl, rfl⟩)
    · exact next_plansSound h hs
  | sampleArrival code => exact next_plansSound h (arrived_plansSound code hs)
  | stageTimeout code =>
    simp only [exec, execStageTimeout] at h
    split at h
    next arriving => exact next_plansSound h (.ite (arrive_plansSound hs arriving) hs)
    next => exact next_plansSound h hs
  | endOfTail code =>
    simp only [exec, execEndOfTail] at h
    split at h
    next arriving => exact next_plansSound h (.ite (arrive_plansSound hs arriving) hs)
    next => exact next_plansSound h hs
  | brakeReleaseExpiry => exact next_plansSound h (brakeReleased_plansSound hs)
  | holdTimerExpiry => exact next_plansSound h (.ite (hs.of_eq ⟨rfl, rfl, rfl⟩) hs)
  | jogDurationExpiry => exact next_plansSound h (.ite (activateAfterEnd_plansSound s (endMotion_plansSound _ hs)) hs)
  | activation => exact next_plansSound h (tryActivate_plansSound hs)
  | encoderEdge d => exact next_plansSound h (edge_plansSound d hs)
  | searchTravelLimit d => exact next_plansSound h (.ite (edge_plansSound d hs) hs)
  | extQuadratureEdge d => exact next_plansSound h (hs.of_eq ⟨rfl, rfl, rfl⟩)
  | referenceSwitchEvent => exact next_plansSound h (referenceSwitchOn_plansSound hs)
  | referenceSwitchRelease => exact next_plansSound h (referenceSwitchOff_plansSound hs)
  | hardLimitSwitchEvent side => exact next_plansSound h (hardLimitOn_plansSound side hs)
  | hardLimitSwitchRelease side => exact next_plansSound h (hs.of_eq ⟨rfl, rfl, rfl⟩)
  | gateOpening => exact next_plansSound h (gateOpens_plansSound hs)
  | gateClosing => exact next_plansSound h (.ite (hs.of_eq (by simp)) hs)
  | emergencyStopAssertion => exact next_plansSound h (emergencyStops_plansSound hs)
  | emergencyStopRelease => exact next_plansSound h (hs.of_eq ⟨rfl, rfl, rfl⟩)
  | calProgrammingCompletion l => exact next_plansSound h (completeProgramming_plansSound l hs)

end Sys2Proof.Machine

open Sys2Proof Sys2Proof.Machine

/-- Settles O54: a plan is stored in form and never under the running test's id (`storePlan_plansSound`), the configuration changes
outside a test only (`configureFrameReply_plansSound`), and a test starts on a defined plan that fits the frame
(`takeStartTest_plansSound`); all else leaves plans, configuration and the test's plan. -/
theorem plansKeptByEveryStep : Obligations.PlansKeptByEveryStep := by
  unfold Obligations.PlansKeptByEveryStep
  intro s t one hs h
  unfold step at h
  split at h
  next =>
    cases h
    exact hs
  next i rest _ =>
    exact exec_plansSound (s := s.withPending rest) (one.of_queue rfl rfl rfl rfl rfl rfl) (hs.of_eq (by simp)) h

end

section

/-! PROOF. DEFINE PLAN and READ PLAN, answered (R103 to R106), and HOLD TEST and RESUME TEST (R120 to R122, R133, R136). -/

namespace Sys2Proof.Machine

variable {s : State} {t : TestContext}

theorem permitted_of_sequencer {p : Port} (port : p = .sequencer) :
    permitted .definePlan p = true ∧ permitted .readPlan p = true ∧ permitted .holdTest p = true ∧
      permitted .resumeTest p = true ∧ permitted .abortTest p = true ∧ permitted .adjustRate p = true := by
  subst port
  decide

theorem forbidden_of_other {p : Port} (port : p ≠ .sequencer) :
    permitted .readPlan p = false ∧ permitted .holdTest p = false := by
  cases p <;> simp_all [permitted]

/-- A request from a port its kind is not permitted on is answered so (R202). -/
theorem request_forbidden {k : RequestKind} {r : Req} {body : State → Reply} (hp : permitted k r.port = false) (s : State) :
    request k r s body = .next (answered k r .notPermitted .nothing s) := by
  rw [request_next, checkedReply_forbidden k r s body hp]
  rfl

/-! ### Plans (R105, R106) -/

theorem planIdOf_val (i : Fin 8) : planIdOf (i.val : Int) = some i := by
  have : (i.val : Int) < 8 := by omega
  simp [planIdOf, this]

theorem planIdOf_eq_none {id : Int} (outside : ¬ (0 ≤ id ∧ id ≤ 7)) : planIdOf id = none := by
  have : ¬ (0 ≤ id ∧ id < 8) := by omega
  simp [planIdOf, this]

theorem planInUse_iff (s : State) (i : Fin 8) : planInUse s i = true ↔ ∃ t, s.tex.test = some t ∧ t.planId = i := by
  unfold planInUse
  split <;> simp [*]

/-- DEFINE PLAN of a plan in form, by R105's checks in their order. -/
theorem definePlanReply_form {g : PlanUpdate} {stages : List StageDef} {p : Plan} (i : Fin 8) (plan : planOf g stages = some p)
    (form : planForm p = true) (s : State) :
    definePlanReply i.val g stages s =
      if planInUse s i then .plain s .planInUse
      else if planFitsFrame s.xhc.config p then { state := storePlan i p s, outcome := .ok, payload := .plan p }
      else .plain s .badParameter := by
  cases fits : planFitsFrame s.xhc.config p <;> simp [definePlanReply, planIdOf_val, plan, form, fits]

/-! ### Holds and releases (R120, R122) -/

/-- A test in PRELOAD, PLACING or RUNNING is held with that return state, the set-point 0 (R120, R133). -/
theorem holdTest_eq {ret : ReturnState} (c : HoldCause) (h : s.tex.test = some t) (holdable : holdableAs t.phase = some ret) :
    holdTest c s =
      { s with
        tex := { s.tex with
          test := some (({ t with phase := .held c ret } : TestContext).logEvent
            ⟨.hold, sampleNumber t.arrivals, causeNumber c⟩) },
        rlp := { s.rlp with setPoint := 0 }, cps := eventMarked s.cps } := by
  have held : setPhase (.held c ret) s = _ := updateTest_eq _ h
  simp only [holdTest, phase_of_test h, Option.bind_some, holdable, held]
  rw [addEvent_eq _ _ rfl]
  rfl

/-- The loop as a release into a state leaves it (R133, R136). -/
def releasedLoop (p : Plan) (ret : ReturnState) (r : RateLoop) : RateLoop :=
  match ret with
  | .preload => { r with setPoint := p.preloadRate * 1000 }
  | .placing => { r with setPoint := 0 }
  | .running => { r with target := none, seed := .pending, setPoint := 0 }

/-- A HELD test is released into its return state (R122, R133). -/
theorem releaseTest_held {c : HoldCause} {ret : ReturnState} (h : s.tex.test = some t) (held : t.phase = .held c ret) :
    releaseTest s =
      { s with
        tex := { s.tex with
          test := some (({ t with phase := returnPhase ret } : TestContext).logEvent
            ⟨.resume, sampleNumber t.arrivals, causeNumber c⟩) },
        rlp := releasedLoop t.plan ret s.rlp, cps := eventMarked s.cps } := by
  have back : setPhase (returnPhase ret) s = _ := updateTest_eq _ h
  simp only [releaseTest, h, held, back]
  rw [addEvent_eq _ _ rfl]
  cases ret <;> rfl

theorem isHeld_iff (s : State) : s.isHeld = true ↔ ∃ t c ret, s.tex.test = some t ∧ t.phase = .held c ret := by
  cases test : s.tex.test with
  | none => simp [State.isHeld, State.phase, test]
  | some t => cases phase : t.phase <;> simp [State.isHeld, State.phase, test, phase]

end Sys2Proof.Machine

open Sys2Proof Sys2Proof.Machine

/-- Settles O14, by R105's checks on a plan in form (`definePlanReply_form`). -/
theorem planDefined : Obligations.PlanDefined := by
  unfold Obligations.PlanDefined
  intro r i g stages p s form port plan planned
  obtain ⟨allowed, -⟩ := permitted_of_sequencer port
  have reply := definePlanReply_form i plan planned s
  refine ⟨fun t test own => ?_, fun other => ?_⟩
  · have used := (planInUse_iff s i).2 ⟨t, test, own⟩
    exact request_answered allowed form (by rw [reply, used]; rfl)
  · have free : planInUse s i = false := by
      rw [← Bool.not_eq_true, planInUse_iff]
      exact fun ⟨t, test, own⟩ => other t test own
    refine ⟨fun fits => ?_, fun misfits => ?_⟩
    · exact request_answered allowed form (by rw [reply, free, fits]; rfl)
    · exact request_answered allowed form (by rw [reply, free, misfits]; rfl)

/-- Settles O15, by the id and by what is stored under it. -/
theorem readPlanReportsThePlan : Obligations.ReadPlanReportsThePlan := by
  unfold Obligations.ReadPlanReportsThePlan
  intro r id s form
  refine ⟨fun port => request_forbidden (forbidden_of_other port).1 s, fun port => ?_⟩
  obtain ⟨-, allowed, -⟩ := permitted_of_sequencer port
  refine ⟨fun outside => ?_, ?_⟩
  · exact request_answered allowed form (by simp [readPlanReply, planIdOf_eq_none outside, Reply.plain])
  · rintro i rfl
    refine ⟨fun empty => ?_, fun p plan => ?_⟩
    · exact request_answered allowed form (by simp only [readPlanReply, planIdOf_val, empty]; rfl)
    · exact request_answered allowed form (by simp only [readPlanReply, planIdOf_val, plan])

/-- Settles O16: in a phase that can be held the test is held (`holdTest_eq`), in any other there is nothing to hold. -/
theorem holdTestHoldsOrRefuses : Obligations.HoldTestHoldsOrRefuses := by
  unfold Obligations.HoldTestHoldsOrRefuses
  intro r s form
  refine ⟨fun port => request_forbidden (forbidden_of_other port).2 s, fun port => ?_⟩
  obtain ⟨-, -, allowed, -⟩ := permitted_of_sequencer port
  refine ⟨fun t ret test phase => ?_, fun unheld => ?_⟩
  · have holdable : holdableAs t.phase = some ret := by
      obtain ⟨phase, rfl⟩ | ⟨phase, rfl⟩ | ⟨phase, rfl⟩ := phase <;> rw [phase] <;> rfl
    refine request_answered allowed form ?_
    simp only [holdTestReply, phase_of_test test, Option.bind_some, holdable, Option.isSome_some, if_true,
      holdTest_eq .sequencer test holdable]
    rfl
  · have refused : s.phase.bind holdableAs = none := by
      obtain idle | ⟨t, test, ⟨c, ret, phase⟩ | ⟨n, phase⟩⟩ := unheld
      · simp [State.phase, idle]
      · simp [phase_of_test test, phase, holdableAs]
      · simp [phase_of_test test, phase, holdableAs]
    exact request_answered allowed form (by simp [holdTestReply, refused, Reply.plain])

/-- Settles O17: a HELD test is released once the gate is closed (`releaseTest_held`), any other state is refused. -/
theorem resumeTestReleases : Obligations.ResumeTestReleases := by
  unfold Obligations.ResumeTestReleases
  intro r s form port
  obtain ⟨-, -, -, allowed, -⟩ := permitted_of_sequencer port
  refine ⟨fun t c ret test phase => ?_, fun unheld => ?_⟩
  · have held : s.isHeld = true := (isHeld_iff s).2 ⟨t, c, ret, test, phase⟩
    refine ⟨fun opened => ?_, fun closed => ?_⟩
    · exact request_answered allowed form (by simp [resumeTestReply, held, opened, Reply.plain])
    · refine request_answered allowed form ?_
      simp only [resumeTestReply, held, closed, releaseTest_held test phase]
      cases ret <;> rfl
  · have going : s.isHeld = false := by
      rw [← Bool.not_eq_true, isHeld_iff]
      exact fun ⟨t, c, ret, test, phase⟩ => unheld t test c ret phase
    exact request_answered allowed form (by simp [resumeTestReply, going, Reply.plain])

end

section

/-! PROOF. ABORT TEST, answered: what the closure leaves of every block (R16, R69, R98, R126 to R128, R191). -/

namespace Sys2Proof.Machine

variable {s u : State} {t : TestContext}

/-! ### The notices of a closure (R128, R203, R204) -/

/-- Each port has its own notices (R203). -/
def NoticesOwn (s : State) : Prop :=
  ∀ p : Port, (s.portOf p).flags.map (fun e => e.1) = noticesOf p

theorem NoticesOwn.raised (hs : NoticesOwn s) {p : Port} {n : Notice} (has : n ∈ noticesOf p) : (raise p n s).flag p n = .raised :=
  flag_raise_self (by rwa [hs p])

theorem NoticesOwn.raise (hs : NoticesOwn s) (p : Port) (n : Notice) : NoticesOwn (raise p n s) :=
  fun q => (raise_names p q n s).trans (hs q)

theorem NoticesOwn.estopEnds (hs : NoticesOwn s) (h : EstopEnds s u) : NoticesOwn u :=
  fun p => (h.notices p).trans (hs p)

theorem NoticesOwn.of_pif (hs : NoticesOwn s) (h : u.pif = s.pif) : NoticesOwn u :=
  fun p => by rw [portOf_of_pif h, hs p]

theorem fileTestEnd_noticesOwn (n : BitVec 16) (c : Closure) (hs : NoticesOwn s) : NoticesOwn (fileTestEnd n c s) := by
  unfold fileTestEnd
  split
  next => exact hs
  next a _ =>
    obtain ⟨port, tag, job⟩ := a
    exact (hs.raise port .motionDone).of_pif (by cases port <;> rfl)

/-- TEST_ENDED to the sequencer, RESULT_READY to the record and UNLOAD_REQ to the cell port stand RAISED (R128). -/
structure ClosureNoticed (s : State) : Prop where
  ended : s.flag .sequencer .testEnded = .raised
  result : s.flag .record .resultReady = .raised
  unload : s.flag .cell .unloadReq = .raised

theorem closureNotices_noticed (hs : NoticesOwn s) : ClosureNoticed (closureNotices s) := by
  have ended := hs.raise .sequencer .testEnded
  have recorded := ended.raise .record .testEnded
  have ready := recorded.raise .record .resultReady
  have kept {p : Port} {n : Notice} {q : Port} {k : Notice} {v : State} (was : v.flag p n = .raised) :
      (raise q k v).flag p n = .raised := (raise_ports q k .rfl).raised p n was
  exact {
    ended := kept (kept (kept (hs.raised (by decide))))
    result := kept (recorded.raised (by decide))
    unload := ready.raised (by decide) }

theorem closeTest_noticed (c : Closure) (ports : PortsSound s) (h : s.tex.test = some t) : ClosureNoticed (closeTest c s) := by
  have filed {v : State} (k) (hv : NoticesOwn v) :
      ClosureNoticed (closureNotices (fileTestEnd t.serial c (endCapture (recordTest t c k v)))) :=
    closureNotices_noticed (fileTestEnd_noticesOwn _ _ (hv.of_pif (by simp)))
  have of_pif {v w : State} (h : w.pif = v.pif) (hv : ClosureNoticed v) : ClosureNoticed w :=
    ⟨(flag_of_pif h _ _).trans hv.ended, (flag_of_pif h _ _).trans hv.result, (flag_of_pif h _ _).trans hv.unload⟩
  have channel : NoticesOwn (extClosure s) := NoticesOwn.estopEnds ports.flags (extClosure_estopEnds s)
  simp only [closeTest, h]
  cases capture : (extClosure s).cps.capture with
  | none => exact of_pif (by split <;> simp) (filed (captureCounters none) channel)
  | some x =>
    have paged : NoticesOwn (closeLastPage x (extClosure s)) := channel.estopEnds (closeLastPage_estopEnds x _)
    exact of_pif (by split <;> simp) (filed (captureCounters (some x)) paged)

/-! ### The other blocks after a closure (R32, R128) -/

theorem selectRange_range (r : LoadRange) (n : Nat) (s : State) : (selectRange r n s).ldc.range = r := by
  unfold selectRange
  split
  next current => exact current
  next => rfl

/-- A closure leaves the plan's range current, and the lines and the calibration store as they are (R128). -/
theorem closeTest_range (c : Closure) (h : s.tex.test = some t) :
    (closeTest c s).ldc.range = t.plan.initialRange ∧ (closeTest c s).inputs = s.inputs ∧ (closeTest c s).cal = s.cal := by
  simp only [closeTest, h]
  refine ⟨?_, ?_, ?_⟩ <;> (repeat' split) <;> simp [selectRange_range]

/-- ABORT TEST closes the test, COMPLETE in TAIL and ABORTED by the operator before fracture; nothing is queued to follow (R126). -/
theorem abortTestReply_closes {closure : Closure} (h : s.tex.test = some t) (queue : s.mar.queue = [])
    (by_phase : tailPhase s ∧ closure = .complete ∨ ¬ tailPhase s ∧ closure = .aborted .operator) :
    abortTestReply s = .plain (closeTest closure s) .ok := by
  have still c : activateAfterEnd s (closeTest c s) = closeTest c s :=
    activateAfterEnd_of_queue s ((closeTest_queue c s).trans queue)
  obtain ⟨⟨n, tail⟩, rfl⟩ | ⟨before, rfl⟩ := by_phase
  · simp only [abortTestReply, tail, still]
  · have phase := phase_of_test h
    unfold abortTestReply
    split
    next none => simp [phase] at none
    next n tail => exact absurd ⟨n, tail⟩ before
    next => rw [abortTest, still]

end Sys2Proof.Machine

open Sys2Proof Sys2Proof.Machine

/-- Settles O18: the reply is the closure alone (`abortTestReply_closes`), and what a closure leaves is said block by block. -/
theorem abortTestCloses : Obligations.AbortTestCloses := by
  unfold Obligations.AbortTestCloses
  intro r s t m tag closure form port test slot active queue hold ports by_phase
  obtain ⟨-, -, -, -, allowed, -⟩ := permitted_of_sequencer port
  have holds : leavesDisabled closure = false := by
    obtain ⟨-, rfl⟩ | ⟨-, rfl⟩ := by_phase <;> rfl
  obtain ⟨rec, rsl, serial, specimen, closed, judged⟩ := closeTest_rsl closure test slot
  obtain ⟨-, -, -, capture, loop, -, -⟩ := closeTest_fields closure test
  obtain ⟨range, inputs, cal⟩ := closeTest_range closure test
  obtain ⟨ended, result, unload⟩ := closeTest_noticed closure ports test
  refine ⟨closeTest closure s, rec, request_answered allowed form (abortTestReply_closes test queue by_phase),
    closeTest_tex _ test, ?_, rsl, serial, specimen, closed, judged, ?_, closeTest_xhc test holds hold, loop, capture, range,
    ended, result, unload, inputs, cal, closeTest_faults ..⟩
  · rw [closeTest_spt _ test, slot]
    rfl
  · rw [closeTest_mar _ test active]
    obtain ⟨-, rfl⟩ | ⟨-, rfl⟩ := by_phase <;> rfl

end

section

/-! PROOF. The set-point of HOLD mode on a frame configuration out of R64's range (O19 refuted). -/

namespace Sys2Proof.Machine

/-- A stage in HOLD mode that nothing ends. -/
def restingStage : StageDef :=
  { mode := .hold, rate := 0, endKind := .never, endValue := none, successor := .next, timeoutMs := 0, timeoutAction := .abort }

/-- A plan of that stage alone. -/
def restingPlan : Plan :=
  { preloadForce := 0, preloadRate := 0, extRequired := false, placementTimeout := 60, removalStrain := 0, removalDrop := 0,
    removalMode := .hold, removalTimeout := 30, slipThreshold := 200, rpOffset := 2000, fitLow := 1000, fitHigh := 4000,
    eNom := 210000, yieldDrop := 5, yieldLimit := 30000, fractureFraction := 20, fractureFloor := 2000, tailSamples := 64,
    divisor := 1, initialRange := .r4, autoRange := false, settleSamples := 4, kc := 8, roundMode := .nearest, stressRes := 10,
    strainRes := 100, stages := [restingStage] }

/-- A specimen under test. -/
def restingSpecimen : MountedSpecimen :=
  { state := .testing, used := .round 10000, measured := ⟨false, false, false⟩, area := 7854
    specimen := { id := [65], heat := [], grade := 0, dims := .round 10000, le := none, lc := 70000, plan := 0, rush := false,
                  retestOf := [] } }

/-- The test RUNNING in that stage. -/
def restingTest : TestContext :=
  { newTest 1 restingSpecimen restingPlan with phase := .running, stage := some (enteredStage 1 restingStage) }

/-- That test with its loop seeded, and the maximum rate below 0: R64's range excludes it (`ConfigSound`), but no premise of
the statement does. -/
def vmaxBelowZero : State :=
  { State.reset with
    spt := { queue := [], slot := some restingSpecimen }
    ldc := { State.reset.ldc with settle := 0, conversion := some { range := .r4, latch := some { extCount := 0, position := 0 } } }
    exc := { State.reset.exc with basis := some (newBasis restingSpecimen 0) }
    xhc := { State.reset.xhc with config := { State.reset.xhc.config with vmax := -1 } }
    mar := { State.reset.mar with active := some { port := .sequencer, tag := 0, job := .test } }
    tex := { State.reset.tex with serial := 1, test := some restingTest }
    rlp := ⟨.hold, some 0, none, .seeded, 0⟩ }

theorem vmaxBelowZero_arrivalInTest :
    ArrivalInTest vmaxBelowZero restingTest restingSpecimen (newBasis restingSpecimen 0) .r4 ⟨0, 0⟩ :=
  ⟨rfl, rfl, rfl, rfl, ⟨0, rfl⟩, rfl, rfl⟩

theorem vmaxBelowZero_goodSample : GoodSample vmaxBelowZero .r4 0 :=
  ⟨rfl, by decide, by decide⟩

/-- The sample is the test's first: the peak it leaves is its own force, below the fracture floor (R124). -/
theorem vmaxBelowZero_unbroken : Unbroken vmaxBelowZero restingPlan (netForce vmaxBelowZero .r4 0) := by
  rintro fm (⟨rfl, -⟩ | ⟨k, peak, -⟩)
  · exact .inl (by decide)
  · cases peak

/-- The sum of HOLD mode is 0; the clamp to 0..vmax × 1000 makes -1000 of it (R139, R140). -/
theorem sampleArrival_vmaxBelowZero :
    (arrived 0 vmaxBelowZero).phase = some .running ∧ (arrived 0 vmaxBelowZero).rlp.setPoint = -1000 := by
  decide

end Sys2Proof.Machine

open Sys2Proof Sys2Proof.Machine

/-- Refutes O19: at a good sample in HOLD mode the set-point is said to be 0, whatever the configuration; a vmax of -1 µm/s makes it
-1000 nm/s. -/
theorem not_rateAdjusted : ¬ Obligations.RateAdjusted := by
  unfold Obligations.RateAdjusted
  rintro ⟨atSample, -⟩
  obtain ⟨u, y, next, -, computes⟩ := atSample vmaxBelowZero _ _ _ _ _ 0 _ _ 0 vmaxBelowZero_arrivalInTest rfl rfl rfl rfl rfl
  obtain rfl : arrived 0 vmaxBelowZero = u := Host.Outcome.next.inj next
  obtain ⟨running, setPoint⟩ := sampleArrival_vmaxBelowZero
  obtain ⟨t', test, phase⟩ := Option.map_eq_some_iff.1 running
  have computed := (computes t' test phase (fun active => by cases active)).1 vmaxBelowZero_goodSample vmaxBelowZero_unbroken
    (.inl rfl)
  obtain ⟨-, zero⟩ := computed.hold rfl rfl
  exact absurd (setPoint.symm.trans zero) (by decide)

end

section

/-! PROOF. What lasts of a test through an arrival: all that step-up, the capture store, a hold and the count of the arrival leave of
it (R24, R35, R54, R176). -/

namespace Sys2Proof.Machine

variable {s u : State} {a : Arrival} {t t' : TestContext}

/-- The test with its phase, its event list, its count of arrivals and the flags of step-up and capture store left out. -/
def TestContext.lasting (t : TestContext) : TestContext :=
  { t with
    phase := .preload, events := [], dropped := 0, arrivals := 0
    flags := { t.flags with rangeStepped := false, captureGap := false } }

theorem lasting_fields (h : t'.lasting = t.lasting) :
    t'.plan = t.plan ∧ t'.stage = t.stage ∧ t'.rev = t.rev ∧ t'.handoverMark = t.handoverMark ∧
      t'.fractureNumber = t.fractureNumber ∧ t'.flags.extNotPlaced = t.flags.extNotPlaced ∧
      t'.flags.extOnAtFracture = t.flags.extOnAtFracture := by
  have lasts {β : Type} (f : TestContext → β) : f t'.lasting = f t.lasting := congrArg f h
  exact ⟨lasts (·.plan), lasts (·.stage), lasts (·.rev), lasts (·.handoverMark), lasts (·.fractureNumber),
    lasts (·.flags.extNotPlaced), lasts (·.flags.extOnAtFracture)⟩

@[simp] theorem logEvent_lasting (t : TestContext) (e : Event) : (t.logEvent e).lasting = t.lasting := by
  unfold TestContext.logEvent
  split <;> rfl

/-- What lasts of the test of a state. -/
def State.lasting (s : State) : Option TestContext :=
  s.tex.test.map TestContext.lasting

theorem lasting_of_test (h : s.tex.test = some t) : s.lasting = some t.lasting := by
  simp [State.lasting, h]

theorem test_of_lasting (h : u.lasting = some t.lasting) : ∃ t', u.tex.test = some t' ∧ t'.lasting = t.lasting :=
  Option.map_eq_some_iff.1 h

theorem lasting_of_eq (h : u.tex.test = s.tex.test) : u.lasting = s.lasting := by
  simp [State.lasting, h]

theorem updateTest_lasting {f : TestContext → TestContext} (hf : ∀ t : TestContext, (f t).lasting = t.lasting) (s : State) :
    (updateTest f s).lasting = s.lasting := by
  simp only [State.lasting, updateTest_tex_test, Option.map_map]
  exact congrArg (fun g => Option.map g _) (funext hf)

@[simp] theorem addEvent_lasting (k : EventKind) (v : Int) (s : State) : (addEvent k v s).lasting = s.lasting := by
  cases h : s.tex.test with
  | none => simp [addEvent, h]
  | some t => rw [lasting_of_test (addEvent_test k v h), logEvent_lasting, lasting_of_test h]

@[simp] theorem setPhase_lasting (p : TestPhase) (s : State) : (setPhase p s).lasting = s.lasting :=
  updateTest_lasting (f := fun t => { t with phase := p }) (fun _ => rfl) s

theorem setTestFlags_lasting {f : TestFlags → TestFlags}
    (hf : ∀ t : TestContext, ({ t with flags := f t.flags } : TestContext).lasting = t.lasting) (s : State) :
    (setTestFlags f s).lasting = s.lasting :=
  updateTest_lasting hf s

@[simp] theorem updateCapture_lasting (f : CaptureContext → CaptureContext) (s : State) :
    (updateCapture f s).lasting = s.lasting :=
  lasting_of_eq rfl

/-! ### The works that leave what lasts (R24, R35, R54, R176) -/

@[simp] theorem stepUp_lasting (a : Arrival) : (stepUp a).s.lasting = a.s.lasting := by
  unfold stepUp
  split
  · rfl
  split
  next t _ _ =>
    have flagged u : (setTestFlags (fun f => { f with rangeStepped := true }) u).lasting = u.lasting :=
      setTestFlags_lasting (fun _ => rfl) u
    simp only [Arrival.mapState, flagged, addEvent_lasting]
    exact lasting_of_eq (by simp)
  · rfl

@[simp] theorem setLevel_lasting (s : State) : (setLevel s).lasting = s.lasting := by
  unfold setLevel
  split
  · rfl
  · simp only []
    split
    · exact (lasting_of_eq (raise_test ..)).trans (by simp)
    · simp

@[simp] theorem keepSample_lasting (e : CaptureEntry) (s : State) : (keepSample e s).lasting = s.lasting := by
  have written e p u : (writeEntry e p u).lasting = u.lasting := lasting_of_eq (by simp)
  unfold keepSample
  split
  · rfl
  next c _ =>
    have opened : (openPage c e.number s).lasting = s.lasting := (setLevel_lasting _).trans (lasting_of_eq rfl)
    have gap u : (setTestFlags (fun f => { f with captureGap := true }) u).lasting = u.lasting :=
      setTestFlags_lasting (fun _ => rfl) u
    split
    · exact written ..
    split
    · simp only []
      split
      · exact opened
      · exact (written ..).trans opened
    · unfold loseSample
      simp only []
      split <;> simp [gap]

@[simp] theorem captureTakes_lasting (a : Arrival) : (captureTakes a).s.lasting = a.s.lasting := by
  unfold captureTakes
  split
  · rfl
  simp only [Arrival.mapState, captureSample]
  split
  · rfl
  · split <;> simp

@[simp] theorem handoverHold_lasting (p : Plan) (a : Arrival) : (handoverHold p a).s.lasting = a.s.lasting := by
  unfold handoverHold removalHold
  split
  · simp only [Arrival.mapState]
    split
    · unfold holdTest
      split
      · rfl
      · exact (addEvent_lasting ..).trans ((lasting_of_eq rfl).trans (setPhase_lasting _ a.s))
    · rfl
  · rfl

theorem loopToCapture_lasting (active : testIsActive a.s = true) : (loopToCapture a).s.lasting = a.s.lasting := by
  obtain ⟨w, word, -⟩ := wordTakes_test (loopTakes a) (by simpa [testIsActive] using active)
  rw [loopToCapture, captureTakes_lasting]
  exact lasting_of_eq (by simp [word])

end Sys2Proof.Machine
end

section

/-! PROOF. A test's sample as it comes to the test executive: the works of the load channel, the extensometer channel and the result
evaluator done (R24). -/

namespace Sys2Proof.Machine

variable {s u : State} {a : Arrival} {t t' v : TestContext} {code : Int} {range : LoadRange} {l : Latch}

/-! ### The test at its judgement (R108, R129) -/

/-- `t'` is `t` in the same state and stage, under the same sample number, its event list grown by at most `n` entries. -/
structure TestContext.KeepsStage (n : Nat) (t t' : TestContext) : Prop where
  phase : t'.phase = t.phase
  plan : t'.plan = t.plan
  arrivals : t'.arrivals = t.arrivals
  stage : t'.stage = t.stage
  count : t'.events.length ≤ t.events.length + n

theorem TestContext.KeepsStage.trans {m n : Nat} (h : t.KeepsStage m t') (k : t'.KeepsStage n v) : t.KeepsStage (m + n) v where
  phase := k.phase.trans h.phase
  plan := k.plan.trans h.plan
  arrivals := k.arrivals.trans h.arrivals
  stage := k.stage.trans h.stage
  count := by have := h.count; have := k.count; omega

theorem TestContext.GoesOn.keepsStage {n : Nat} (h : t.GoesOn n t') (stage : t'.stage = t.stage) : t.KeepsStage n t' :=
  ⟨h.phase, h.plan, h.arrivals, stage, h.count⟩

theorem TestContext.KeepsStage.logEvent {n : Nat} (h : t.KeepsStage n t') (e : Event) : t.KeepsStage (n + 1) (t'.logEvent e) :=
  h.trans ((logEvent_goesOn t' e).keepsStage (logEvent_kept t' e).2.1)

theorem TestContext.KeepsStage.room {n : Nat} (h : t.KeepsStage n t') (room : HasRoom t) : t'.events.length ≤ 12 + n :=
  h.count.trans (Nat.add_le_add_right room n)

/-! ### The works before the executive's (R35, R52, R60, R147) -/

theorem stepUp_test (test : a.s.tex.test = some t) :
    ∃ t', (stepUp a).s.tex.test = some t' ∧ t'.lasting = t.lasting ∧ t.GoesOn 1 t' := by
  obtain ⟨t', test', grown⟩ := stepUp_inTest (inTest_of_test test)
  have lasts := (lasting_of_test test').symm.trans ((stepUp_lasting a).trans (lasting_of_test test))
  exact ⟨t', test', Option.some.inj lasts, by simpa using grown⟩

theorem stepUp_peak (test : a.s.tex.test = some t) : (stepUp a).s.ldc.peak = a.s.ldc.peak := by
  by_cases steps : Steps a t
  · rw [(stepUp_steps test steps).1]
  · rw [stepUp_stays test steps]

theorem handoverEntry_test (n : Nat) (x : Int) (test : s.tex.test = some t) :
    (handoverEntry n x s).tex.test = some { t.logEvent ⟨.handover, n, x⟩ with handoverMark := true } := by
  rw [handoverEntry, addEventAt_eq (t := t) (s := updateBasis _ s) _ _ _ test, markHandover, updateTest_eq _ rfl]

/-- A handover marks the test and makes its entry; at a slip it sets EXT_SLIP (R52, R53, R60). -/
theorem formHandover_test (test : a.s.tex.test = some t) :
    ∃ t', (formHandover a).s.tex.test = some t' ∧ t.KeepsStage 1 t' := by
  have entered {x : TestContext} (same : t.KeepsStage 0 x) (e : Event) :
      t.KeepsStage 1 { x.logEvent e with handoverMark := true } :=
    let logged := same.logEvent e
    ⟨logged.phase, logged.plan, logged.arrivals, logged.stage, logged.count⟩
  unfold formHandover
  split
  next m _ _ _ =>
    exact ⟨_, handoverEntry_test (t := slipped t) _ _ (by simp [test, slipped]),
      entered (x := slipped t) ⟨rfl, rfl, rfl, rfl, Nat.le_refl _⟩ _⟩
  · split
    · exact ⟨_, handoverEntry_test (t := t) _ _ (by simpa using test), entered ⟨rfl, rfl, rfl, rfl, Nat.le_refl _⟩ _⟩
    · exact ⟨t, test, rfl, rfl, rfl, rfl, Nat.le_succ _⟩
  · exact ⟨t, test, rfl, rfl, rfl, rfl, Nat.le_succ _⟩

@[simp] theorem addSampleEvents_lasting (es : List SampleEvent) (s : State) : (addSampleEvents es s).lasting = s.lasting := by
  induction es generalizing s with
  | nil => rfl
  | cons e es ih => exact (ih _).trans (addEvent_lasting ..)

/-- The results in progress of the test `t` as the evaluator leaves them at a sample (R147 to R149, R152, R158). -/
def evaluationAt (a : Arrival) (t : TestContext) : Evaluation :=
  let v := rememberSample a.fracture a.set t.rev
  let r := if evaluated a then evaluateSample t.plan (samplePoint a.set) v else (v, [])
  if a.handover then evaluationLeaves r.1 else r.1

/-- A sample that is not evaluated and hands nothing over is remembered only (R147 to R149). -/
theorem evaluationAt_unevaluated (still : evaluated a = false) (none : a.handover = false) :
    evaluationAt a t = rememberSample a.fracture a.set t.rev := by
  simp [evaluationAt, still, none]

theorem evaluateArrival_test (test : a.s.tex.test = some t) :
    ∃ t', (evaluateArrival a).s.tex.test = some t' ∧ t'.lasting = { t with rev := evaluationAt a t }.lasting ∧
      t.GoesOn 2 t' := by
  obtain ⟨t', test', grown⟩ := evaluateArrival_inTest (inTest_of_test test)
  have lasts : (evaluateArrival a).s.lasting = some { t with rev := evaluationAt a t }.lasting := by
    simp only [evaluateArrival, test, Arrival.mapState, addSampleEvents_lasting]
    exact lasting_of_test (updateTest_test _ test)
  exact ⟨t', test', Option.some.inj ((lasting_of_test test').symm.trans lasts), by simpa using grown⟩

/-! ### The sample at the executive (R24, R36, R124) -/

theorem formStrain_fracture (a : Arrival) : (formStrain a).fracture = fractures a.s a.set := by
  unfold formStrain
  split
  · rfl
  · simp only []
    split <;> rfl

/-- The fracture criterion looks at the state and the plan of the test, and at the peak (R124). -/
theorem fractures_of_goesOn {n : Nat} (test : s.tex.test = some t) (test' : u.tex.test = some t') (grown : t.GoesOn n t')
    (peak : u.ldc.peak = s.ldc.peak) (x : SampleSet) : fractures u x = fractures s x := by
  have same : peakForce u x = peakForce s x := by simp [peakForce, raisesPeak, State.testIdle, test, test', peak]
  cases peak : peakForce s x <;> simp [fractures, test, test', same, peak, grown.phase, grown.plan]

/-- Forming the strain leaves the load channel's fields of the sample set (R45). -/
@[simp] theorem formStrain_load (a : Arrival) :
    (formStrain a).set.invalid = a.set.invalid ∧ (formStrain a).set.force = a.set.force ∧
      (formStrain a).set.number = a.set.number := by
  unfold formStrain
  split
  · exact ⟨rfl, rfl, rfl⟩
  · simp only []
    split <;> exact ⟨rfl, rfl, rfl⟩

/-- What the works before the executive's leave of the state and of the arrival as it began. -/
theorem arrivalForExecutive_frame (code : Int) (range : LoadRange) (l : Latch) (s : State) :
    (arrivalForExecutive code range l s).s.rlp = s.rlp ∧ (arrivalForExecutive code range l s).s.xhc = s.xhc ∧
      (arrivalForExecutive code range l s).s.mar = s.mar ∧ (arrivalForExecutive code range l s).s.spt = s.spt ∧
      (arrivalForExecutive code range l s).s.rsl = s.rsl ∧ (arrivalForExecutive code range l s).s.inputs = s.inputs := by
  simp [arrivalForExecutive]

theorem arrivalForExecutive_fields (code : Int) (range : LoadRange) (l : Latch) (s : State) :
    (arrivalForExecutive code range l s).latch = l ∧ (arrivalForExecutive code range l s).closing = none ∧
      (arrivalForExecutive code range l s).entered = false ∧
      (arrivalForExecutive code range l s).overloaded = sampleOverloaded s.xhc.config.fcap (loadSample code range l s) ∧
      (arrivalForExecutive code range l s).set.invalid = (loadSample code range l s).invalid ∧
      (arrivalForExecutive code range l s).set.force = (loadSample code range l s).force := by
  simp [arrivalForExecutive, beginArrival, overloadCheck_overloaded, loadTaken]

theorem arrivalForExecutive_fracture (test : s.tex.test = some t) :
    (arrivalForExecutive code range l s).fracture = fractures s (loadSample code range l s) := by
  have begun : (overloadCheck (beginArrival code range l s)).s.tex.test = some t := by simpa using test
  obtain ⟨t₀, test₀, -, grown⟩ := stepUp_test begun
  have peak := (stepUp_peak begun).trans (begunArrival_ldc code range l s).2.2
  have formed := formStrain_fracture (stepUp (overloadCheck (beginArrival code range l s)))
  simpa [arrivalForExecutive, fractures_of_goesOn test test₀ grown peak] using formed

/-- The test as its sample comes to the executive. -/
theorem arrivalForExecutive_test (code : Int) (range : LoadRange) (l : Latch) (test : s.tex.test = some t) :
    ∃ t', (arrivalForExecutive code range l s).s.tex.test = some t' ∧ t.KeepsStage 4 t' := by
  obtain ⟨t₁, test₁, lasts₁, grown₁⟩ := stepUp_test (a := overloadCheck (beginArrival code range l s)) (t := t)
    (by simpa using test)
  obtain ⟨t₂, test₂, kept₂⟩ := formHandover_test
    (a := updatePeak (formStrain (stepUp (overloadCheck (beginArrival code range l s))))) (by simpa using test₁)
  obtain ⟨t₃, test₃, lasts₃, grown₃⟩ := evaluateArrival_test test₂
  obtain ⟨-, stage₁, -⟩ := lasting_fields lasts₁
  obtain ⟨-, stage₃, -⟩ := lasting_fields lasts₃
  exact ⟨t₃, test₃, ((grown₁.keepsStage stage₁).trans kept₂).trans (grown₃.keepsStage stage₃)⟩

/-- A sample that is valid, not overloaded and does not fracture (R31, R32, R36, R124). -/
structure SoundSample (s : State) (x : SampleSet) : Prop where
  valid : x.invalid = false
  light : sampleOverloaded s.xhc.config.fcap x = false
  whole : fractures s x = false

theorem GoodSample.measured (good : GoodSample s range code) : (loadSample code range l s).invalid = false ∧
    sampleOverloaded s.xhc.config.fcap (loadSample code range l s) = false := by
  obtain ⟨settled, span, load⟩ := good
  rw [← Bool.not_eq_true, loadSample_invalid, ← Bool.not_eq_true, sampleOverloaded_iff]
  omega

theorem GoodSample.sound (good : GoodSample s range code) (test : s.tex.test = some t)
    (whole : Unbroken s t.plan (netForce s range code)) : SoundSample s (loadSample code range l s) :=
  let ⟨valid, light⟩ := good.measured
  ⟨valid, light, fractures_eq_false test valid rfl whole⟩

/-- A sound sample of a RUNNING or HELD test, the gate closed, comes calm to the executive. -/
theorem SoundSample.calm (h : SoundSample s (loadSample code range l s)) (test : s.tex.test = some t)
    (phase : t.phase = .running ∨ ∃ c r, t.phase = .held c r) (active : testIsActive s = true)
    (gate : s.inputs.gateOpen = false) :
    ∃ t', CalmArrival (arrivalForExecutive code range l s) t' ∧ t.KeepsStage 4 t' := by
  obtain ⟨t', test', kept⟩ := arrivalForExecutive_test code range l test
  obtain ⟨-, -, mar, -, -, inputs⟩ := arrivalForExecutive_frame code range l s
  obtain ⟨-, -, -, load, valid, -⟩ := arrivalForExecutive_fields code range l s
  refine ⟨t', ⟨test', kept.phase ▸ phase, ?_, by rw [inputs, gate], valid.trans h.valid,
    (arrivalForExecutive_fracture test).trans h.whole, load.trans h.light⟩, kept⟩
  simpa [testIsActive, mar] using active

end Sys2Proof.Machine
end

section

/-! PROOF. The judgement of the current stage at a sample (R115 to R118), and what the rest of the arrival leaves of it. -/

namespace Sys2Proof.Machine

variable {s u : State} {a b : Arrival} {t t' t₁ : TestContext} {x : StageRun} {d e : StageDef} {j : Nat}

/-! ### End condition, timeout and successor (R104, R116 to R118) -/

/-- The end condition of the stage comes about at the sample: it is met, and not logged yet (R116, R117). -/
def EndsStage (t : TestContext) (x : StageRun) (d : StageDef) (y : SampleSet) : Prop :=
  x.endLogged = false ∧ EndReached x d y t.rev.tracker.state t.handoverMark

/-- The stage's timeout comes about at the sample (R118; log entry 13). -/
def TimesOut (t : TestContext) (x : StageRun) (d : StageDef) (y : SampleSet) : Prop :=
  ¬ EndsStage t x d y ∧ d.timeoutMs ≠ 0 ∧ x.timeoutLogged = false ∧ d.timeoutMs * 1000 ≤ x.elapsed

theorem endMet_iff (t : TestContext) (x : StageRun) (d : StageDef) (y : SampleSet) :
    endMet t x d y = true ↔ EndReached x d y t.rev.tracker.state t.handoverMark := by
  cases kind : d.endKind <;> simp [endMet, EndReached, kind]

theorem successorStage_eq (p : Plan) (x : StageRun) (d : StageDef) :
    successorStage p x d =
      (stageAt p (successorIndex x.index d.successor)).map fun e => (successorIndex x.index d.successor, e) := by
  unfold successorStage stageAt
  simp only [apply_ite (Option.map _), Option.map_none]
  rfl

theorem stageAt_successor (h : successorStage t.plan x d = some (j, e)) :
    successorIndex x.index d.successor = j ∧ stageAt t.plan j = some e := by
  rw [successorStage_eq] at h
  obtain ⟨e', there, same⟩ := Option.map_eq_some_iff.1 h
  obtain ⟨rfl, rfl⟩ := Prod.mk.inj same
  exact ⟨rfl, there⟩

theorem stageAt_beyond (h : successorStage t.plan x d = none) :
    stageAt t.plan (successorIndex x.index d.successor) = none := by
  rwa [successorStage_eq, Option.map_eq_none_iff] at h

section
variable (stage : t.stage = some x) (defined : stageAt t.plan x.index = some d)
include stage defined

theorem judgeStage_ends (ends : EndsStage t x d a.set) : judgeStage t a = takeEnd t.plan x d a := by
  obtain ⟨unlogged, met⟩ := ends
  simp [judgeStage, stage, defined, unlogged, (endMet_iff ..).2 met]

theorem judgeStage_timesOut (h : TimesOut t x d a.set) : judgeStage t a = takeTimeout t.plan x d a := by
  obtain ⟨runs, bounded, unlogged, reached⟩ := h
  have unmet : ¬ (!x.endLogged && endMet t x d a.set) = true := by simpa [EndsStage, endMet_iff] using runs
  have holds : timeoutHolds x d = true := by simp [timeoutHolds, bounded, unlogged, reached]
  simp only [judgeStage, stage, defined, unmet, holds]
  rfl

theorem judgeStage_runs (runs : ¬ EndsStage t x d a.set) (waits : ¬ TimesOut t x d a.set) : judgeStage t a = a := by
  have unmet : ¬ (!x.endLogged && endMet t x d a.set) = true := by simpa [EndsStage, endMet_iff] using runs
  have unheld : ¬ timeoutHolds x d = true := by simpa [TimesOut, runs, timeoutHolds, and_assoc] using waits
  simp only [judgeStage, stage, defined, unmet, unheld]
  rfl

end

/-! ### The judgement's outcomes (R115, R117, R118) -/

theorem enterStage_left (j : Nat) (e : StageDef) (test : a.s.tex.test = some t) :
    (enterStage j e a).s.tex.test =
        some (({ t with stage := some (enteredStage j e) } : TestContext).logEvent ⟨.stage, sampleNumber t.arrivals, j⟩) ∧
      (enterStage j e a).s.rlp.mode = loopModeOf e.mode ∧ (enterStage j e a).s.rlp.rate = some e.rate :=
  ⟨addEvent_test _ _ (updateTest_test _ test), rfl, rfl⟩

theorem markStage_test (f : StageRun → StageRun) (test : s.tex.test = some t) :
    (markStage f s).tex.test = some { t with stage := t.stage.map f } :=
  updateTest_test _ test

/-- The judgement changes the stage of the test, and its event list (R115 to R118). -/
theorem judgeStage_lasting (x : TestContext) (test : a.s.tex.test = some t) :
    ∃ y, (judgeStage x a).s.lasting = some { t with stage := y }.lasting := by
  have stays : ∃ y, a.s.lasting = some { t with stage := y }.lasting := ⟨t.stage, lasting_of_test test⟩
  have enters {v : Arrival} (hv : v.s.lasting = a.s.lasting) (j : Nat) (e : StageDef) :
      ∃ y, (enterStage j e v).s.lasting = some { t with stage := y }.lasting := by
    obtain ⟨t', test', lasts⟩ := test_of_lasting (hv.trans (lasting_of_test test))
    refine ⟨some (enteredStage j e), ?_⟩
    rw [lasting_of_test (enterStage_left j e test').1, logEvent_lasting]
    exact congrArg (fun z : TestContext => some { z with stage := some (enteredStage j e) }) lasts
  have marks {v : State} (hv : v.lasting = a.s.lasting) (f : StageRun → StageRun) :
      ∃ y, (markStage f v).lasting = some { t with stage := y }.lasting := by
    obtain ⟨t', test', lasts⟩ := test_of_lasting (hv.trans (lasting_of_test test))
    refine ⟨t'.stage.map f, ?_⟩
    rw [lasting_of_test (markStage_test _ test')]
    exact congrArg (fun z : TestContext => some { z with stage := t'.stage.map f }) lasts
  unfold judgeStage
  split
  · exact stays
  split
  · exact stays
  split
  · unfold takeEnd
    split
    · exact enters rfl _ _
    · simpa using marks rfl _
  split
  · unfold takeTimeout
    simp only []
    split
    · exact stays
    · split
      · exact enters (by simp) _ _
      · exact marks (by simp) _
  · exact stays

section
variable (stage : t.stage = some x) (defined : stageAt t.plan x.index = some d) (test : a.s.tex.test = some t)
include stage defined

/-- A timeout with action ABORT closes the test (R118). -/
theorem judgeStage_aborts (out : TimesOut t x d a.set) (action : d.timeoutAction = .abort) :
    judgeStage t a = { a with timedOut := true, closing := some (.aborted .stageTimeout) } := by
  simp [judgeStage_timesOut stage defined out, takeTimeout, action]

/-- A timeout with action SUCCESSOR makes its entry first (R118). -/
theorem judgeStage_logsTimeout (test : a.s.tex.test = some t) (out : TimesOut t x d a.set)
    (action : d.timeoutAction = .successor) (room : t.events.length < 24) {t' : TestContext}
    (test' : (judgeStage t a).s.tex.test = some t') : ⟨.stageTimeout, sampleNumber t.arrivals, x.index⟩ ∈ t'.events := by
  have logged : (addEvent .stageTimeout x.index a.s).tex.test = _ := addEvent_test _ _ test
  have grown : TestGrows (addEvent .stageTimeout x.index a.s) (judgeStage t a).s := by
    rw [judgeStage_timesOut stage defined out]
    simp only [takeTimeout, action]
    split
    · exact enterStage_grows _ _ .rfl
    · exact markStage_grows _ .rfl
  exact (grown.grown logged test').events.subset (mem_logEvent room)

variable (test : a.s.tex.test = some t)
include test

/-- A met end condition, or a timeout with action SUCCESSOR, enters the successor (R115, R117, R118). -/
theorem judgeStage_enters (h : EndsStage t x d a.set ∨ (TimesOut t x d a.set ∧ d.timeoutAction = .successor))
    (there : successorStage t.plan x d = some (j, e)) :
    ∃ t', (judgeStage t a).s.tex.test = some t' ∧ t'.stage = some (enteredStage j e) ∧
      (judgeStage t a).s.rlp.mode = loopModeOf e.mode ∧ (judgeStage t a).s.rlp.rate = some e.rate ∧
      (t.events.length < 23 → ⟨.stage, sampleNumber t.arrivals, j⟩ ∈ t'.events) := by
  obtain ⟨rfl, next⟩ := stageAt_successor there
  obtain ends | ⟨out, action⟩ := h
  · obtain ⟨test', mode, rate⟩ := enterStage_left (successorIndex x.index d.successor) e test
    have judged : judgeStage t a = enterStage (successorIndex x.index d.successor) e a := by
      simp [judgeStage_ends stage defined ends, takeEnd, next]
    rw [← judged] at test' mode rate
    exact ⟨_, test', (logEvent_kept ..).2.1, mode, rate, fun room => mem_logEvent (Nat.lt_succ_of_lt room)⟩
  · have judged : judgeStage t a = enterStage (successorIndex x.index d.successor) e
        (({ a with timedOut := true } : Arrival).mapState (addEvent .stageTimeout x.index)) := by
      simp [judgeStage_timesOut stage defined out, takeTimeout, action, next]
    have logged := logEvent_goesOn t ⟨.stageTimeout, sampleNumber t.arrivals, x.index⟩
    obtain ⟨test', mode, rate⟩ := enterStage_left (successorIndex x.index d.successor) e
      (a := ({ a with timedOut := true } : Arrival).mapState (addEvent .stageTimeout x.index)) (addEvent_test _ _ test)
    rw [← judged, logged.arrivals] at test'
    rw [← judged] at mode rate
    exact ⟨_, test', (logEvent_kept ..).2.1, mode, rate,
      fun room => mem_logEvent (Nat.lt_of_le_of_lt logged.count (Nat.succ_lt_succ room))⟩

/-- A met end condition whose successor lies beyond the last stage is logged (R117). -/
theorem judgeStage_logsEnd (ends : EndsStage t x d a.set) (beyond : successorStage t.plan x d = none) :
    ∃ t', (judgeStage t a).s.tex.test = some t' ∧ t'.stage = some { x with endLogged := true } ∧
      (t.events.length < 24 → ⟨.stageEnd, sampleNumber t.arrivals, x.index⟩ ∈ t'.events) := by
  have judged : (judgeStage t a).s =
      addEvent .stageEnd x.index (markStage (fun r => { r with endLogged := true }) a.s) := by
    simp [judgeStage_ends stage defined ends, takeEnd, stageAt_beyond beyond]
  have test' := addEvent_test .stageEnd x.index (markStage_test (fun r => { r with endLogged := true }) test)
  rw [← judged] at test'
  exact ⟨_, test', by simp [(logEvent_kept ..).2.1, stage], fun room => mem_logEvent room⟩

/-- A timeout whose successor lies beyond the last stage is marked (R118). -/
theorem judgeStage_marksTimeout (out : TimesOut t x d a.set) (action : d.timeoutAction = .successor)
    (beyond : successorStage t.plan x d = none) :
    ∃ t', (judgeStage t a).s.tex.test = some t' ∧ t'.stage = some { x with timeoutLogged := true } := by
  have judged : (judgeStage t a).s =
      markStage (fun r => { r with timeoutLogged := true }) (addEvent .stageTimeout x.index a.s) := by
    simp [judgeStage_timesOut stage defined out, takeTimeout, action, stageAt_beyond beyond]
  exact ⟨_, judged ▸ markStage_test _ (addEvent_test _ _ test), by simp [(logEvent_kept ..).2.1, stage]⟩

end

/-! ### The rest of the arrival (R54, R128, R134, R176) -/

theorem loopTakes_loop (a : Arrival) : (loopTakes a).s.rlp.mode = a.s.rlp.mode ∧ (loopTakes a).s.rlp.rate = a.s.rlp.rate := by
  unfold loopTakes
  split
  · exact ⟨rfl, rfl⟩
  · split <;> exact ⟨rfl, rfl⟩

theorem handoverHold_loop (p : Plan) (a : Arrival) :
    (handoverHold p a).s.rlp.mode = a.s.rlp.mode ∧ (handoverHold p a).s.rlp.rate = a.s.rlp.rate := by
  unfold handoverHold removalHold holdTest
  split
  · simp only [Arrival.mapState]
    split
    · split
      · exact ⟨rfl, rfl⟩
      · simp [setSetPoint, setPhase]
    · exact ⟨rfl, rfl⟩
  · exact ⟨rfl, rfl⟩

/-- A test left after a judgement is the judged one but for entries, and the loop keeps the mode and rate it got there. -/
theorem judged_left {p : Plan} (active : testIsActive b.s = true) (test : b.s.tex.test = some t₁)
    (left : (closeOrCount (loopToCapture (handoverHold p b))).s.tex.test = some t') :
    b.closing = none ∧ t'.lasting = t₁.lasting ∧ t₁.events ⊆ t'.events ∧
      (closeOrCount (loopToCapture (handoverHold p b))).s.rlp.mode = b.s.rlp.mode ∧
      (closeOrCount (loopToCapture (handoverHold p b))).s.rlp.rate = b.s.rlp.rate := by
  have held : testIsActive (handoverHold p b).s = true := by simpa [testIsActive] using active
  obtain ⟨-, -, rlp, going⟩ := loopToCapture_kept held
  obtain ⟨closing, -, rlpLeft, t₂, test₂, rfl⟩ := closeOrCount_goesOn left
  obtain ⟨holdMode, holdRate⟩ := handoverHold_loop p b
  obtain ⟨mode, rate⟩ := loopTakes_loop (handoverHold p b)
  obtain ⟨w, word, -⟩ := wordTakes_test (loopTakes (handoverHold p b)) (by simpa [testIsActive] using held)
  have worded : TestGrows b.s (wordTakes (loopTakes (handoverHold p b))).s :=
    word ▸ (loopTakes_grows (handoverHold_grows p .rfl)).of_eq rfl rfl
  have grown : TestGrows b.s (loopToCapture (handoverHold p b)).s := captureTakes_grows (publish_grows worded)
  have lasts := (loopToCapture_lasting held).trans (handoverHold_lasting p b)
  rw [lasting_of_test test₂, lasting_of_test test] at lasts
  rw [rlpLeft, rlp]
  exact ⟨by simpa using going closing, Option.some.inj lasts, (grown.grown test test₂).events.subset,
    mode.trans holdMode, rate.trans holdRate⟩

/-- What is left of the test `t` whose stage is judged at the sample of `a`: tracker and mark as the judgement found them, the stage
and the loop's mode and rate as it left them in `t₁`. -/
theorem judgeStage_left {p : Plan} (active : testIsActive a.s = true) (test : a.s.tex.test = some t)
    (left : (closeOrCount (loopToCapture (handoverHold p (judgeStage t a)))).s.tex.test = some t') :
    ∃ t₁, (judgeStage t a).s.tex.test = some t₁ ∧ (judgeStage t a).closing = none ∧ t'.rev = t.rev ∧
      t'.handoverMark = t.handoverMark ∧ t'.stage = t₁.stage ∧ t₁.events ⊆ t'.events ∧
      (closeOrCount (loopToCapture (handoverHold p (judgeStage t a)))).s.rlp.mode = (judgeStage t a).s.rlp.mode ∧
      (closeOrCount (loopToCapture (handoverHold p (judgeStage t a)))).s.rlp.rate = (judgeStage t a).s.rlp.rate := by
  obtain ⟨_, judged⟩ := judgeStage_lasting t test
  obtain ⟨t₁, test₁, lasts⟩ := test_of_lasting judged
  obtain ⟨going, lasts', events, mode, rate⟩ := judged_left (by simpa [testIsActive] using active) test₁ left
  obtain ⟨-, -, rev, mark, -⟩ := lasting_fields lasts
  obtain ⟨-, stage', rev', mark', -⟩ := lasting_fields lasts'
  exact ⟨t₁, test₁, going, rev'.trans rev, mark'.trans mark, stage', events, mode, rate⟩

/-! ### A test's arrival from the executive on (R24) -/

section
variable {m : MountedSpecimen} {c : StrainBasis} {range : LoadRange} {l : Latch} {code : Int}

theorem ArrivalInTest.exec_executive (code : Int) (h : ArrivalInTest s t m c range l) :
    Machine.exec (.sampleArrival code) s =
        .next (closeOrCount (loopToCapture (executiveTakes (arrivalForExecutive code range l s)))).s ∧
      (closeOrCount (loopToCapture (executiveTakes (arrivalForExecutive code range l s)))).s.ldc.latest =
        some (arrivalForExecutive code range l s).set := by
  obtain ⟨active, -⟩ := h.stepped_kept code
  obtain ⟨-, -, latest, -⟩ := takenArrival_kept active
  obtain ⟨latestLeft, -⟩ := closeOrCount_kept (takenArrival_grows active)
  have same : (arrivalForExecutive code range l s).set =
      (formStrain (stepUp (overloadCheck (beginArrival code range l s)))).set := by simp [arrivalForExecutive]
  exact ⟨h.exec code, latestLeft.trans (latest.trans (congrArg some same.symm))⟩

/-- At a good sample in RUNNING, the gate closed, the stage is judged, and a handover may hold the test (R54, R116). -/
theorem ArrivalInTest.judges (h : ArrivalInTest s t m c range l) (running : t.phase = .running)
    (gate : s.inputs.gateOpen = false) (good : GoodSample s range code)
    (whole : Unbroken s t.plan (netForce s range code)) :
    ∃ t₁, CalmArrival (arrivalForExecutive code range l s) t₁ ∧ t.KeepsStage 4 t₁ ∧
      executiveTakes (arrivalForExecutive code range l s) =
        handoverHold t₁.plan (judgeStage t₁ (arrivalForExecutive code range l s)) := by
  obtain ⟨t₁, calm, kept⟩ := (good.sound (l := l) h.test whole).calm h.test (.inl running) h.testIsActive gate
  exact ⟨t₁, calm, kept, by simp [calm.executiveTakes, judgePhase, kept.phase, running, calm.valid]⟩

end

end Sys2Proof.Machine
end

section

/-! PROOF. An arrival that closes its test (R118, R125, R128). -/

namespace Sys2Proof.Machine

variable {s u : State} {a : Arrival} {t : TestContext} {m : MountedSpecimen} {range : LoadRange} {l : Latch} {code : Int}

theorem wordTakes_closing {c : Closure} (closing : a.closing = some c) : wordTakes a = a.mapState (sendWordValue 0) := by
  simp [wordTakes, closing]

theorem closeOrCount_closes {c : Closure} (closing : a.closing = some c) : closeOrCount a = a.mapState (closeTest c) := by
  simp [closeOrCount, closing]

/-- The arrival that closes the test, taken to its end. -/
theorem loopToCapture_closing {c : Closure} (closing : a.closing = some c) :
    (loopToCapture a).closing = some c ∧ (loopToCapture a).timedOut = a.timedOut ∧
      (loopToCapture a).tailEnded = a.tailEnded ∧ (loopToCapture a).s.spt = a.s.spt ∧ (loopToCapture a).s.rsl = a.s.rsl ∧
      (loopToCapture a).s.mar = a.s.mar ∧
      (loopToCapture a).s.tex.test.map TestContext.identity = a.s.tex.test.map TestContext.identity := by
  have worded := wordTakes_closing (a := loopTakes a) (by simpa using closing)
  refine ⟨?_, ?_, ?_, ?_, ?_, ?_, (captureTakes_sameTest _).test.trans (by simp [worded])⟩ <;>
    simp [loopToCapture, worded, closing]

theorem executiveTakes_identity (code : Int) (range : LoadRange) (l : Latch) (s : State) :
    (executiveTakes (arrivalForExecutive code range l s)).s.tex.test.map TestContext.identity =
      s.tex.test.map TestContext.identity := by
  have stepped := (overloadCheck_sameTest (beginArrival code range l s)).trans (stepUp_sameTest _)
  have formed := ((stepped.trans (formStrain_sameTest _)).trans (updatePeak_sameTest _)).trans (formHandover_sameTest _)
  exact ((formed.trans (evaluateArrival_sameTest _)).trans (executiveTakes_sameTest _)).test.trans (by simp)

theorem arrive_of_latched (h : s.ldc.conversion = some { range := range, latch := some l }) :
    arrive code s = some ((workArrival code range l s).mapState (activateAfterArrival s)) := by
  simp [arrive, arriving, h]

/-- An arrival that closes its test, nothing queued behind it: STAGE TIMEOUT and END OF TAIL are this arrival when it is theirs (R118,
R125, R128). -/
theorem closingArrival_exec {c : Closure} {tag : Tag} (test : s.tex.test = some t) (slot : s.spt.slot = some m)
    (active : s.mar.active = some { port := .sequencer, tag := tag, job := .test }) (queue : s.mar.queue = [])
    (conversion : s.ldc.conversion = some { range := range, latch := some l })
    (closing : (executiveTakes (arrivalForExecutive code range l s)).closing = some c) (holds : leavesDisabled c = false) :
    ∃ u rec, exec (.sampleArrival code) s = .next u ∧
      ((executiveTakes (arrivalForExecutive code range l s)).timedOut = true → exec (.stageTimeout code) s = .next u) ∧
      ((executiveTakes (arrivalForExecutive code range l s)).tailEnded = true → exec (.endOfTail code) s = .next u) ∧
      u.tex.test = none ∧ u.rsl.results = s.rsl.results ++ [rec] ∧ rec.serial = t.serial ∧ rec.closure = c ∧
      Judged s.rsl.limits[m.specimen.grade] rec ∧ u.spt.slot = some { m with state := .tested } ∧ u.mar.active = none ∧
      u.xhc.word = 0 := by
  have isTest : testIsActive s = true := by simp [testIsActive, active]
  obtain ⟨closes, timedOut, tailEnded, spt, rsl, mar, identity⟩ := loopToCapture_closing closing
  have work : workArrival code range l s = (loopToCapture (executiveTakes (arrivalForExecutive code range l s))).mapState
      (closeTest c) := by
    rw [workArrival_test code range l s isTest]
    exact closeOrCount_closes closes
  obtain ⟨-, -, marBefore, sptBefore, rslBefore, -⟩ := arrivalForExecutive_frame code range l s
  rw [executiveTakes_identity, test] at identity
  simp only [executiveTakes_frame, sptBefore, rslBefore, marBefore] at spt rsl mar
  have arrives := arrive_of_latched (code := code) conversion
  rw [work] at arrives
  generalize loopToCapture (executiveTakes (arrivalForExecutive code range l s)) = a at *
  obtain ⟨t', test', same⟩ := Option.map_eq_some_iff.1 identity
  have still : activateAfterArrival s (closeTest c a.s) = closeTest c a.s :=
    activateAfterArrival_idle _ _ (.inr (by rw [closeTest_queue, mar, queue]))
  obtain ⟨closed, motion, -, -, -, -, tested⟩ := closeTest_fields c test'
  obtain ⟨rec, appended, serial, -, ends, judged⟩ := closeTest_rsl c test' (m := m) (by rw [spt, slot])
  have drive := closeTest_drive c (s := a.s) (by simp [test'])
  refine ⟨closeTest c a.s, rec, ?_, fun out => ?_, fun out => ?_, closed, by rw [appended, rsl],
    serial.trans (congrArg Prod.fst same), ends, rsl ▸ judged, by simp [tested, spt, slot], motion, ?_⟩
  · simp [exec, execSampleArrival, arrived, arrives, still]
  · simp [exec, execStageTimeout, arrives, timedOut, out, still]
  · simp [exec, execEndOfTail, arrives, tailEnded, out, still]
  · simp only [drive, holds, Bool.false_eq_true, if_false, heldDrive]
    split <;> rfl

/-- A closed test is not held for a handover at the sample (R54; log entry 31). -/
theorem handoverHold_closing {c : Closure} (p : Plan) (closing : a.closing = some c) : handoverHold p a = a := by
  simp [handoverHold, closing]

/-- The arrival that brings the tail count to the plan's tail samples closes the test COMPLETE (R125). -/
theorem executiveTakes_endsTail {n : Int} (test : s.tex.test = some t) (tail : t.phase = .tail n)
    (last : t.plan.tailSamples ≤ n + 1)
    (light : sampleOverloaded s.xhc.config.fcap (loadSample code range l s) = false) :
    (executiveTakes (arrivalForExecutive code range l s)).closing = some .complete ∧
      (executiveTakes (arrivalForExecutive code range l s)).tailEnded = true := by
  obtain ⟨t', test', kept⟩ := arrivalForExecutive_test code range l test
  obtain ⟨-, -, -, load, -⟩ := arrivalForExecutive_fields code range l s
  have whole : (arrivalForExecutive code range l s).fracture = false := by
    rw [arrivalForExecutive_fracture test]
    cases peak : peakForce s (loadSample code range l s) <;> simp [fractures, test, tail, fracturePhase, peak]
  rw [light] at load
  have tail' := kept.phase.trans tail
  have last' : t'.plan.tailSamples ≤ n + 1 := by rw [kept.plan]; exact last
  generalize arrivalForExecutive code range l s = a at *
  have judged : judgePhase t' a =
      { a.mapState (setPhase (.tail (n + 1))) with tailEnded := true, closing := some .complete } := by
    simp [judgePhase, tail', countTail, last']
  have taken : executiveTakes a = handoverHold t'.plan (judgePhase t' a) := by
    simp [executiveTakes, test', detectFracture_whole whole, load, whole, tail', holdableAs]
  rw [taken, judged]
  rw [handoverHold_closing (c := .complete) _ (by rfl)]
  exact ⟨rfl, rfl⟩

/-- The arrival at which a timeout with action ABORT comes about closes the test (R118). -/
theorem executiveTakes_aborts {x : StageRun} {d : StageDef} (test : s.tex.test = some t) (running : t.phase = .running)
    (stage : t.stage = some x) (defined : stageAt t.plan x.index = some d) (active : testIsActive s = true)
    (gate : s.inputs.gateOpen = false) (sound : SoundSample s (loadSample code range l s))
    (out : ∀ t', (arrivalForExecutive code range l s).s.tex.test = some t' →
      TimesOut t' x d (arrivalForExecutive code range l s).set)
    (action : d.timeoutAction = .abort) :
    (executiveTakes (arrivalForExecutive code range l s)).closing = some (.aborted .stageTimeout) ∧
      (executiveTakes (arrivalForExecutive code range l s)).timedOut = true := by
  obtain ⟨t₁, calm, kept⟩ := sound.calm test (.inl running) active gate
  have judged := judgeStage_aborts (kept.stage.trans stage) (by rw [kept.plan, defined]) (out t₁ calm.test) action
  have taken : judgePhase t₁ (arrivalForExecutive code range l s) =
      judgeStage t₁ (arrivalForExecutive code range l s) := by
    simp [judgePhase, kept.phase, running, calm.valid]
  rw [calm.executiveTakes, taken, judged, handoverHold_closing (c := .aborted .stageTimeout) _ (by rfl)]
  exact ⟨rfl, rfl⟩

end Sys2Proof.Machine
end

section

/-! PROOF. A sample that hands nothing over: it fractures, or comes in no state in which slip and removal are examined (R51, R60,
R124). -/

namespace Sys2Proof.Machine

variable {s u : State} {a : Arrival} {t t₁ : TestContext} {m : MountedSpecimen} {b : StrainBasis} {range : LoadRange} {l : Latch}
  {code : Int}

/-! ### No handover at the sample (R51, R60) -/

/-- Neither slip nor removal is examined at the sample (R51, R60). -/
def Unexamined (s : State) (x : SampleSet) : Prop :=
  fractures s x = true ∨ runningOrHeld s = false

theorem formStrain_slip (still : a.slip = none) (quiet : Unexamined a.s a.set) : (formStrain a).slip = none := by
  have unslipped x : slipAt a.s (fractures a.s a.set) a.set x = none := by
    unfold slipAt
    split
    · obtain fracture | off := quiet <;> simp [*]
    · rfl
  unfold formStrain
  split
  · exact still
  · simp only []
    split
    · exact unslipped _
    · exact still

/-- The channel keeps state, basis, count and timers at the forming of the strain, and all out of ACTIVE (R46). -/
theorem formStrain_channel (a : Arrival) :
    (formStrain a).s.exc = { a.s.exc with
      tracker := (formStrain a).s.exc.tracker, lastActive := (formStrain a).s.exc.lastActive } ∧
    (a.s.exc.state ≠ .active → (formStrain a).s.exc = a.s.exc) := by
  unfold formStrain
  split
  · exact ⟨rfl, fun _ => rfl⟩
  · simp only []
    split
    next active => exact ⟨rfl, fun other => absurd active other⟩
    next => exact ⟨rfl, fun _ => rfl⟩

theorem formHandover_unexamined (still : a.slip = none) (quiet : Unexamined a.s a.set) :
    formHandover (updatePeak (formStrain a)) = updatePeak (formStrain a) := by
  have slip : (updatePeak (formStrain a)).slip = none := by simpa using formStrain_slip still quiet
  have passed : removalExamined (updatePeak (formStrain a)) = false := by
    obtain fracture | off := quiet
    · simp [removalExamined, formStrain_fracture, fracture]
    · have off' : runningOrHeld (updatePeak (formStrain a)).s = false := by
        rw [← off]
        simp [runningOrHeld, State.phase]
      simp [removalExamined, off']
  cases plan : (updatePeak (formStrain a)).s.plan <;>
    simp only [formHandover, slip, plan, passed, Bool.false_and, Bool.false_eq_true, if_false]

/-- The sample comes to the executive without a handover: the test is what it was but for entries, and the sample remembered. -/
structure ComesQuiet (s : State) (t : TestContext) (a : Arrival) (t₁ : TestContext) : Prop where
  test : a.s.tex.test = some t₁
  grown : t.GoesOn 3 t₁
  lasts : t₁.lasting = { t with rev := rememberSample a.fracture a.set t.rev }.lasting
  handover : a.handover = false
  slip : a.slip = none
  exc : a.s.exc = { s.exc with tracker := a.s.exc.tracker, lastActive := a.s.exc.lastActive }
  rests : s.exc.state ≠ .active → a.s.exc = s.exc
  pif : a.s.pif = s.pif

/-- A sample that is not examined for slip and removal is not evaluated either (R147). -/
theorem evaluated_unexamined (quiet : Unexamined a.s a.set) : evaluated (updatePeak (formStrain a)) = false := by
  obtain fracture | off := quiet
  · simp [evaluated, formStrain_fracture, fracture]
  · have other : a.s.phase ≠ some .running := fun running => by simp [runningOrHeld, running] at off
    have still : (updatePeak (formStrain a)).s.phase ≠ some .running := by simpa [State.phase] using other
    simp [evaluated, still]

theorem lasting_evaluated (v : Evaluation) (h : t.lasting = t₁.lasting) :
    ({ t with rev := v } : TestContext).lasting = { t₁ with rev := v }.lasting :=
  congrArg (fun z : TestContext => { z with rev := v }) h

theorem evaluateArrival_unexamined (test : a.s.tex.test = some t) (still : a.slip = none) (none : a.handover = false)
    (quiet : Unexamined a.s a.set) (grown : t₁.GoesOn 1 t) (lasts : t.lasting = t₁.lasting) :
    ∃ t₂, ComesQuiet a.s t₁ (evaluateArrival (formHandover (updatePeak (formStrain a)))) t₂ := by
  rw [formHandover_unexamined still quiet]
  obtain ⟨t₂, test₂, lasts₂, grown₂⟩ := evaluateArrival_test (a := updatePeak (formStrain a)) (t := t) (by simpa using test)
  obtain ⟨channel, rests⟩ := formStrain_channel a
  rw [evaluationAt_unevaluated (evaluated_unexamined quiet) (by simpa using none)] at lasts₂
  refine ⟨t₂, test₂, grown.trans grown₂, lasts₂.trans ?_, by simpa using none, by simpa using formStrain_slip still quiet,
    by simpa using channel, by simpa using rests, by simp⟩
  obtain ⟨-, -, rev, -⟩ := lasting_fields lasts
  simp only [evaluateArrival_frame, rev]
  exact lasting_evaluated _ lasts

theorem arrivalForExecutive_quiet (code : Int) (range : LoadRange) (l : Latch) (test : s.tex.test = some t)
    (light : sampleOverloaded s.xhc.config.fcap (loadSample code range l s) = false)
    (quiet : Unexamined s (loadSample code range l s)) : ∃ t₁, ComesQuiet s t (arrivalForExecutive code range l s) t₁ := by
  have notices : (stepUp (overloadCheck (beginArrival code range l s))).s.pif = s.pif := by
    simp [overloadCheck, light, loadTaken]
  have begun : (overloadCheck (beginArrival code range l s)).s.tex.test = some t := by simpa using test
  obtain ⟨t₀, test₀, lasts₀, grown⟩ := stepUp_test begun
  have peak := (stepUp_peak begun).trans (begunArrival_ldc code range l s).2.2
  have fracture := fractures_of_goesOn test test₀ grown peak (loadSample code range l s)
  have phase : runningOrHeld (stepUp (overloadCheck (beginArrival code range l s))).s = runningOrHeld s := by
    simp [runningOrHeld, phase_of_test test, phase_of_test test₀, grown.phase]
  obtain ⟨t₁, quiet₁⟩ := evaluateArrival_unexamined test₀ (by simp [beginArrival]) (by simp [beginArrival])
    (by simpa [Unexamined, fracture, phase] using quiet) grown lasts₀
  have channel : (stepUp (overloadCheck (beginArrival code range l s))).s.exc = s.exc := by simp
  exact ⟨t₁, quiet₁.test, quiet₁.grown, quiet₁.lasts, quiet₁.handover, quiet₁.slip, channel ▸ quiet₁.exc,
    channel ▸ quiet₁.rests, quiet₁.pif.trans notices⟩

end Sys2Proof.Machine
end

section

/-! PROOF. The fracture of a specimen at a good sample (R61, R124, R149), and O38. -/

namespace Sys2Proof.Machine

variable {s u : State} {a : Arrival} {t t₁ : TestContext} {m : MountedSpecimen} {b : StrainBasis} {range : LoadRange} {l : Latch}
  {code : Int} {x : SampleSet}

/-! ### The rest of an arrival that the test goes on after (R70, R79, R134) -/

/-- The loop computes in RUNNING only (R134). -/
theorem loopTakes_still (test : a.s.tex.test = some t) (other : t.phase ≠ .running) : loopTakes a = a := by
  simp [loopTakes, State.plan, test, loopComputes, phase_of_test test, other]

/-- A test's word of the base value 0 is 0 (R70). -/
theorem formWord_test {tag : Tag} (active : s.mar.active = some { port := .sequencer, tag := tag, job := .test }) :
    formWord s 0 = 0 := by
  have foreign : cellMotion s = false := by simp [cellMotion, active]
  unfold formWord forcedZero
  cases gate : s.inputs.gateOpen <;> simp [foreign]

/-- A test at rest, its set-point 0: the word is 0 and no soft limit closes the test (R70, R79). -/
theorem loopToCapture_rests {tag : Tag} (active : a.s.mar.active = some { port := .sequencer, tag := tag, job := .test })
    (test : a.s.tex.test = some t) (other : t.phase ≠ .running) (closing : a.closing = none) (rest : a.s.rlp.setPoint = 0) :
    (loopToCapture a).closing = none ∧ (loopToCapture a).s.xhc.word = 0 ∧ (loopToCapture a).s.rlp = a.s.rlp := by
  have base : baseValue a.s = 0 := by
    simp only [baseValue, active]
    split
    next same =>
      obtain rfl := Option.some.inj same
      exact rest
    next => rfl
  obtain ⟨w, word, -, -, closed, sent⟩ := wordTakes_test a (by simp [testIsActive, active])
  have zero : w = 0 := by rw [sent, base, formWord_test active]; exact ite_self 0
  have open' : (wordTakes a).closing = none := by rw [closed, base]; simpa using closing
  rw [loopToCapture, loopTakes_still test other]
  simp [open', word, zero, sendWordValue]

/-- A test that goes on after the arrival is counted on (R24). -/
theorem closeOrCount_left {tag : Tag} (active : a.s.mar.active = some { port := .sequencer, tag := tag, job := .test })
    (test : a.s.tex.test = some t) (closing : (loopToCapture a).closing = none) :
    ∃ t', (closeOrCount (loopToCapture a)).s.tex.test = some t' ∧ t'.phase = t.phase ∧ t'.lasting = t.lasting ∧
      t.events ⊆ t'.events ∧ (closeOrCount (loopToCapture a)).s.exc = a.s.exc ∧
      (closeOrCount (loopToCapture a)).s.rlp = (loopToCapture a).s.rlp ∧
      (closeOrCount (loopToCapture a)).s.xhc = (loopToCapture a).s.xhc ∧
      (closeOrCount (loopToCapture a)).s.pif = (loopToCapture a).s.pif := by
  have isTest : testIsActive a.s = true := by simp [testIsActive, active]
  obtain ⟨t', test', grown⟩ := loopToCapture_inTest isTest (inTest_of_test test)
  obtain ⟨exc, -⟩ := loopToCapture_kept isTest
  have lasts := loopToCapture_lasting isTest
  rw [lasting_of_test test', lasting_of_test test] at lasts
  rw [closeOrCount_counts _ closing]
  exact ⟨_, updateTest_test _ test', grown.phase, Option.some.inj lasts, grown.events.subset, by simpa using exc, by simp,
    by simp, by simp⟩

/-! ### The criterion (R124) -/

/-- The criterion holds on a force fallen below its fraction of the peak (R124). -/
theorem fractures_below {k : Peak} (test : s.tex.test = some t) (before : ∀ n, t.phase ≠ .tail n) (valid : x.invalid = false)
    (peak : s.ldc.peak = some k) (below : x.force ≤ k.force) (floor : t.plan.fractureFloor ≤ k.force)
    (fallen : x.force * 100 < k.force * t.plan.fractureFraction) : fractures s x = true := by
  have stays : raisesPeak s x ≠ true := by
    rw [ne_eq, raisesPeak_iff test]
    rintro ⟨-, above⟩
    have := above k peak
    omega
  have phase : fracturePhase t.phase = true := by
    cases phase : t.phase with
    | tail n => exact absurd phase (before n)
    | preload | placing | running | held => rfl
  simp [fractures, test, peakForce, stays, peak, phase, valid, floor, fallen]

/-! ### The executive at the fracture (R61, R124) -/

/-- The arms on the specimen at the fracture are flagged, and the timers stop (R61). -/
theorem extFracture_left (test : s.tex.test = some t) :
    (extFracture s).tex.test = some { t with flags := { t.flags with
      extOnAtFracture := t.flags.extOnAtFracture || armsOn s.exc.state } } ∧
    (extFracture s).exc = { s.exc with placement := none, removal := none } := by
  unfold extFracture
  split
  next on => simp [stopTimers, test, on]
  next off => simp [stopTimers, test, off]

/-- From the state `s` and its test `t` the fracture with the record `y` has led to the state `u` and its test `t'` in TAIL (R61,
R124, R149). -/
structure BrokenAt (y : SamplePoint) (s : State) (t : TestContext) (u : State) (t' : TestContext) : Prop where
  test : u.tex.test = some t'
  phase : t'.phase = .tail 0
  number : t'.fractureNumber = some y.number
  record : t'.rev.fracture = some y
  entry : ⟨.fracture, y.number, y.force⟩ ∈ t'.events
  flag : t'.flags.extOnAtFracture = (t.flags.extOnAtFracture || armsOn s.exc.state)
  state : u.exc.state = s.exc.state
  timers : u.exc.placement = none ∧ u.exc.removal = none
  loop : u.rlp = { s.rlp with mode := .off, rate := none, target := none, setPoint := 0 }

/-- The fracture sample is the one the evaluator keeps (R124). -/
theorem detectFracture_breaks {y : SamplePoint} (fracture : a.fracture = true) (test : a.s.tex.test = some t)
    (last : t.rev.fracture = some y) (room : t.events.length < 24) : ∃ t', BrokenAt y a.s t (detectFracture a).s t' := by
  have tailed : (updateTest (fun t => { t with phase := .tail 0, fractureNumber := some y.number }) a.s).tex.test = _ :=
    updateTest_test _ test
  have entered := addEventAt_eq .fracture y.number y.force tailed
  obtain ⟨flagged, channel⟩ := extFracture_left (s := addEventAt .fracture y.number y.force
    (updateTest (fun t => { t with phase := .tail 0, fractureNumber := some y.number }) a.s)) (by rw [entered])
  have detected : (detectFracture a).s = loopTail (extFracture (addEventAt .fracture y.number y.force
      (updateTest (fun t => { t with phase := .tail 0, fractureNumber := some y.number }) a.s))) := by
    simp [detectFracture, fracture, test, last]
  rw [detected]
  obtain ⟨phase, -, flags⟩ := logEvent_kept { t with phase := .tail 0, fractureNumber := some y.number }
    ⟨.fracture, y.number, y.force⟩
  obtain ⟨-, -, rev, -, number, -⟩ := lasting_fields (logEvent_lasting
    { t with phase := .tail 0, fractureNumber := some y.number } ⟨.fracture, y.number, y.force⟩)
  refine ⟨_, flagged, phase, number, (congrArg Evaluation.fracture rev).trans last, mem_logEvent room, by simp [flags], ?_, ?_,
    by simp [loopTail]⟩ <;> simp [loopTail, channel]

/-- A good sample of a test before its fracture that fulfils the criterion sends the test into TAIL (R61, R124, R149). -/
theorem executiveTakes_breaks {y : SamplePoint} (test : s.tex.test = some t)
    (light : sampleOverloaded s.xhc.config.fcap (loadSample code range l s) = false)
    (breaks : fractures s (loadSample code range l s) = true) (tail : t.plan.tailSamples ≠ 0)
    (last : t.rev.lastValid = some y) (room : HasRoom t) :
    (executiveTakes (arrivalForExecutive code range l s)).closing = none ∧
      ∃ t', BrokenAt y s t (executiveTakes (arrivalForExecutive code range l s)).s t' := by
  obtain ⟨t₁, quiet⟩ := arrivalForExecutive_quiet code range l test light (.inl breaks)
  have fracture : (arrivalForExecutive code range l s).fracture = true := (arrivalForExecutive_fracture test).trans breaks
  obtain ⟨-, closing, -, load, -⟩ := arrivalForExecutive_fields code range l s
  have loop : (arrivalForExecutive code range l s).s.rlp = s.rlp := (arrivalForExecutive_frame ..).1
  rw [light] at load
  generalize arrivalForExecutive code range l s = a at *
  obtain ⟨plan, -, rev, -, -, -, flag⟩ := lasting_fields quiet.lasts
  have state : a.s.exc.state = s.exc.state := by rw [quiet.exc]
  have tail' : t₁.plan.tailSamples ≠ 0 := by rw [plan]; exact tail
  have taken : executiveTakes a = detectFracture a := by
    simp [executiveTakes, quiet.test, load, fracture, tail']
  have kept : t₁.rev.fracture = some y := by simp [rev, rememberSample, fracture, last]
  have few : t₁.events.length < 24 := by
    have := quiet.grown.count
    have := show t.events.length ≤ 12 from room
    omega
  obtain ⟨t', broken⟩ := detectFracture_breaks fracture quiet.test kept few
  rw [taken]
  exact ⟨by simpa using closing, t', { broken with
    flag := by rw [broken.flag, flag, state]
    state := broken.state.trans state
    loop := by rw [broken.loop, loop] }⟩

/-- The rest of the arrival leaves the fracture, with the word 0 (R70, R133). -/
theorem BrokenAt.left {y : SamplePoint} {tag : Tag} (h : BrokenAt y s t a.s t₁)
    (active : a.s.mar.active = some { port := .sequencer, tag := tag, job := .test }) (closing : a.closing = none) :
    (closeOrCount (loopToCapture a)).s.xhc.word = 0 ∧ ∃ t', BrokenAt y s t (closeOrCount (loopToCapture a)).s t' := by
  obtain ⟨going, word, kept⟩ := loopToCapture_rests active h.test (by simp [h.phase]) closing (by rw [h.loop])
  obtain ⟨t', test', phase, lasts, events, exc, loop, drive, -⟩ := closeOrCount_left active h.test going
  obtain ⟨-, -, rev, -, number, -, flag⟩ := lasting_fields lasts
  exact ⟨by rw [drive, word], t', test', phase.trans h.phase, number.trans h.number, by rw [rev, h.record], events h.entry,
    flag.trans h.flag, by rw [exc, h.state], by rw [exc]; exact h.timers, by rw [loop, kept, h.loop]⟩

/-- A sample no greater than the test peak leaves it (R38). -/
theorem ArrivalInTest.keepsPeak {k : Peak} (h : ArrivalInTest s t m b range l) (peak : s.ldc.peak = some k)
    (below : (Machine.loadSample code range l s).force ≤ k.force) (next : Machine.exec (.sampleArrival code) s = .next u) :
    u.ldc.peak = s.ldc.peak := by
  obtain ⟨v, x, u', next', formed, -, left, -⟩ := h.published code
  obtain rfl : u' = u := Host.Outcome.next.inj (next'.symm.trans next)
  rw [left, if_neg]
  rintro ⟨-, above⟩
  have higher : k.force < x.force := above k peak
  have : x.force = (Machine.loadSample code range l s).force := by rw [formed]; rfl
  omega

end Sys2Proof.Machine

open Sys2Proof Sys2Proof.Machine

/-- Settles O38: a good sample in RUNNING by what each outcome of its judgement leaves (`judgeStage_enters` and its neighbours,
`judged_left`), the fracture by `executiveTakes_breaks`, the closures by `closingArrival_exec`. -/
theorem arrivalJudgesTheTest : Obligations.ArrivalJudgesTheTest := by
  unfold Obligations.ArrivalJudgesTheTest
  refine ⟨?_, ?_, ?_, ?_⟩
  · intro s t m b range l code x d h running stage defined gate good whole
    obtain ⟨next, latest⟩ := h.exec_executive code
    obtain ⟨t₁, calm, kept, judges⟩ := h.judges running gate good whole
    have plan := kept.plan
    have stage₁ := kept.stage.trans stage
    have defined₁ : stageAt t₁.plan x.index = some d := by rw [plan, defined]
    have loop : (arrivalForExecutive code range l s).s.rlp = s.rlp := (arrivalForExecutive_frame ..).1
    rw [judges] at next latest
    generalize arrivalForExecutive code range l s = a at *
    refine ⟨_, _, next, latest, fun t' left met timeout isMet isTimeout => ?_⟩
    obtain ⟨t₂, test₂, going, rev, mark, stage', events, mode, rate⟩ := judgeStage_left calm.active calm.test left
    have ends : met ↔ EndsStage t₁ x d a.set := by rw [isMet, rev, mark, EndsStage]
    have timesOut : timeout ↔ TimesOut t₁ x d a.set := by rw [isTimeout, ends, TimesOut]
    have same {t₃ : TestContext} (test₃ : (judgeStage t₁ a).s.tex.test = some t₃) : t₂ = t₃ :=
      Option.some.inj (test₂.symm.trans test₃)
    have action : timeout → d.timeoutAction = .successor := fun out => by
      cases action : d.timeoutAction with
      | successor => rfl
      | abort => simp [judgeStage_aborts stage₁ defined₁ (timesOut.1 out) action] at going
    have few {n : Nat} (room : HasRoom t) (below : 16 < n) : t₁.events.length < n := (kept.room room).trans_lt below
    rw [mode, rate, stage', ← plan, ← kept.arrivals]
    refine ⟨fun out => ⟨action out, fun room => events ?_⟩, fun h j e there => ?_, fun h beyond => ?_, fun h beyond => ?_,
      fun h k => ?_⟩
    · exact judgeStage_logsTimeout stage₁ defined₁ calm.test (timesOut.1 out) (action out) (few room (by decide)) test₂
    · obtain ⟨t₃, test₃, entered, mode, rate, entry⟩ := judgeStage_enters stage₁ defined₁ calm.test
        (h.imp ends.1 fun out => ⟨timesOut.1 out, action out⟩) there
      obtain rfl := same test₃
      exact ⟨entered, mode, rate, fun room => events (entry (few room (by decide)))⟩
    · obtain ⟨t₃, test₃, logged, entry⟩ := judgeStage_logsEnd stage₁ defined₁ calm.test (ends.1 h) beyond
      obtain rfl := same test₃
      exact ⟨logged, fun room => events (entry (few room (by decide)))⟩
    · obtain ⟨t₃, test₃, marked⟩ := judgeStage_marksTimeout stage₁ defined₁ calm.test (timesOut.1 h) (action h) beyond
      obtain rfl := same test₃
      exact marked
    · have runs := judgeStage_runs stage₁ defined₁ (h ∘ ends.2) (k ∘ timesOut.2)
      rw [runs] at test₂ ⊢
      rw [Option.some.inj (test₂.symm.trans calm.test), stage₁, loop]
      exact ⟨rfl, rfl, rfl⟩
  · intro s t m b range l code force k y h before good measured peak below floor fallen tail last room
    obtain ⟨next, -⟩ := h.exec_executive code
    subst measured
    obtain ⟨valid, light⟩ := good.measured (l := l)
    obtain ⟨closing, t₁, broken⟩ :=
      executiveTakes_breaks h.test light (fractures_below h.test before valid peak below floor fallen) tail last room
    obtain ⟨tag, active⟩ := h.active
    obtain ⟨word, t', left⟩ := broken.left (tag := tag) (by simpa [arrivalForExecutive] using active) closing
    obtain ⟨placement, removal⟩ := left.timers
    refine ⟨_, t', next, left.test, left.phase, left.number, left.record, left.entry, left.loop, word, left.state, placement,
      removal, h.keepsPeak peak below next, left.flag.trans ?_⟩
    cases s.exc.state <;> simp [armsOn]
  · intro s t m x d code range l tag test running stage defined unmet action bounded unlogged reached slot active queue gate
      settled conversion above below light whole
    have valid : (loadSample code range l s).invalid = false := by
      rw [← Bool.not_eq_true, loadSample_invalid]
      omega
    obtain ⟨closing, timedOut⟩ := executiveTakes_aborts test running stage defined (by simp [testIsActive, active]) gate
      ⟨valid, light, whole⟩
      (fun t' test' => ⟨fun ends => (unmet _ t' rfl test').elim (by simp [ends.1]) (· ends.2), bounded, unlogged, reached⟩) action
    obtain ⟨u, rec, arrives, isTimeout, -, left⟩ := closingArrival_exec test slot active queue conversion closing rfl
    exact ⟨u, rec, isTimeout timedOut, arrives, left⟩
  · intro s t m n code range l tag test tail last slot active queue conversion light
    obtain ⟨closing, tailEnded⟩ := executiveTakes_endsTail test tail last light
    obtain ⟨u, rec, arrives, -, isEnd, left⟩ := closingArrival_exec test slot active queue conversion closing rfl
    exact ⟨u, rec, isEnd tailEnded, arrives, left⟩

end

section

/-! PROOF. START TEST from rest: the activation of a test in every block (R109 to R111, R176, R178, R189). -/

namespace Sys2Proof.Machine

variable {s : State} {m : MountedSpecimen} {p : Plan} {c : CaptureContext}

/-- The conditions of R110, in order. -/
theorem startRefusal_eq_none (idle : s.tex.test = none) (slot : s.spt.slot = some m) (mounted : m.state = .mounted)
    (valid : planValidFor s.xhc.config s.tex.plans[m.specimen.plan] m = true) (referenced : s.xhc.referenceValid = true)
    (gate : s.inputs.gateOpen = false) (faults : s.pif.faults.isEmpty = true) (free : s.cal.inFlight = none)
    (room : resultsClaimed s < 8) : startRefusal s = none := by
  have unfull : ¬ 8 ≤ resultsClaimed s := by omega
  simp only [startRefusal, State.testIdle, idle, slot, mounted, valid, referenced, gate, faults, free, Config.resultsCapacity,
    unfull]
  rfl

/-! ### The capture that an activation begins (R176, R178) -/

theorem addEvent_cps (k : EventKind) (v : Int) (s : State) :
    (addEvent k v s).cps = s.cps ∨ (addEvent k v s).cps = eventMarked s.cps := by
  cases h : s.tex.test with
  | none => exact .inl (by simp [addEvent, h])
  | some t => exact .inr (by rw [addEvent_eq k v h])

theorem setLevel_capture (capture : s.cps.capture = some c) :
    ∃ x, (setLevel s).cps = { s.cps with capture := some x } ∧ x.serial = c.serial ∧ x.taken = c.taken ∧
      x.level = levelOf (freeCount s.cps) := by
  have levelled : (updateCapture (fun c => { c with level := levelOf (freeCount s.cps) }) s).cps =
      { s.cps with capture := some { c with level := levelOf (freeCount s.cps) } } := by simp [updateCapture, capture]
  simp only [setLevel, capture]
  split
  · have kept (u : State) : (raise .record .capturePressure u).cps = u.cps := by simp
    rw [kept]
    obtain same | marked := addEvent_cps .captureThin (levelOf (freeCount s.cps))
      (updateCapture (fun c => { c with level := levelOf (freeCount s.cps) }) s)
    · exact ⟨_, same.trans levelled, rfl, rfl, rfl⟩
    · rw [levelled] at marked
      exact ⟨_, marked, rfl, rfl, rfl⟩
  · exact ⟨_, levelled, rfl, rfl, rfl⟩

theorem startCapture_capture {u : State} (same : u.cps = s.cps) (n : BitVec 16) :
    ∃ x, (startCapture n u).cps = { s.cps with capture := some x } ∧ x.serial = n ∧ x.taken = 0 ∧
      x.level = levelOf (128 - s.cps.full.length) := by
  rw [← same]
  exact setLevel_capture (s := { u with cps := { u.cps with capture := some (newCapture n) } }) rfl

/-- Capturing begins under the next serial (R109, R176). -/
theorem activateTest_capture (m : MountedSpecimen) (p : Plan) (s : State) :
    ∃ x, (activateTest m p s).cps = { s.cps with capture := some x } ∧ x.serial = s.tex.serial + 1 ∧ x.taken = 0 ∧
      x.level = levelOf (128 - s.cps.full.length) :=
  startCapture_capture (by simp) _

/-- The test that an activation leaves (R111). -/
theorem activateTest_left (m : MountedSpecimen) (p : Plan) (s : State) :
    ∃ t, (activateTest m p s).tex = { plans := s.tex.plans, serial := s.tex.serial + 1, test := some t } ∧
      t.serial = s.tex.serial + 1 ∧ t.phase = .preload ∧ t.planId = m.specimen.plan ∧ t.plan = p ∧
      t.specimenId = m.specimen.id ∧ t.stage = none ∧ t.handoverMark = false ∧ t.arrivals = 0 := by
  obtain ⟨t, tex, -⟩ := activateTest_tex m p s
  obtain ⟨t', test', going⟩ := activateTest_inTest m p s
  have lasts : (activateTest m p s).lasting = some (newTest (s.tex.serial + 1) m p).lasting :=
    (setLevel_lasting _).trans (lasting_of_test (by simp))
  obtain ⟨-, -, -, identity, -⟩ := activateTest_fields m p s
  obtain rfl : t = t' := by simpa [tex] using test'
  rw [lasting_of_test test'] at lasts
  obtain ⟨-, stage, -, mark, -⟩ := lasting_fields (Option.some.inj lasts)
  obtain ⟨serial, specimen, planId, plan⟩ : t.serial = s.tex.serial + 1 ∧ t.specimenId = m.specimen.id ∧
      t.planId = m.specimen.plan ∧ t.plan = p := by simpa [test', TestContext.identity, newTest] using identity
  exact ⟨t, tex, serial, going.phase, planId, plan, specimen, stage, mark, going.arrivals⟩

/-- The other blocks at an activation (R15, R42, R111, R133, R189). -/
theorem activateTest_blocks (m : MountedSpecimen) (p : Plan) (s : State) :
    (activateTest m p s).mar = s.mar ∧ (activateTest m p s).xhc = s.xhc ∧
      (activateTest m p s).exc = { s.exc with basis := some (newBasis m s.xhc.position) } ∧
      (activateTest m p s).rsl = { s.rsl with reserved := true } ∧
      (activateTest m p s).rlp = { idleLoop with setPoint := p.preloadRate * 1000 } ∧
      (activateTest m p s).ldc.range = p.initialRange ∧ (activateTest m p s).ldc.peak = none ∧
      (activateTest m p s).ldc.tare = s.ldc.tare := by
  have tare r n (u : State) : (selectRange r n u).ldc.tare = u.ldc.tare := by
    unfold selectRange
    split <;> rfl
  simp [activateTest, selectRange_range, tare]

/-- START TEST from rest is answered by the activation of its test (R95, R110, R111). -/
theorem motionReply_startTest {tag : Tag} (ready : ReadyFor .sequencer s) (clear : LimitsClear s)
    (still : s.xhc.drive = .disabled ∨ s.xhc.drive = .holding) (allowed : startRefusal s = none) (slot : s.spt.slot = some m)
    (plan : s.tex.plans[m.specimen.plan] = some p) :
    motionReply .sequencer tag .startTest s =
      { state := activateTest m p (startedWith { port := .sequencer, tag := tag, job := .startTest } .test s),
        outcome := .queued, payload := .motion .active none } := by
  have unlimited := limitForbids_of_clear clear .startTest
  have taken : takeRequest false { port := .sequencer, tag := tag, job := .startTest } s =
      activateTest m p (startedWith { port := .sequencer, tag := tag, job := .startTest } .test s) := by
    rw [← takeStartTest_starts allowed slot plan still]
    simp [takeRequest, unlimited]
  obtain ⟨mar, -⟩ := activateTest_blocks m p (startedWith { port := .sequencer, tag := tag, job := .startTest } .test s)
  exact motionReply_starts ready rfl unlimited allowed taken (by rw [mar]; rfl) rfl

end Sys2Proof.Machine
end

section

/-! PROOF. The sample that ends preload, and those before it (R47, R113, R115), and O22. -/

namespace Sys2Proof.Machine

variable {s u : State} {a c : Arrival} {t t₁ : TestContext} {m : MountedSpecimen} {b : StrainBasis} {range : LoadRange} {l : Latch}
  {code : Int} {p : Plan} {d : StageDef} {required : Bool}

/-! ### The extensometer channel at the end of preload (R47) -/

/-- What the channel does at the end of preload, with a strain basis. -/
structure ChannelGoesOn (required : Bool) (l : Latch) (b : StrainBasis) (x y : Extensometer) : Prop where
  basis : y.basis = some { b with
    p0 := if required = true ∧ (x.state = .placeRequested ∨ x.state = .active) then b.p0 else l.position }
  places : required = true → x.state = .parked → y.state = .placeRequested ∧ y.placement = some 0
  zeroes : required = true → x.state = .attached → y.state = .active ∧ y.count = x.count - l.extCount ∧ y.tracker = none ∧
    y.lastActive = some { ext := 0, xh := 0, number := none }
  stays : ¬ (required = true ∧ (x.state = .parked ∨ x.state = .attached)) → y.state = x.state

/-- It goes by state and count alone. -/
theorem ChannelGoesOn.congr {x x' y : Extensometer} (h : ChannelGoesOn required l b x y) (state : x'.state = x.state)
    (count : x'.count = x.count) : ChannelGoesOn required l b x' y :=
  ⟨by rw [state]; exact h.basis, by rw [state]; exact h.places, by rw [state, count]; exact h.zeroes,
    by rw [state]; exact h.stays⟩

theorem extPreloadEnd_exc (required : Bool) (l : Latch) (basis : s.exc.basis = some b) :
    ChannelGoesOn required l b s.exc (extPreloadEnd required l s).exc := by
  cases required with
  | false =>
    constructor <;> simp [extPreloadEnd, markHandover, setP0, updateBasis, basis]
  | true =>
    cases state : s.exc.state <;> constructor <;>
      simp [extPreloadEnd, state, markHandover, setP0, updateBasis, basis, beginActive, zeroAtSample]

/-- The test as the end of preload leaves it for its next state (R47, R53). -/
structure PreloadMarked (required : Bool) (e : ExtState) (t t₁ : TestContext) : Prop where
  kept : t.KeepsStage 0 t₁
  events : t₁.events = t.events
  attached : required = true → e = .attached → t₁.handoverMark = t.handoverMark
  unplaced : required = true → e = .removeRequested ∨ e = .fault → t₁.flags.extNotPlaced = true ∧ t₁.handoverMark = true
  crosshead : required = false → t₁.handoverMark = true

theorem extPreloadEnd_test (required : Bool) (l : Latch) (test : s.tex.test = some t) :
    ∃ t₁, (extPreloadEnd required l s).tex.test = some t₁ ∧ PreloadMarked required s.exc.state t t₁ := by
  have kept : t.KeepsStage 0 t := ⟨rfl, rfl, rfl, rfl, Nat.le_refl _⟩
  cases required with
  | false => exact ⟨{ t with handoverMark := true }, by simp [extPreloadEnd, markHandover, setP0, updateBasis, test],
      ⟨⟨rfl, rfl, rfl, rfl, Nat.le_refl _⟩, rfl, by simp, by simp, by simp⟩⟩
  | true =>
    have unplaced {e : ExtState} (h : e = .removeRequested ∨ e = .fault) :
        PreloadMarked true e t { t with flags := { t.flags with extNotPlaced := true }, handoverMark := true } :=
      ⟨⟨rfl, rfl, rfl, rfl, Nat.le_refl _⟩, rfl, fun _ attached => by simp [attached] at h, fun _ _ => ⟨rfl, rfl⟩, by simp⟩
    have same {e : ExtState} (h : ¬ (e = .removeRequested ∨ e = .fault)) : PreloadMarked true e t t :=
      ⟨kept, rfl, fun _ _ => rfl, fun _ asked => absurd asked h, by simp⟩
    cases state : s.exc.state with
    | removeRequested | fault =>
      exact ⟨_, by simp [extPreloadEnd, state, markHandover, setP0, updateBasis, test], unplaced (by simp)⟩
    | parked | attached | placeRequested | active =>
      exact ⟨t, by simp [extPreloadEnd, state, setP0, updateBasis, beginActive, zeroAtSample, test], same (by simp)⟩

/-- The notices of the end of preload (R47): the arms asked onto the specimen, or away. -/
theorem extPreloadEnd_asks (l : Latch) (own : NoticesOwn s) :
    (s.exc.state = .parked → (extPreloadEnd true l s).flag .cell .extPlaceReq = .raised) ∧
      (s.exc.state = .removeRequested ∨ s.exc.state = .fault →
        (extPreloadEnd true l s).flag .cell .extRemoveReq = .raised) := by
  constructor
  · intro parked
    rw [extPreloadEnd, if_pos rfl, parked]
    exact (own.of_pif (by simp)).raised (by decide)
  · rintro (state | state)
    all_goals
      rw [extPreloadEnd, if_pos rfl, state]
      exact (flag_of_pif (by simp) _ _).trans (own.raised (by decide))

/-! ### The executive in PRELOAD (R47, R113, R115) -/

/-- The state as the extensometer channel leaves it at the end of preload (R47, R113). -/
def preloadPassed (p : Plan) (a : Arrival) : State :=
  extPreloadEnd p.extRequired a.latch (addEvent .preloadEnd a.set.force a.s)

theorem endPreload_waits (h : (preloadPassed p a).exc.state = .placeRequested) :
    (endPreload p a).s = setSetPoint 0 (setPhase .placing (preloadPassed p a)) := by
  unfold preloadPassed at h ⊢
  simp only [endPreload, h, if_true]

theorem endPreload_enters (h : (preloadPassed p a).exc.state ≠ .placeRequested) (first : stageAt p 1 = some d) :
    (endPreload p a).s = loopLoad d (beginStage 1 d (setPhase .running (preloadPassed p a))) := by
  unfold preloadPassed at h ⊢
  simp only [endPreload, h, if_false, first, enterStage]

/-- The state `u` that the end of preload leaves of the state `v` with the test `t`: its test `t₁` in PLACING or in stage 1 (R113 to
R115). -/
structure PreloadEnds (d : StageDef) (v : State) (t : TestContext) (u : State) (t₁ : TestContext) : Prop where
  test : u.tex.test = some t₁
  mark : t₁.handoverMark = t.handoverMark
  unplaced : t₁.flags.extNotPlaced = t.flags.extNotPlaced
  events : t.events ⊆ t₁.events
  exc : u.exc = v.exc
  raised : ∀ n, v.flag .cell n = .raised → u.flag .cell n = .raised
  places : v.exc.state = .placeRequested → t₁.phase = .placing ∧ t₁.stage = t.stage ∧ u.rlp.setPoint = 0
  enters : v.exc.state ≠ .placeRequested → t₁.phase = .running ∧ t₁.stage = some (enteredStage 1 d) ∧
    (t.events.length < 24 → ⟨.stage, sampleNumber t.arrivals, 1⟩ ∈ t₁.events) ∧ u.rlp.mode = loopModeOf d.mode ∧
    u.rlp.rate = some d.rate

theorem endPreload_left (first : stageAt p 1 = some d) (test : (preloadPassed p a).tex.test = some t) :
    ∃ t₁, PreloadEnds d (preloadPassed p a) t (endPreload p a).s t₁ := by
  by_cases waits : (preloadPassed p a).exc.state = .placeRequested
  · rw [endPreload_waits waits]
    exact ⟨{ t with phase := .placing }, updateTest_test _ test, rfl, rfl, List.Subset.refl _, rfl,
      fun _ was => was, fun _ => ⟨rfl, rfl, rfl⟩, fun other => absurd waits other⟩
  · rw [endPreload_enters waits first]
    have running : (setPhase .running (preloadPassed p a)).tex.test = _ := updateTest_test _ test
    have entered : (beginStage 1 d (setPhase .running (preloadPassed p a))).tex.test = _ :=
      addEvent_test _ _ (updateTest_test _ running)
    have logged := logEvent_goesOn { t with phase := .running, stage := some (enteredStage 1 d) }
      ⟨.stage, sampleNumber t.arrivals, 1⟩
    obtain ⟨phase, stage, flags⟩ := logEvent_kept { t with phase := .running, stage := some (enteredStage 1 d) }
      ⟨.stage, sampleNumber t.arrivals, 1⟩
    exact ⟨_, entered, logged.mark, congrArg TestFlags.extNotPlaced flags, logged.events.subset, by simp [loopLoad],
      fun _ was => (flag_of_pif (by simp [loopLoad]) _ _).trans was, fun same => absurd same waits,
      fun _ => ⟨phase, stage, fun room => mem_logEvent room, rfl, rfl⟩⟩

theorem preloadReached_iff (p : Plan) (force : Int) :
    preloadReached p force = true ↔ p.preloadForce = 0 ∨ p.preloadForce ≤ force := by
  simp [preloadReached]

/-- In PRELOAD a sample that hands nothing over ends preload, or leaves the test as it is (R113). -/
theorem executiveTakes_preload (test : a.s.tex.test = some t) (preload : t.phase = .preload) (valid : a.set.invalid = false)
    (whole : a.fracture = false) (light : a.overloaded = false) (gate : a.s.inputs.gateOpen = false)
    (none : a.handover = false) :
    executiveTakes a = if preloadReached t.plan a.set.force then endPreload t.plan a else a := by
  have judged : judgePhase t a = if preloadReached t.plan a.set.force then endPreload t.plan a else a := by
    simp [judgePhase, preload, valid]
  have unheld : handoverHold t.plan (judgePhase t a) = judgePhase t a := by simp [handoverHold, none]
  rw [← judged, ← unheld]
  simp [executiveTakes, test, detectFracture_whole whole, light, whole, gate]

/-- Below the upper soft limit an arrival that closes nothing lets its test go on (R79). -/
theorem loopToCapture_goesOn (active : testIsActive a.s = true) (closing : a.closing = none)
    (below : a.s.xhc.referenceValid = true → a.s.xhc.position < a.s.xhc.config.upperSoft) :
    (loopToCapture a).closing = none := by
  obtain ⟨w, -, -, -, closed, -⟩ := wordTakes_test (loopTakes a) (by simpa [testIsActive] using active)
  have free : ¬ (towardSoftLimit (loopTakes a).s.xhc (baseValue (loopTakes a).s) = true ∧ 0 < baseValue (loopTakes a).s) := by
    rintro ⟨toward, up⟩
    obtain ⟨valid, reached⟩ : a.s.xhc.referenceValid = true ∧ a.s.xhc.config.upperSoft ≤ a.s.xhc.position := by
      have notDown : ¬ baseValue (loopTakes a).s < 0 := by omega
      simpa [towardSoftLimit, up, notDown] using toward
    have := below valid
    omega
  have going : (wordTakes (loopTakes a)).closing = none := by
    rw [closed, if_neg fun ⟨_, toward⟩ => free toward]
    simpa using closing
  simpa [loopToCapture] using going

/-- The rest of the arrival leaves the end of preload; a test in PLACING gets the word 0 (R70, R133). -/
theorem PreloadEnds.left {tag : Tag} (h : PreloadEnds d u t c.s t₁)
    (active : c.s.mar.active = some { port := .sequencer, tag := tag, job := .test }) (closing : c.closing = none)
    (below : c.s.xhc.referenceValid = true → c.s.xhc.position < c.s.xhc.config.upperSoft) :
    ∃ t', PreloadEnds d u t (closeOrCount (loopToCapture c)).s t' ∧
      (u.exc.state = .placeRequested → (closeOrCount (loopToCapture c)).s.xhc.word = 0) := by
  have isTest : testIsActive c.s = true := by simp [testIsActive, active]
  obtain ⟨t', test', phase, lasts, events, exc, loop, drive, pif⟩ :=
    closeOrCount_left active h.test (loopToCapture_goesOn isTest closing below)
  obtain ⟨-, stage, -, mark, -, unplaced, -⟩ := lasting_fields lasts
  obtain ⟨-, notices, rates, -⟩ := loopToCapture_kept isTest
  have rests (placing : t₁.phase = .placing) (rest : c.s.rlp.setPoint = 0) :=
    loopToCapture_rests active h.test (by simp [placing]) closing rest
  refine ⟨t', ⟨test', mark.trans h.mark, unplaced.trans h.unplaced, fun _ was => events (h.events was), exc.trans h.exc,
    fun n was => ?_, fun requested => ?_, fun other => ?_⟩, fun requested => ?_⟩
  · rw [flag_of_pif pif]
    exact notices.raised _ _ (h.raised n was)
  · obtain ⟨placing, still, rest⟩ := h.places requested
    obtain ⟨-, -, kept⟩ := rests placing rest
    exact ⟨phase.trans placing, stage.trans still, by rw [loop, kept, rest]⟩
  · obtain ⟨running, entered, entry, mode, rate⟩ := h.enters other
    obtain ⟨modeKept, rateKept⟩ := loopTakes_loop c
    exact ⟨phase.trans running, stage.trans entered, fun room => events (entry room), by rw [loop, rates, modeKept, mode],
      by rw [loop, rates, rateKept, rate]⟩
  · obtain ⟨placing, -, rest⟩ := h.places requested
    obtain ⟨-, word, -⟩ := rests placing rest
    rw [drive, word]

/-- A good sample in PRELOAD as it comes to the executive. -/
theorem ArrivalInTest.preloads (h : ArrivalInTest s t m b range l) (preload : t.phase = .preload)
    (good : GoodSample s range code) (whole : Unbroken s t.plan (netForce s range code)) (gate : s.inputs.gateOpen = false) :
    ∃ t₁, ComesQuiet s t (arrivalForExecutive code range l s) t₁ ∧ t₁.phase = .preload ∧ t₁.stage = t.stage ∧
      executiveTakes (arrivalForExecutive code range l s) =
        if preloadReached t.plan (netForce s range code) then endPreload t.plan (arrivalForExecutive code range l s)
        else arrivalForExecutive code range l s := by
  have off : runningOrHeld s = false := by simp [runningOrHeld, phase_of_test h.test, preload]
  have sound := good.sound (l := l) h.test whole
  obtain ⟨t₁, quiet⟩ := arrivalForExecutive_quiet code range l h.test sound.light (.inr off)
  obtain ⟨-, -, -, load, valid, force⟩ := arrivalForExecutive_fields code range l s
  obtain ⟨-, -, -, -, -, inputs⟩ := arrivalForExecutive_frame code range l s
  obtain ⟨-, stage, -⟩ := lasting_fields quiet.lasts
  have taken := executiveTakes_preload quiet.test (quiet.grown.phase.trans preload) (valid.trans sound.valid)
    ((arrivalForExecutive_fracture h.test).trans sound.whole) (load.trans sound.light) (by rw [inputs, gate]) quiet.handover
  rw [quiet.grown.plan, force] at taken
  exact ⟨t₁, quiet, quiet.grown.phase.trans preload, stage, taken⟩

/-- The sample that ends preload, the extensometer channel done with it (R47, R113). -/
structure PassesPreload (p : Plan) (s : State) (t : TestContext) (b : StrainBasis) (l : Latch) (force : Int) (v : State)
    (t₁ : TestContext) : Prop where
  test : v.tex.test = some t₁
  stage : t₁.stage = t.stage
  arrivals : t₁.arrivals = t.arrivals
  room : t₁.events.length < 24
  entry : ⟨.preloadEnd, sampleNumber t.arrivals, force⟩ ∈ t₁.events
  channel : ChannelGoesOn p.extRequired l b s.exc v.exc
  attached : p.extRequired = true → s.exc.state = .attached → t₁.handoverMark = t.handoverMark
  unplaced : p.extRequired = true → s.exc.state = .removeRequested ∨ s.exc.state = .fault →
    v.flag .cell .extRemoveReq = .raised ∧ t₁.flags.extNotPlaced = true ∧ t₁.handoverMark = true
  crosshead : p.extRequired = false → t₁.handoverMark = true
  asked : p.extRequired = true → s.exc.state = .parked → v.flag .cell .extPlaceReq = .raised

theorem ComesQuiet.passesPreload (h : ComesQuiet s t a t₁) (p : Plan) (basis : s.exc.basis = some b) (ports : PortsSound s)
    (room : HasRoom t) : ∃ t₂, PassesPreload p s t b a.latch a.set.force (preloadPassed p a) t₂ := by
  have state : a.s.exc.state = s.exc.state := by rw [h.exc]
  have count : a.s.exc.count = s.exc.count := by rw [h.exc]
  have basis' : a.s.exc.basis = some b := by rw [h.exc, basis]
  obtain ⟨-, stage, -, mark, -⟩ := lasting_fields h.lasts
  have kept := (h.grown.keepsStage stage).logEvent ⟨.preloadEnd, sampleNumber t₁.arrivals, a.set.force⟩
  have few : t₁.events.length ≤ 15 := (h.grown.keepsStage stage).room room
  have logged := addEvent_test .preloadEnd a.set.force h.test
  have marked := logEvent_goesOn t₁ ⟨.preloadEnd, sampleNumber t₁.arrivals, a.set.force⟩
  obtain ⟨t₂, test₂, passed⟩ := extPreloadEnd_test p.extRequired a.latch logged
  have channel := extPreloadEnd_exc (s := addEvent .preloadEnd a.set.force a.s) p.extRequired a.latch (by simpa using basis')
  have own : NoticesOwn (addEvent .preloadEnd a.set.force a.s) :=
    NoticesOwn.of_pif ports.flags (by simpa using h.pif)
  obtain ⟨asksOn, asksOff⟩ := extPreloadEnd_asks a.latch own
  simp only [addEvent_frame, state] at passed asksOn asksOff
  have required {flag : Notice} (on : p.extRequired = true)
      (asks : (extPreloadEnd true a.latch (addEvent .preloadEnd a.set.force a.s)).flag .cell flag = .raised) :
      (preloadPassed p a).flag .cell flag = .raised := by rwa [preloadPassed, on]
  refine ⟨t₂, ⟨test₂, ?_, ?_, ?_, ?_, ?_, fun on att => ?_, fun on off => ?_, passed.crosshead,
    fun on parked => required on (asksOn parked)⟩⟩
  · exact (kept.trans passed.kept).stage
  · exact (kept.trans passed.kept).arrivals
  · have := (kept.trans passed.kept).room room
    omega
  · rw [passed.events, ← h.grown.arrivals]
    exact mem_logEvent (by omega)
  · exact channel.congr (by simp [state]) (by simp [count])
  · exact ((passed.attached on att).trans marked.mark).trans mark
  · exact ⟨required on (asksOff off), passed.unplaced on off⟩

/-- But from PARKED or PLACE_REQUESTED the test goes on without PLACING (R47, R113). -/
theorem PassesPreload.enters {v : State} {force : Int} (h : PassesPreload p s t b l force v t₁)
    (other : s.exc.state ≠ .placeRequested) (unparked : ¬ (p.extRequired = true ∧ s.exc.state = .parked)) :
    v.exc.state ≠ .placeRequested := by
  intro requested
  by_cases attached : p.extRequired = true ∧ s.exc.state = .attached
  · obtain ⟨active, -⟩ := h.channel.zeroes attached.1 attached.2
    simp [active] at requested
  · refine other ((h.channel.stays ?_).symm.trans requested)
    rintro ⟨required, state | state⟩
    · exact unparked ⟨required, state⟩
    · exact attached ⟨required, state⟩

/-- A good sample in PRELOAD, taken to its end: below the preload force nothing comes about, else preload ends (R113). -/
theorem ArrivalInTest.preload_left (h : ArrivalInTest s t m b range l) (ports : PortsSound s) (preload : t.phase = .preload)
    (good : GoodSample s range code) (whole : Unbroken s t.plan (netForce s range code)) (gate : s.inputs.gateOpen = false)
    (below : s.xhc.referenceValid = true → s.xhc.position < s.xhc.config.upperSoft) (first : stageAt t.plan 1 = some d)
    (room : HasRoom t) :
    ∃ u t', Machine.exec (.sampleArrival code) s = .next u ∧ u.tex.test = some t' ∧
      (preloadReached t.plan (netForce s range code) = false →
        t'.phase = .preload ∧ t'.stage = t.stage ∧ (s.exc.state ≠ .active → u.exc = s.exc) ∧ u.rlp = s.rlp) ∧
      (preloadReached t.plan (netForce s range code) = true →
        ∃ v t₁, PassesPreload t.plan s t b l (netForce s range code) v t₁ ∧ PreloadEnds d v t₁ u t' ∧
          (v.exc.state = .placeRequested → u.xhc.word = 0)) := by
  obtain ⟨t₁, quiet, preload₁, stage₁, taken⟩ := h.preloads preload good whole gate
  obtain ⟨next, -⟩ := h.exec_executive code
  obtain ⟨tag, active⟩ := h.active
  obtain ⟨latch, closing, -, -, -, force⟩ := arrivalForExecutive_fields code range l s
  obtain ⟨loop, xhc, mar, -⟩ := arrivalForExecutive_frame code range l s
  rw [← mar] at active
  rw [← xhc] at below
  rw [taken] at next
  by_cases reached : preloadReached t.plan (netForce s range code) = true
  · obtain ⟨t₂, passed⟩ := quiet.passesPreload t.plan h.basis ports room
    rw [latch, force] at passed
    obtain ⟨t₃, ends⟩ := endPreload_left first passed.test
    obtain ⟨t', left, word⟩ := ends.left (by simpa using active) (by simpa using closing) (by simpa using below)
    rw [if_pos reached] at next
    exact ⟨_, t', next, left.test, fun missed => by simp [reached] at missed,
      fun _ => ⟨_, t₂, passed, left, word⟩⟩
  · have isTest : Machine.testIsActive (arrivalForExecutive code range l s).s = true := by simp [Machine.testIsActive, active]
    obtain ⟨t', test', phase, lasts, -, exc, loopLeft, -⟩ :=
      closeOrCount_left active quiet.test (loopToCapture_goesOn isTest closing below)
    obtain ⟨-, stage, -⟩ := lasting_fields lasts
    obtain ⟨-, -, rates, -⟩ := loopToCapture_kept isTest
    rw [if_neg reached] at next
    refine ⟨_, t', next, test', fun _ => ⟨phase.trans preload₁, stage.trans stage₁,
      fun other => exc.trans (quiet.rests other), ?_⟩, fun hit => absurd hit reached⟩
    rw [loopLeft, rates, loopTakes_still quiet.test (by simp [preload₁]), loop]

end Sys2Proof.Machine

open Sys2Proof Sys2Proof.Machine

/-- Settles O22: a sample in PRELOAD by what the channel does at the end of preload (`PassesPreload`) and where the test goes from
there (`PreloadEnds`), START TEST by what an activation leaves of each block. -/
theorem startTestActivates : Obligations.StartTestActivates := by
  unfold Obligations.StartTestActivates
  refine ⟨?_, ?_⟩
  · intro s t m b range l code force d h ports preload good measured whole gate below first room
    subst measured
    obtain ⟨u, t', next, test, missed, ended⟩ := h.preload_left ports preload good whole gate below first room
    refine ⟨u, t', next, test, fun unequal short => missed ?_, fun reached => ?_⟩
    · rw [← Bool.not_eq_true, preloadReached_iff]
      omega
    obtain ⟨v, t₁, passed, ends, word⟩ := ended ((preloadReached_iff ..).2 reached)
    rw [ends.exc]
    refine ⟨ends.events passed.entry, passed.channel.basis, fun required parked => ?_, fun other unparked => ?_,
      fun required attached => ?_, fun required off => ?_, fun unrequired => ?_⟩
    · obtain ⟨requested, placement⟩ := passed.channel.places required parked
      obtain ⟨placing, still, rest⟩ := ends.places requested
      exact ⟨placing, still.trans passed.stage, requested, placement, ends.raised _ (passed.asked required parked), rest,
        word requested⟩
    · obtain ⟨running, entered, entry, loop⟩ := ends.enters (passed.enters other unparked)
      rw [passed.arrivals] at entry
      exact ⟨running, entered, entry passed.room, loop⟩
    · obtain ⟨state, count, tracker, last⟩ := passed.channel.zeroes required attached
      exact ⟨state, count, tracker, last, ends.mark.trans (passed.attached required attached)⟩
    · obtain ⟨asked, flag, marked⟩ := passed.unplaced required off
      refine ⟨passed.channel.stays ?_, ends.raised _ asked, ends.unplaced.trans flag, ends.mark.trans marked⟩
      rintro ⟨-, on⟩
      obtain off | off := off <;> simp [off] at on
    · exact ⟨passed.channel.stays (by simp [unrequired]), ends.mark.trans (passed.crosshead unrequired)⟩
  · intro r s m p form port ready clear still idle slot mounted plan length fits referenced faults free unreserved room
    have valid : planValidFor s.xhc.config s.tex.plans[m.specimen.plan] m = true := by
      rw [plan]
      cases required : p.extRequired with
      | false => simp [planValidFor, required, fits]
      | true => simp [planValidFor, fits, Option.isSome_iff_ne_none.2 (length required)]
    have allowed : startRefusal s = none := startRefusal_eq_none idle slot mounted valid referenced ready.gate
      (by rw [faults]; rfl) free (by simp [resultsClaimed, unreserved, room])
    have permits : permitted .startTest r.port = true := by rw [port]; rfl
    obtain ⟨t, tex, serial, phase, planId, own, specimen, stage, mark, arrivals⟩ :=
      activateTest_left m p (startedWith { port := .sequencer, tag := r.tag, job := .startTest } .test s)
    obtain ⟨c, cps, captured, taken, level⟩ :=
      activateTest_capture m p (startedWith { port := .sequencer, tag := r.tag, job := .startTest } .test s)
    obtain ⟨mar, xhc, exc, rsl, rlp, range, peak, tare⟩ :=
      activateTest_blocks m p (startedWith { port := .sequencer, tag := r.tag, job := .startTest } .test s)
    obtain ⟨spt, -⟩ := activateTest_fields m p (startedWith { port := .sequencer, tag := r.tag, job := .startTest } .test s)
    have level' : c.level = levelOf (128 - s.cps.full.length) := level
    have drive : (startedDrive s.xhc).position = s.xhc.position := by
      unfold startedDrive
      split <;> rfl
    exact ⟨_, t, c,
      request_answered permits form (port ▸ motionReply_startTest ready clear still allowed slot plan), mar, xhc, tex, serial,
      phase, planId, own, specimen, stage, mark, arrivals, spt, by rw [exc]; simp [newBasis, startedWith, drive], rsl, rlp,
      range, peak, tare, by rw [cps]; rfl, by rw [cps], captured.trans serial.symm, taken, level'⟩

end

section

/-! PROOF. The rate loop's set-point stays within 0..vmax × 1000 (R133, R140): every command leaves it, makes it 0, makes it the
preload rate of a plan that fits the frame, or clamps it. -/

namespace Sys2Proof.Machine

variable {s t u : State}

/-! ### The bounds, and the changes that cannot pass them -/

/-- The set-point within its bounds, and every defined plan in form: what a test to be started asks of its preload rate (R103). -/
structure LoopSound (s : State) : Prop where
  plans : ∀ i : Fin 8, ∀ p ∈ s.tex.plans[i], planForm p = true
  bounded : SetPointBounded s

/-- From `s` to `t` the set-point stays or falls to 0; plans and frame configuration stay. -/
structure LoopCalm (s t : State) : Prop where
  plans : t.tex.plans = s.tex.plans
  config : t.xhc.config = s.xhc.config
  setPoint : t.rlp.setPoint = s.rlp.setPoint ∨ t.rlp.setPoint = 0

theorem LoopCalm.rfl : LoopCalm s s :=
  ⟨Eq.refl _, Eq.refl _, .inl (Eq.refl _)⟩

theorem LoopCalm.trans (h : LoopCalm s t) (k : LoopCalm t u) : LoopCalm s u where
  plans := k.plans.trans h.plans
  config := k.config.trans h.config
  setPoint := by
    obtain kept | rests := k.setPoint
    · rw [kept]
      exact h.setPoint
    · exact .inr rests

/-- What leaves the loop's registers leaves the set-point. -/
theorem LoopCalm.of_eq (kept : t.tex.plans = s.tex.plans ∧ t.xhc.config = s.xhc.config ∧ t.rlp = s.rlp) : LoopCalm s t := by
  obtain ⟨plans, config, loop⟩ := kept
  exact ⟨plans, config, .inl (congrArg RateLoop.setPoint loop)⟩

theorem LoopCalm.ite {c : Prop} [Decidable c] (ht : LoopCalm s t) (hu : LoopCalm s u) : LoopCalm s (if c then t else u) := by
  split
  · exact ht
  · exact hu

/-- A set-point within its bounds shows that vmax is no less than 0. -/
theorem SetPointBounded.vmax_nonneg (h : SetPointBounded s) : 0 ≤ s.xhc.config.vmax := by
  obtain ⟨low, high⟩ := h
  omega

theorem SetPointBounded.of_calm (hs : SetPointBounded s) (h : LoopCalm s t) : SetPointBounded t := by
  have vmax := hs.vmax_nonneg
  obtain ⟨low, high⟩ := hs
  unfold SetPointBounded
  rw [h.config]
  obtain kept | rests := h.setPoint
  · rw [kept]
    exact ⟨low, high⟩
  · omega

theorem LoopSound.of_calm (hs : LoopSound s) (h : LoopCalm s t) : LoopSound t :=
  ⟨h.plans ▸ hs.plans, hs.bounded.of_calm h⟩

theorem LoopSound.ite {c : Prop} [Decidable c] (ht : LoopSound t) (hs : LoopSound s) : LoopSound (if c then t else s) := by
  split
  · exact ht
  · exact hs

/-- The preload rate of a plan in form that fits the frame is a set-point within its bounds (R103, R107, R133). -/
theorem setPointBounded_of_plan {p : Plan} (form : planForm p = true) (fits : planFitsFrame s.xhc.config p = true)
    (preload : s.rlp.setPoint = p.preloadRate * 1000) : SetPointBounded s := by
  simp only [planForm, planFitsFrame, Bool.and_eq_true, decide_eq_true_eq] at form fits
  have positive : 1 ≤ p.preloadRate := by grind
  obtain ⟨⟨-, fast⟩, -⟩ := fits
  unfold SetPointBounded
  omega

/-! ### Holds, releases and stage entries between arrivals (R120, R122, R133, R136) -/

theorem holdTest_calm (c : HoldCause) (s : State) : LoopCalm s (holdTest c s) := by
  refine ⟨by simp, by simp, ?_⟩
  unfold holdTest
  split
  · exact .inl rfl
  · exact .inr (by simp)

theorem leavePlacing_calm (s : State) : LoopCalm s (leavePlacing s) := by
  refine ⟨by simp, by simp, ?_⟩
  unfold leavePlacing
  split
  · exact .inl rfl
  split
  · exact .inl rfl
  split
  · exact .inr rfl
  · exact .inr rfl
  · exact .inl rfl

/-- A release makes the set-point that of the state it returns to: in PRELOAD the preload rate of the test's plan (R122, R133). -/
theorem releaseTest_loopSound (plans : PlansSound s) (hs : LoopSound s) : LoopSound (releaseTest s) := by
  by_cases held : s.isHeld = true
  · obtain ⟨x, c, ret, test, phase⟩ := (isHeld_iff s).1 held
    rw [releaseTest_held test phase]
    obtain ⟨defined, fits⟩ := plans.running x test
    cases ret with
    | preload => exact ⟨hs.plans, setPointBounded_of_plan (hs.plans _ _ defined) fits rfl⟩
    | placing | running => exact hs.of_calm ⟨rfl, rfl, .inr rfl⟩
  · have same : releaseTest s = s := by
      unfold releaseTest
      split
      · rfl
      next test =>
        split
        next phase => exact absurd ((isHeld_iff s).2 ⟨_, _, _, test, phase⟩) held
        · rfl
    rwa [same]

/-! ### Closure, words and activation (R70, R79, R94, R107, R110, R111, R128) -/

/-- A closure brings the loop to rest. -/
theorem closeTest_calm (c : Closure) (s : State) : LoopCalm s (closeTest c s) := by
  cases test : s.tex.test with
  | none =>
    rw [closeTest_of_idle c test]
    exact .rfl
  | some x =>
    obtain ⟨-, -, -, -, loop, -⟩ := closeTest_fields c test
    have config : (closeTest c s).xhc.config = s.xhc.config := by
      rw [closeTest_drive c (by simp [test])]
      split <;> simp
    exact ⟨closeTest_plans c s, config, .inr (by rw [loop]; rfl)⟩

theorem endMotion_calm (o : MotionOutcome) (s : State) : LoopCalm s (endMotion o s) :=
  .of_eq (by simp)

theorem softLimitEvent_calm (up : Bool) (s : State) : LoopCalm s (softLimitEvent up s) := by
  have stopped : LoopCalm s (sendWordValue 0 s) := .of_eq (by simp)
  unfold softLimitEvent
  split
  · exact .ite (stopped.trans (closeTest_calm _ _)) stopped
  · exact stopped
  · exact stopped.trans (endMotion_calm _ _)
  · exact stopped

theorem sendWord_calm (s : State) : LoopCalm s (sendWord s) :=
  .ite (softLimitEvent_calm _ _) (.of_eq (by simp))

/-- A test starts at the preload rate of a plan in form that fits the frame (R110, R133). -/
theorem takeStartTest_loopSound (rq : MotionRequest) (hs : LoopSound s) : LoopSound (takeStartTest rq s) := by
  unfold takeStartTest
  split
  · exact hs.of_calm (.of_eq (by simp))
  next startable =>
    split
    · exact hs
    next m slot =>
      split
      · exact hs
      next p plan =>
        obtain ⟨-, crosshead, -, -, loop, -⟩ := activateTest_blocks m p (makeActive rq .test s)
        have plans : (activateTest m p (makeActive rq .test s)).tex.plans = s.tex.plans := by simp [activateTest]
        have fits := planFits_of_startRefusal startable slot plan
        refine ⟨plans ▸ hs.plans, setPointBounded_of_plan (hs.plans _ p plan) ?_ (by rw [loop])⟩
        rw [crosshead, makeActive_config]
        exact fits

theorem takeRequest_loopSound (b : Bool) (rq : MotionRequest) (hs : LoopSound s) : LoopSound (takeRequest b rq s) := by
  have ended o r : LoopCalm s (endAtOnce b rq o r s) := .of_eq (by simp)
  unfold takeRequest
  split
  · exact hs.of_calm (ended ..)
  split
  · exact hs.of_calm (.of_eq (by simp))
  · exact hs.of_calm (.of_eq (by simp))
  · exact hs.of_calm (.ite (ended ..) (.of_eq (by simp)))
  · exact takeStartTest_loopSound _ hs
  · exact hs.of_calm (.of_eq (by simp))

theorem activationLoop_loopSound (n : Nat) (hs : LoopSound s) : LoopSound (activationLoop n s) := by
  induction n generalizing s with
  | zero => exact hs
  | succ n ih =>
    unfold activationLoop
    split
    · exact hs
    split
    · exact hs
    · exact ih (takeRequest_loopSound _ _ (hs.of_calm (.of_eq (by simp))))

theorem tryActivate_loopSound (hs : LoopSound s) : LoopSound (tryActivate s) :=
  activationLoop_loopSound _ hs

theorem activateAfterEnd_loopSound (b : State) (hs : LoopSound s) : LoopSound (activateAfterEnd b s) :=
  (tryActivate_loopSound hs).ite hs

end Sys2Proof.Machine

end

section

/-! PROOF. The set-point's bounds through the expiries, the edges, the lines and the arrivals (R24, R134, R140). -/

namespace Sys2Proof.Machine

variable {s : State} {a : Arrival}

/-! ### Expiries (R50, R56, R118) -/

theorem placementExpires_calm (s : State) : LoopCalm s (placementExpires s) := by
  refine LoopCalm.trans ?_ (leavePlacing_calm _)
  exact .of_eq (by simp)

theorem advanceTimers_calm (e : Expiry) : LoopCalm e.s (advanceTimers e).s := by
  have placement p : LoopCalm e.s (advancePlacement p e).s := by
    simp only [advancePlacement]
    split
    · exact LoopCalm.trans (.of_eq ⟨rfl, rfl, rfl⟩) (placementExpires_calm _)
    · exact .of_eq ⟨rfl, rfl, rfl⟩
  have removal p (e : Expiry) : LoopCalm e.s (advanceRemoval p e).s := by
    simp only [advanceRemoval]
    split <;> exact .of_eq (by simp)
  unfold advanceTimers
  split
  · exact (placement _).trans (removal _ _)
  · exact .rfl

theorem declareLoadFault_calm (s : State) : LoopCalm s (declareLoadFault s) :=
  LoopCalm.trans (.of_eq (by simp)) (closeTest_calm _ _)

/-- An expiry up to the activation it allows. -/
theorem expiryWorked_calm (s : State) :
    LoopCalm s (wordAtExpiry (declareAtExpiry (advanceTimers (beginExpiry s)))).s := by
  have begun : LoopCalm s (beginExpiry s).s := .of_eq (by simp [beginExpiry])
  have declares (e : Expiry) : LoopCalm e.s (declareAtExpiry e).s := by
    unfold declareAtExpiry
    split
    · exact declareLoadFault_calm _
    · exact .rfl
  have words (e : Expiry) : LoopCalm e.s (wordAtExpiry e).s := by
    unfold wordAtExpiry
    split
    · exact sendWord_calm _
    · exact .rfl
  exact ((begun.trans (advanceTimers_calm _)).trans (declares _)).trans (words _)

theorem expire_loopSound (hs : LoopSound s) : LoopSound (expire s).s :=
  activateAfterEnd_loopSound s (hs.of_calm (expiryWorked_calm s))

/-! ### Edges and lines (R67 to R83) -/

theorem workEdge_calm (d : Direction) (s : State) : LoopCalm s (workEdge d s).s := by
  have unreferenced : LoopCalm s { s with xhc := { s.xhc with referenceValid := false } } := .of_eq ⟨rfl, rfl, rfl⟩
  unfold workEdge
  split
  · exact LoopCalm.trans (.ite (unreferenced.trans (.of_eq (by simp))) unreferenced)
      ((endMotion_calm _ _).trans (closeTest_calm _ _))
  simp only []
  split
  · exact .of_eq (by simp)
  · exact .ite (LoopCalm.trans (.of_eq (by simp)) (softLimitEvent_calm _ _)) (.of_eq (by simp))

theorem edge_loopSound (d : Direction) (hs : LoopSound s) : LoopSound (edge d s).s :=
  activateAfterEnd_loopSound s (hs.of_calm (workEdge_calm d s))

theorem hardLimitOn_loopSound (side : LimitSide) (hs : LoopSound s) : LoopSound (hardLimitOn side s) := by
  have ended : LoopCalm s (enterFault .hardLimit (limitEndsMotion (driveDisable (setInputs (setLimit side true s.inputs) s)))) :=
    .of_eq (by simp)
  exact .ite hs (activateAfterEnd_loopSound s (hs.of_calm (ended.trans (closeTest_calm _ _))))

theorem gateOpens_loopSound (hs : LoopSound s) : LoopSound (gateOpens s) := by
  have ended : LoopCalm s (gateEndsMotion (setInputs { s.inputs with gateOpen := true } s)) := .of_eq (by simp)
  have sent := (ended.trans (holdTest_calm .gate _)).trans (sendWord_calm _)
  exact .ite hs (activateAfterEnd_loopSound s (hs.of_calm (sent.trans (.of_eq (by simp)))))

theorem emergencyStops_calm (s : State) : LoopCalm s (emergencyStops s) := by
  have ended : LoopCalm s (endMotionDisabled .estop (stopQueue (driveDisable (setInputs { s.inputs with estop := true } s)))) :=
    .of_eq (by simp)
  have notified u : LoopCalm u (raiseAll .estop u) := .of_eq (by simp)
  exact .ite .rfl ((ended.trans (closeTest_calm _ _)).trans (notified _))

theorem referenceSwitchOn_loopSound (hs : LoopSound s) : LoopSound (referenceSwitchOn s) :=
  .ite hs (.ite (activateAfterEnd_loopSound s (hs.of_calm (.of_eq (by simp)))) (hs.of_calm (.of_eq (by simp))))

theorem brakeReleased_loopSound (hs : LoopSound s) : LoopSound (brakeReleased s) :=
  .ite (activateAfterEnd_loopSound s (hs.of_calm (.of_eq (by simp)))) hs

/-! ### Arrivals (R24, R134, R140) -/

theorem detectFracture_calm (a : Arrival) : LoopCalm a.s (detectFracture a).s := by
  refine ⟨by simp, by simp, ?_⟩
  unfold detectFracture
  split
  · exact .inr rfl
  · exact .inl rfl

/-- A stage's entry at a sample loads mode and rate only. -/
theorem enterStage_calm (i : Nat) (d : StageDef) (a : Arrival) : LoopCalm a.s (enterStage i d a).s :=
  ⟨by simp, by simp, .inl (by simp [enterStage])⟩

theorem endPreload_calm (p : Plan) (a : Arrival) : LoopCalm a.s (endPreload p a).s := by
  refine ⟨by simp, by simp, ?_⟩
  simp only [endPreload]
  split
  · exact .inr rfl
  split
  · exact .inl (by simp [enterStage])
  · exact .inl (by simp)

theorem judgeStage_calm (t : TestContext) (a : Arrival) : LoopCalm a.s (judgeStage t a).s := by
  have ends p r d : LoopCalm a.s (takeEnd p r d a).s := by
    unfold takeEnd
    split
    · exact enterStage_calm ..
    · exact .of_eq (by simp)
  have timesOut p r d : LoopCalm a.s (takeTimeout p r d a).s := by
    have logged : LoopCalm a.s (addEvent .stageTimeout r.index a.s) := .of_eq (by simp)
    simp only [takeTimeout]
    split
    · exact .rfl
    split
    · exact logged.trans (enterStage_calm _ _ { a with s := _ })
    · exact .of_eq (by simp)
  unfold judgeStage
  split
  · exact .rfl
  split
  · exact .rfl
  split
  · exact ends ..
  split
  · exact timesOut ..
  · exact .rfl

theorem judgePhase_calm (t : TestContext) (a : Arrival) : LoopCalm a.s (judgePhase t a).s := by
  unfold judgePhase
  split
  · split
    · exact endPreload_calm ..
    · exact .rfl
  · split
    · exact .rfl
    · exact judgeStage_calm ..
  · simp only [countTail]
    split <;> exact .of_eq (by simp)
  · exact .rfl
  · exact .rfl

theorem handoverHold_calm (p : Plan) (a : Arrival) : LoopCalm a.s (handoverHold p a).s := by
  unfold handoverHold
  split
  · simp only [mapState_fields, removalHold]
    split
    · exact holdTest_calm ..
    · exact .rfl
  · exact .rfl

theorem executiveTakes_calm (a : Arrival) : LoopCalm a.s (executiveTakes a).s := by
  have fractured := detectFracture_calm a
  unfold executiveTakes
  split
  · exact .rfl
  simp only []
  split
  · exact fractured
  split
  · split <;> exact fractured
  split
  · exact fractured.trans (holdTest_calm ..)
  · exact fractured.trans ((judgePhase_calm ..).trans (handoverHold_calm ..))

theorem clampTo_zero_bounds {high : Int} (nonneg : 0 ≤ high) (x : Int) :
    0 ≤ clampTo 0 high x ∧ clampTo 0 high x ≤ high := by
  unfold clampTo
  split
  · omega
  split <;> omega

/-- A set-point the loop computes is clamped to its bounds (R140). -/
theorem loopTakes_loopSound (ha : LoopSound a.s) : LoopSound (loopTakes a).s := by
  have vmax := ha.bounded.vmax_nonneg
  refine ⟨by simpa using ha.plans, ?_⟩
  unfold loopTakes
  split
  · exact ha.bounded
  split
  · exact clampTo_zero_bounds (by simpa [loopInputs] using vmax) _
  · exact ha.bounded

theorem evaluateMove_config (x : Int) (s : State) : (evaluateMove x s).xhc.config = s.xhc.config := by
  unfold evaluateMove
  (repeat' split) <;> simp

theorem overloadEnds_config (s : State) : (overloadEnds s).xhc.config = s.xhc.config := by
  unfold overloadEnds
  split <;> simp

theorem motionTakes_calm (a : Arrival) : LoopCalm a.s (motionTakes a).s := by
  obtain ⟨tex, loop, -⟩ := motionTakes_kept a
  refine .of_eq ⟨by rw [tex], ?_, loop⟩
  unfold motionTakes
  split
  · exact overloadEnds_config a.s
  · exact evaluateMove_config _ a.s

theorem wordTakes_calm (a : Arrival) : LoopCalm a.s (wordTakes a).s := by
  have sent w : LoopCalm a.s (sendWordValue w a.s) := .of_eq (by simp)
  unfold wordTakes
  split
  · exact sent 0
  split
  · split
    · split <;> exact sent 0
    · exact softLimitEvent_calm ..
  · exact sent _

theorem closeOrCount_calm (a : Arrival) : LoopCalm a.s (closeOrCount a).s := by
  unfold closeOrCount
  split
  · exact closeTest_calm ..
  · exact .of_eq ⟨rfl, rfl, rfl⟩

theorem workArrival_loopSound (code : Int) (range : LoadRange) (l : Latch) (hs : LoopSound s) :
    LoopSound (workArrival code range l s).s := by
  have formed : LoopCalm s (arrivalForExecutive code range l s).s := .of_eq (by simp [arrivalForExecutive, beginArrival])
  have computed := loopTakes_loopSound (hs.of_calm (formed.trans (executiveTakes_calm _)))
  have worded (a : Arrival) : LoopCalm a.s (wordTakes (motionTakes a)).s := (motionTakes_calm a).trans (wordTakes_calm _)
  have captured (a : Arrival) : LoopCalm a.s (captureTakes a).s := by
    unfold captureTakes
    split
    · exact .rfl
    · exact .of_eq (by simp)
  have published (a : Arrival) : LoopCalm a.s (publish a).s := .of_eq (by simp)
  exact computed.of_calm (((worded _).trans ((published _).trans (captured _))).trans (closeOrCount_calm _))

theorem arrive_loopSound {code : Int} (hs : LoopSound s) (h : arrive code s = some a) : LoopSound a.s := by
  obtain ⟨c, _, rfl⟩ := Option.map_eq_some_iff.1 h
  have worked := workArrival_loopSound code c.1 c.2 hs
  exact .ite (tryActivate_loopSound worked) (activateAfterEnd_loopSound s worked)

theorem arrived_loopSound (code : Int) (hs : LoopSound s) : LoopSound (arrived code s) := by
  unfold arrived
  split
  next arriving => exact arrive_loopSound hs arriving
  next => exact hs

end Sys2Proof.Machine

end

section

/-! PROOF. The set-point's bounds through the requests, and so through every step (R133, R140). -/

namespace Sys2Proof.Machine

variable {s t : State}

/-! ### The requests that start, release, define or configure (R65, R85 to R99, R105, R122, R126) -/

theorem placeRequest_loopSound (rq : MotionRequest) (hs : LoopSound s) : LoopSound (placeRequest rq s) := by
  unfold placeRequest placeRetract
  split
  · split
    · exact takeRequest_loopSound _ _ (hs.of_calm (.of_eq (by simp)))
    · exact hs.of_calm (.of_eq (by simp))
  · exact hs.of_calm (.of_eq (by simp))

theorem motionReply_loopSound (p : Port) (tag : Tag) (j : MotionJob) (hs : LoopSound s) :
    LoopSound (motionReply p tag j s).state := by
  unfold motionReply
  split
  · exact hs
  split
  · exact hs
  · exact tryActivate_loopSound (placeRequest_loopSound _ (.ite (hs.of_calm (.of_eq (by simp))) hs))

theorem jogReply_loopSound (p : Port) (tag : Tag) (d : Direction) (v n : Int) (hs : LoopSound s) :
    LoopSound (jogReply p tag d v n s).state := by
  have refreshed : LoopCalm s (setJob (.jog d (min v s.xhc.config.jogLimit) n) s) := .of_eq (by simp)
  have timed (u : State) : LoopCalm u { u with xhc := { u.xhc with jogTimer := some n } } := .of_eq ⟨rfl, rfl, rfl⟩
  unfold jogReply
  split
  · exact hs
  split
  · exact .ite (activateAfterEnd_loopSound s (hs.of_calm (refreshed.trans (endMotion_calm _ _))))
      (hs.of_calm (.ite (refreshed.trans ((timed _).trans (sendWord_calm _))) refreshed))
  · exact motionReply_loopSound _ _ _ hs

theorem releaseFrameReply_loopSound (p : Port) (hs : LoopSound s) : LoopSound (releaseFrameReply p s).state := by
  unfold releaseFrameReply passClaim
  split
  · split
    · exact hs
    split
    · exact hs
    · dsimp only [Reply.plain_state]
      split
      · exact tryActivate_loopSound (hs.of_calm (.of_eq (by simp)))
      · exact hs.of_calm (.of_eq (by simp))
  split
  · exact hs.of_calm (.of_eq (by simp))
  · exact hs

theorem stopMotionReply_loopSound (p : Port) (hs : LoopSound s) : LoopSound (stopMotionReply p s).state := by
  unfold stopMotionReply
  split
  · exact hs.of_calm (.of_eq (by simp))
  · split
    · exact hs
    · exact activateAfterEnd_loopSound s (hs.of_calm (endMotion_calm _ _))
  · exact hs

theorem abortTestReply_loopSound (hs : LoopSound s) : LoopSound (abortTestReply s).state := by
  unfold abortTestReply
  split
  · exact hs
  · exact activateAfterEnd_loopSound s (hs.of_calm (closeTest_calm _ _))
  · exact activateAfterEnd_loopSound s (hs.of_calm (closeTest_calm _ _))

theorem resumeTestReply_loopSound (plans : PlansSound s) (hs : LoopSound s) : LoopSound (resumeTestReply s).state := by
  unfold resumeTestReply
  split
  · exact hs
  split
  · exact hs
  · exact releaseTest_loopSound plans hs

/-- A confirmed removal releases a test held for it (R57, R122). -/
theorem extensometerRemovedReply_loopSound (plans : PlansSound s) (hs : LoopSound s) :
    LoopSound (extensometerRemovedReply s).state := by
  have confirmed : LoopSound (confirmRemoval s) := by
    have parked : LoopSound (setExtState .parked (stopRemoval s)) := hs.of_calm (.of_eq (by simp))
    unfold confirmRemoval
    simp only []
    split
    · exact releaseTest_loopSound (plans.of_eq (by simp)) parked
    · exact parked
  unfold extensometerRemovedReply
  split
  · exact confirmed
  · exact confirmed
  · exact hs.of_calm (.of_eq (by simp))
  · exact hs.of_calm (.of_eq (by simp))
  · exact hs
  · exact hs

theorem definePlanReply_loopSound (x : Int) (g : PlanUpdate) (l : List StageDef) (plans : PlansSound s) (hs : LoopSound s) :
    LoopSound (definePlanReply x g l s).state := by
  refine ⟨(definePlanReply_plansSound x g l plans).defined, ?_⟩
  unfold definePlanReply
  (repeat' split) <;> exact hs.bounded

/-- CONFIGURE FRAME leaves the state, or sets a configuration while no motion is active (R65). -/
theorem configureFrameReply_cases (v : FrameUpdate) (s : State) :
    (configureFrameReply v s).state = s ∨
      s.mar.active = none ∧ ∃ c, (configureFrameReply v s).state = setConfig c s := by
  simp only [configureFrameReply]
  split
  · exact .inl rfl
  split
  · exact .inl rfl
  split
  · exact .inl rfl
  split
  · exact .inl rfl
  next still =>
    split
    · exact .inl rfl
    · exact .inr ⟨by simpa using still, _, rfl⟩

/-- The configuration changes outside a test only, where the set-point is 0, and keeps vmax in its range (R64, R65). -/
theorem configureFrameReply_loopSound (v : FrameUpdate) (one : OneTest s) (config : ConfigSound s) (hs : LoopSound s) :
    LoopSound (configureFrameReply v s).state := by
  have sound := (configureFrameReply_motion v s).configSound config
  obtain same | ⟨still, c, configured⟩ := configureFrameReply_cases v s
  · rwa [same]
  · rw [configured] at sound ⊢
    have idle : s.tex.test = none := by simpa [testIsActive, still] using one.active.symm
    have rests : (setConfig c s).rlp.setPoint = 0 := congrArg RateLoop.setPoint (one.loop idle)
    obtain ⟨jog, -, vmax⟩ := sound.jogLimit
    refine ⟨hs.plans, ?_⟩
    unfold SetPointBounded
    omega

/-! ### The requests that leave the set-point or make it 0 (R49, R119, R121) -/

theorem setPort_calm (p : Port) (v : PortState) (s : State) : LoopCalm s (s.setPort p v) :=
  .of_eq (by simp)

theorem holdTestReply_calm (s : State) : LoopCalm s (holdTestReply s).state := by
  unfold holdTestReply
  split
  · exact holdTest_calm ..
  · exact .rfl

/-- The rate adjusted takes effect at the next sample only (R143). -/
theorem adjustRateReply_calm (whole : Bool) (rate : Int) (s : State) : LoopCalm s (adjustRateReply whole rate s).state := by
  have adjusted : LoopCalm s (adjustRate rate s) := ⟨by simp, by simp, .inl (by simp [adjustRate])⟩
  unfold adjustRateReply
  split
  · exact .rfl
  split
  · exact .rfl
  split
  · exact adjusted
  · exact .rfl

theorem extensometerPlacedReply_calm (s : State) : LoopCalm s (extensometerPlacedReply s).state := by
  have zeroed : LoopCalm s (beginActive (zeroAtRequest (stopPlacement s))) := .of_eq (by simp)
  have attached e : LoopCalm s (setExtState e s) := .of_eq (by simp)
  unfold extensometerPlacedReply
  split
  · split
    · exact zeroed.trans (leavePlacing_calm _)
    split
    · exact attached _
    · exact .rfl
  · split
    · exact attached _
    · exact .rfl
  all_goals exact .rfl

/-! ### Every command and every step -/

/-- The commands that can do more to the loop than leave the set-point or make it 0: those after which a test may start or go on,
the samples, and those that change the plans or the configuration. -/
def drivesLoop : Instr → Bool
  | .referenceSearch _ | .startTest _ | .moveTo _ _ _ | .jog _ _ _ _ | .retract _ | .releaseFrame _ | .stopMotion _ => true
  | .abortTest _ | .resumeTest _ | .extensometerRemoved _ | .definePlan _ _ _ _ | .configureFrame _ _ => true
  | .powerOnReset | .warmReset | .sampleTimerExpiry | .loadFaultDeclaration | .placementTimeout | .removalTimeout => true
  | .sampleArrival _ | .stageTimeout _ | .endOfTail _ | .brakeReleaseExpiry | .jogDurationExpiry | .activation => true
  | .encoderEdge _ | .searchTravelLimit _ | .referenceSwitchEvent | .hardLimitSwitchEvent _ | .gateOpening => true
  | _ => false

theorem request_calm {k : RequestKind} {r : Req} {body : State → Reply} (hbody : LoopCalm s (body s).state)
    (h : request k r s body = .next t) : LoopCalm s t :=
  request_keeps (fun _ _ _ hu => hu.trans (setPort_calm ..)) (fun _ => hbody) .rfl h

theorem next_calm {u : State} (h : (.next u : Result) = .next t) (hu : LoopCalm s u) : LoopCalm s t := by
  cases h
  exact hu

theorem exec_calm {i : Instr} (hi : drivesLoop i = false) (h : exec i s = .next t) : LoopCalm s t := by
  cases i with
  | readStatus r => exact request_calm .rfl h
  | readLive r => exact request_calm .rfl h
  | readFlags r => exact request_calm (setPort_calm ..) h
  | ackFlags r w => exact request_calm (.of_eq (by unfold ackFlagsReply; split <;> simp)) h
  | setNotices r w b => exact request_calm (.of_eq (by unfold setNoticesReply; (repeat' split) <;> simp)) h
  | readQueue r => exact request_calm .rfl h
  | nop r => exact request_calm .rfl h
  | setRange r x => exact request_calm (.of_eq (by unfold setRangeReply; (repeat' split) <;> simp)) h
  | tare r => exact request_calm (.of_eq (by unfold tareReply; (repeat' split) <;> simp)) h
  | clearFaults r => exact request_calm (.of_eq ⟨rfl, rfl, rfl⟩) h
  | readPlan r x => exact request_calm (.of_eq (by unfold readPlanReply; (repeat' split) <;> simp)) h
  | holdTest r => exact request_calm (holdTestReply_calm s) h
  | adjustRate r x => exact request_calm (adjustRateReply_calm ..) h
  | claimFrame r => exact request_calm (.of_eq (by unfold claimFrameReply; (repeat' split) <;> simp)) h
  | collectCompletion r => exact request_calm (.of_eq (by unfold collectCompletionReply; split <;> simp [emptySlot])) h
  | specimenMounted r x w t d => exact request_calm (.of_eq (by unfold specimenMountedReply; (repeat' split) <;> simp)) h
  | specimenUnmounted r => exact request_calm (.of_eq (by unfold specimenUnmountedReply; (repeat' split) <;> simp)) h
  | extensometerPlaced r => exact request_calm (extensometerPlacedReply_calm s) h
  | enqueueSpecimen r x => exact request_calm (.of_eq (by unfold enqueueSpecimenReply; (repeat' split) <;> simp)) h
  | cancelSpecimen r x => exact request_calm (.of_eq (by unfold cancelSpecimenReply; (repeat' split) <;> simp)) h
  | setGradeLimits r g l => exact request_calm (.of_eq (by unfold setGradeLimitsReply; (repeat' split) <;> simp)) h
  | readGradeLimits r g => exact request_calm (.of_eq (by unfold readGradeLimitsReply; (repeat' split) <;> simp)) h
  | collectResult r => exact request_calm (.of_eq (by unfold collectResultReply; split <;> simp)) h
  | peekResult r => exact request_calm (.of_eq (by unfold peekResultReply; split <;> simp)) h
  | readPage r => exact request_calm (.of_eq (by unfold readPageReply; split <;> simp)) h
  | writeSiteCalibration r x n l =>
    exact request_calm (.of_eq (by unfold writeSiteCalibrationReply; (repeat' split) <;> simp)) h
  | readCalibration r => exact request_calm .rfl h
  | unknownRequest p tag k => exact next_calm h (setPort_calm ..)
  | writeNotTaken p b => exact next_calm h (.ite (setPort_calm ..) .rfl)
  | readTransaction p n => exact next_calm h (setPort_calm ..)
  | conversionEndStrobe =>
    simp only [exec, execConversionEndStrobe] at h
    split at h <;> exact next_calm h (.of_eq ⟨rfl, rfl, rfl⟩)
  | holdTimerExpiry => exact next_calm h (.ite (.of_eq ⟨rfl, rfl, rfl⟩) .rfl)
  | extQuadratureEdge d => exact next_calm h (.of_eq ⟨rfl, rfl, rfl⟩)
  | referenceSwitchRelease => exact next_calm h (.ite (.ite (.of_eq (by simp)) (.of_eq (by simp))) .rfl)
  | hardLimitSwitchRelease side => exact next_calm h (.of_eq ⟨rfl, rfl, rfl⟩)
  | gateClosing => exact next_calm h (.ite (.of_eq (by simp)) .rfl)
  | emergencyStopAssertion => exact next_calm h (emergencyStops_calm s)
  | emergencyStopRelease => exact next_calm h (.of_eq ⟨rfl, rfl, rfl⟩)
  | calProgrammingCompletion l => exact next_calm h (.of_eq (by unfold completeProgramming; split <;> simp))
  | _ => cases hi

theorem request_loopSound {k : RequestKind} {r : Req} {body : State → Reply} (hs : LoopSound s)
    (hbody : LoopSound (body s).state) (h : request k r s body = .next t) : LoopSound t :=
  request_keeps (fun _ _ _ hu => hu.of_calm (setPort_calm ..)) (fun _ => hbody) hs h

theorem next_loopSound {u : State} (h : (.next u : Result) = .next t) (hu : LoopSound u) : LoopSound t := by
  cases h
  exact hu

theorem exec_loopSound {i : Instr} (one : OneTest s) (config : ConfigSound s) (plans : PlansSound s) (hs : LoopSound s)
    (h : exec i s = .next t) : LoopSound t := by
  cases i with
  | configureFrame r v => exact request_loopSound hs (configureFrameReply_loopSound v one config hs) h
  | definePlan r x g l => exact request_loopSound hs (definePlanReply_loopSound x g l plans hs) h
  | referenceSearch r => exact request_loopSound hs (motionReply_loopSound _ _ _ hs) h
  | startTest r => exact request_loopSound hs (motionReply_loopSound _ _ _ hs) h
  | moveTo r x v => exact request_loopSound hs (motionReply_loopSound _ _ _ hs) h
  | jog r d v n => exact request_loopSound hs (jogReply_loopSound _ _ _ _ _ hs) h
  | retract r => exact request_loopSound hs (motionReply_loopSound _ _ _ hs) h
  | releaseFrame r => exact request_loopSound hs (releaseFrameReply_loopSound _ hs) h
  | stopMotion r => exact request_loopSound hs (stopMotionReply_loopSound _ hs) h
  | abortTest r => exact request_loopSound hs (abortTestReply_loopSound hs) h
  | resumeTest r => exact request_loopSound hs (resumeTestReply_loopSound plans hs) h
  | extensometerRemoved r => exact request_loopSound hs (extensometerRemovedReply_loopSound plans hs) h
  | powerOnReset => exact next_loopSound h ⟨reset_plansSound.defined, reset_setPointBounded⟩
  | warmReset => exact next_loopSound h (hs.of_calm ⟨rfl, rfl, .inr rfl⟩)
  | sampleTimerExpiry => exact next_loopSound h (expire_loopSound hs)
  | loadFaultDeclaration => exact next_loopSound h (.ite (expire_loopSound hs) hs)
  | placementTimeout => exact next_loopSound h (.ite (expire_loopSound hs) hs)
  | removalTimeout => exact next_loopSound h (.ite (expire_loopSound hs) hs)
  | sampleArrival code => exact next_loopSound h (arrived_loopSound code hs)
  | stageTimeout code =>
    simp only [exec, execStageTimeout] at h
    split at h
    next arriving => exact next_loopSound h (.ite (arrive_loopSound hs arriving) hs)
    next => exact next_loopSound h hs
  | endOfTail code =>
    simp only [exec, execEndOfTail] at h
    split at h
    next arriving => exact next_loopSound h (.ite (arrive_loopSound hs arriving) hs)
    next => exact next_loopSound h hs
  | brakeReleaseExpiry => exact next_loopSound h (brakeReleased_loopSound hs)
  | jogDurationExpiry =>
    exact next_loopSound h (.ite (activateAfterEnd_loopSound s (hs.of_calm (endMotion_calm _ _))) hs)
  | activation => exact next_loopSound h (tryActivate_loopSound hs)
  | encoderEdge d => exact next_loopSound h (edge_loopSound d hs)
  | searchTravelLimit d => exact next_loopSound h (.ite (edge_loopSound d hs) hs)
  | referenceSwitchEvent => exact next_loopSound h (referenceSwitchOn_loopSound hs)
  | hardLimitSwitchEvent side => exact next_loopSound h (hardLimitOn_loopSound side hs)
  | gateOpening => exact next_loopSound h (gateOpens_loopSound hs)
  | _ => exact hs.of_calm (exec_calm rfl h)

end Sys2Proof.Machine

open Sys2Proof Sys2Proof.Machine

/-- Settles O55: a step leaves the set-point or makes it 0 (`LoopCalm`), clamps what the loop computes (`loopTakes_loopSound`), or
takes the preload rate of a plan in form that fits the frame (`takeStartTest_loopSound`, `releaseTest_loopSound`); the configuration
changes only while the set-point is 0 (`configureFrameReply_loopSound`). -/
theorem setPointKeptByEveryStep : Obligations.SetPointKeptByEveryStep := by
  unfold Obligations.SetPointKeptByEveryStep
  intro s t one config plans bounded h
  unfold step at h
  split at h
  next =>
    cases h
    exact bounded
  next i rest _ =>
    have sound : LoopSound (s.withPending rest) := ⟨plans.defined, bounded⟩
    have one : OneTest (s.withPending rest) := one.of_queue rfl rfl rfl rfl rfl rfl
    exact (exec_loopSound one (config.of_eq rfl rfl) (plans.of_eq (by simp)) sound h).bounded

end

section

/-! PROOF. The result evaluator on an evaluated sample: fit, search, tracker and their entries (R150 to R163). -/

namespace Sys2Proof.Machine

variable {p : Plan} {x : SamplePoint} {v : Evaluation} {f : ModulusFit} {y : YieldTracker}

/-! ### The modulus fit (R150 to R155) -/

theorem takeIntoFit_inside (source : x.source = .ext) (low : p.fitLow ≤ x.stress) (high : x.stress ≤ p.fitHigh) :
    takeIntoFit p x f =
      { f with
        n := f.n + 1, sumX := f.sumX + x.strain, sumY := f.sumY + x.stress, sumXX := f.sumXX + x.strain * x.strain,
        sumXY := f.sumXY + x.strain * x.stress } := by
  simp [takeIntoFit, source, low, high]

theorem takeIntoFit_below (low : x.stress < p.fitLow) : takeIntoFit p x f = f := by
  simp [takeIntoFit, Int.not_le.2 low]

theorem takeIntoFit_other (source : x.source ≠ .ext) : takeIntoFit p x f = f := by
  simp [takeIntoFit, source]

theorem fitIsValid_iff (f : ModulusFit) :
    fitIsValid f = true ↔ 8 ≤ f.n ∧ 0 < fitDen f ∧ 20000 ≤ fitE f ∧ fitE f ≤ 400000 := by
  simp [fitIsValid, within, and_assoc]

theorem closeFit_valid (valid : fitIsValid v.fit = true) :
    closeFit .stress v =
      { v with
        fit := { v.fit with state := .valid, e := some (fitE v.fit), eps0 := some (fitEps0 v.fit (fitE v.fit)) }
        search := { v.search with state := .searching, previous := none } } := by
  simp [closeFit, valid]

theorem closeFit_invalid (why : FitClosing) (invalid : ¬ fitIsValid v.fit = true) :
    closeFit why v =
      { v with
        fit := { v.fit with state := .invalid, e := none, eps0 := none }, fitInvalid := true
        search := { v.search with state := .notRun } } := by
  simp [closeFit, invalid]

section
variable (p x v)

theorem fitSample_above (unopened : v.fit.state = .notStarted) (above : p.fitHigh < x.stress) :
    fitSample p x v = closeUnfitted v := by
  simp [fitSample, unopened, above]

theorem fitSample_waits (unopened : v.fit.state = .notStarted) (high : x.stress ≤ p.fitHigh) (source : x.source ≠ .ext) :
    fitSample p x v = v := by
  simp [fitSample, unopened, Int.not_lt.2 high, source]

theorem fitSample_takes (unclosed : v.fit.state = .notStarted ∨ v.fit.state = .opened) (source : x.source = .ext)
    (high : x.stress ≤ p.fitHigh) :
    fitSample p x v = { v with fit := takeIntoFit p x { v.fit with state := .opened } } := by
  obtain unopened | opened := unclosed
  · simp [fitSample, unopened, Int.not_lt.2 high, source]
  · have same : { v.fit with state := .opened } = v.fit := by rw [← opened]
    simp [fitSample, opened, Int.not_lt.2 high, same]

theorem fitSample_passes (opened : v.fit.state = .opened) (high : x.stress ≤ p.fitHigh) (source : x.source ≠ .ext) :
    fitSample p x v = v := by
  simp [fitSample, opened, Int.not_lt.2 high, takeIntoFit_other source]

theorem fitSample_closes (opened : v.fit.state = .opened) (above : p.fitHigh < x.stress) :
    fitSample p x v = closeFit .stress v := by
  simp [fitSample, opened, above]

theorem fitSample_final (started : v.fit.state ≠ .notStarted) (closed : v.fit.state ≠ .opened) : fitSample p x v = v := by
  unfold fitSample
  split
  next state => exact absurd state started
  next state => exact absurd state closed
  all_goals rfl

theorem closeFit_frame (why : FitClosing) :
    (closeFit why v).saturated = v.saturated ∧ (closeFit why v).lastValid = v.lastValid ∧
      (closeFit why v).tracker = v.tracker ∧ (closeFit why v).search.state ≠ .found := by
  cases why <;> by_cases valid : fitIsValid v.fit = true <;> simp [closeFit, valid]

/-- The fit leaves all but itself and the search, which it never makes FOUND (R155). -/
theorem fitSample_frame :
    (fitSample p x v).saturated = v.saturated ∧ (fitSample p x v).lastValid = v.lastValid ∧
      (fitSample p x v).tracker = v.tracker ∧
      ((fitSample p x v).search.state = .found → v.search.state = .found) := by
  obtain ⟨saturated, lastValid, tracker, unfound⟩ := closeFit_frame v .stress
  unfold fitSample
  (repeat' split) <;> simp [closeUnfitted, saturated, lastValid, tracker, unfound]

end

/-! ### The offset-yield search (R155 to R157) -/

section
variable (p x v)

theorem searchSample_frame :
    (searchSample p x v).fit = v.fit ∧ (searchSample p x v).fitInvalid = v.fitInvalid ∧
      (searchSample p x v).saturated = v.saturated ∧ (searchSample p x v).lastValid = v.lastValid ∧
      (searchSample p x v).tracker = v.tracker := by
  unfold searchSample
  (repeat' split) <;> simp

theorem searchSample_still (still : v.search.state ≠ .searching ∨ x.source ≠ .ext) : searchSample p x v = v := by
  obtain state | source := still <;> simp [searchSample, *]

/-- A sample above the offset line becomes the previous searched one (R156). -/
theorem searchSample_above (state : v.search.state = .searching) (source : x.source = .ext)
    (above : 0 < offsetDistance p v.fit x) :
    searchSample p x v =
      { v with search := { v.search with previous := some (x.stress, offsetDistance p v.fit x) } } := by
  simp [searchSample, state, source, above]

/-- A sample on the offset line or beyond it finds Rp (R157). -/
theorem searchSample_finds (state : v.search.state = .searching) (source : x.source = .ext)
    (beyond : offsetDistance p v.fit x ≤ 0) :
    searchSample p x v =
      { v with search := { v.search with
        state := .found, rp := some (rpExact v.search.previous x.stress (offsetDistance p v.fit x)) } } := by
  simp [searchSample, state, source, Int.not_lt.2 beyond]

end

/-! ### The yield tracker (R160 to R163) -/

theorem yieldDrops_iff :
    yieldDrops p x y = true ↔
      x.strain < p.yieldLimit ∧ ∃ m, y.sigmaMax = some m ∧ 0 < m ∧ x.stress * 1000 < m * (1000 - p.yieldDrop) := by
  cases sigmaMax : y.sigmaMax <;> simp [yieldDrops, sigmaMax, and_assoc, and_left_comm]

section
variable {found : Bool}

theorem trackSample_limit (rising : y.state = .rising) (limit : p.yieldLimit ≤ x.strain) :
    trackSample p found x y = ({ y with state := .ended }, [(.yieldEnd, 0)]) := by
  simp [trackSample, rising, limit]

theorem trackSample_drops (rising : y.state = .rising) (drops : yieldDrops p x y = true) :
    trackSample p found x y =
      ({ y with state := .inPhase, reH := y.sigmaMax, reL := some x.stress }, [(.yieldDrop, y.sigmaMax.getD 0)]) := by
  have below := Int.not_le.2 (yieldDrops_iff.1 drops).1
  simp [trackSample, rising, below, drops]

theorem trackSample_found (rising : y.state = .rising) (below : x.strain < p.yieldLimit) (holds : ¬ yieldDrops p x y = true) :
    trackSample p true x y = ({ y with state := .ended }, [(.yieldEnd, 0)]) := by
  simp [trackSample, rising, Int.not_le.2 below, holds]

theorem trackSample_rises (rising : y.state = .rising) (below : x.strain < p.yieldLimit) (holds : ¬ yieldDrops p x y = true) :
    trackSample p false x y =
      ({ y with sigmaMax := some (match y.sigmaMax with | none => x.stress | some m => max m x.stress) }, []) := by
  cases sigmaMax : y.sigmaMax with
  | none => simp [trackSample, rising, Int.not_le.2 below, holds, sigmaMax]
  | some m =>
    by_cases above : m < x.stress
    · simp [trackSample, rising, Int.not_le.2 below, holds, sigmaMax, above, Int.max_eq_right (Int.le_of_lt above)]
    · have same : { y with state := .rising, sigmaMax := some m } = y := by rw [← rising, ← sigmaMax]
      simp [trackSample, rising, Int.not_le.2 below, holds, sigmaMax, above, Int.max_eq_left (Int.not_lt.1 above), same]

theorem trackSample_leaves (phase : y.state = .inPhase) (ends : y.reH.getD 0 < x.stress ∨ p.yieldLimit ≤ x.strain) :
    trackSample p found x y = ({ y with state := .ended }, [(.yieldEnd, y.reL.getD 0)]) := by
  simp [trackSample, phase, ends]

theorem trackSample_stays {low : Int} (phase : y.state = .inPhase) (reL : y.reL = some low)
    (stays : ¬ (y.reH.getD 0 < x.stress ∨ p.yieldLimit ≤ x.strain)) :
    trackSample p found x y = ({ y with reL := some (min low x.stress) }, []) := by
  by_cases lower : x.stress < low
  · simp [trackSample, phase, stays, reL, lower, Int.min_eq_right (Int.le_of_lt lower)]
  · have same : { y with state := .inPhase, reL := some low } = y := by rw [← phase, ← reL]
    simp [trackSample, phase, stays, reL, lower, Int.min_eq_left (Int.not_lt.1 lower), same]

theorem trackSample_ended (ended : y.state = .ended) : trackSample p found x y = (y, []) := by
  simp [trackSample, ended]

theorem trackSample_evaluates (p : Plan) (found : Bool) (x : SamplePoint) (y : YieldTracker) :
    TrackerEvaluates p (found = true) x y (trackSample p found x y).1 where
  limit rising limit := by rw [trackSample_limit rising limit]
  drop rising below m sigmaMax above drops := by
    rw [trackSample_drops rising (yieldDrops_iff.2 ⟨below, m, sigmaMax, above, drops⟩), sigmaMax]
  noDrop rising below holds := by
    have still : ¬ yieldDrops p x y = true := by
      rw [yieldDrops_iff]
      rintro ⟨-, m, sigmaMax, above, drops⟩
      have := holds m sigmaMax
      omega
    refine ⟨?_, fun unfound => ?_⟩
    · rintro rfl
      rw [trackSample_found rising below still]
    · obtain rfl := Bool.not_eq_true _ ▸ unfound
      exact congrArg Prod.fst (trackSample_rises rising below still)
  ends phase h reH ends := by rw [trackSample_leaves phase (by simpa [reH] using ends)]
  phase phase h low reH reL under below := by
    rw [trackSample_stays phase reL (by simp [reH]; omega)]
  ended ended := by rw [trackSample_ended ended]

/-- The tracker's entries: its yield drop with ReH, and its end, out of a yield phase with ReL (R161 to R163). -/
theorem trackSample_entries (p : Plan) (found : Bool) (x : SamplePoint) (y : YieldTracker) :
    (y.state = .rising → (trackSample p found x y).1.state = .inPhase → ∀ h, (trackSample p found x y).1.reH = some h →
      (.yieldDrop, h) ∈ (trackSample p found x y).2) ∧
    (y.state = .rising → (trackSample p found x y).1.state = .ended → (.yieldEnd, 0) ∈ (trackSample p found x y).2) ∧
    (y.state = .inPhase → (trackSample p found x y).1.state = .ended → ∀ h, (trackSample p found x y).1.reL = some h →
      (.yieldEnd, h) ∈ (trackSample p found x y).2) := by
  cases state : y.state with
  | rising =>
    by_cases limit : p.yieldLimit ≤ x.strain
    · simp [trackSample_limit state limit]
    by_cases drops : yieldDrops p x y = true
    · simp +contextual [trackSample_drops state drops]
    cases found with
    | true => simp [trackSample_found state (Int.not_le.1 limit) drops]
    | false => simp [trackSample_rises state (Int.not_le.1 limit) drops, state]
  | inPhase =>
    by_cases ends : y.reH.getD 0 < x.stress ∨ p.yieldLimit ≤ x.strain
    · simp +contextual [trackSample_leaves state ends]
    · simp [trackSample, state, ends, apply_ite YieldTracker.state]
  | ended => simp

end

/-! ### The evaluated sample (R147, R155, R159, R160) -/

section
variable (p x v)

theorem evaluateSample_frame :
    (evaluateSample p x v).1.fit = (fitSample p x v).fit ∧
      (evaluateSample p x v).1.fitInvalid = (fitSample p x v).fitInvalid ∧
      (evaluateSample p x v).1.saturated = v.saturated ∧ (evaluateSample p x v).1.lastValid = v.lastValid := by
  obtain ⟨saturated, lastValid, -⟩ := fitSample_frame p x v
  obtain ⟨fit, fitInvalid, saturated', lastValid', -⟩ := searchSample_frame p x (fitSample p x v)
  simp only [evaluateSample]
  split <;> simp [*]

/-- The search takes a sample when it was SEARCHING before it (R155). -/
theorem evaluateSample_search :
    (evaluateSample p x v).1.search =
      if v.search.state = .searching then (searchSample p x (fitSample p x v)).search else (fitSample p x v).search := by
  simp only [evaluateSample]
  split <;> rfl

theorem becameFound_evaluateSample :
    becameFound v (evaluateSample p x v).1 = true ↔
      v.search.state = .searching ∧ (evaluateSample p x v).1.search.state = .found := by
  by_cases state : v.search.state = .searching
  · simp [becameFound, state]
  · have unfound := (fitSample_frame p x v).2.2.2
    have search := evaluateSample_search p x v
    rw [if_neg state] at search
    simp only [becameFound, search, state, false_and, iff_false]
    simpa using mt unfound

theorem evaluateSample_tracked :
    (evaluateSample p x v).1.tracker = (trackSample p (becameFound v (evaluateSample p x v).1) x v.tracker).1 ∧
      (trackSample p (becameFound v (evaluateSample p x v).1) x v.tracker).2 ⊆ (evaluateSample p x v).2 := by
  have fitted := (fitSample_frame p x v).2.2.1
  have searched := (searchSample_frame p x (fitSample p x v)).2.2.2.2
  simp only [evaluateSample]
  split <;> simp [searched, fitted, becameFound]

theorem evaluateSample_rpFound {q : ExactRatio} (before : v.search.state = .searching)
    (after : (evaluateSample p x v).1.search.state = .found) (rp : (evaluateSample p x v).1.search.rp = some q) :
    (.rpFound, reportedRp p q) ∈ (evaluateSample p x v).2 := by
  have other : (SearchState.searching != SearchState.found) = true := rfl
  simp only [evaluateSample, before, if_true] at after rp ⊢
  simp [becameFound, before, after, rp, other]

/-- The entries an evaluated sample makes for the tracker (R161 to R163). -/
theorem evaluateSample_trackerEntries :
    (v.tracker.state = .rising → (evaluateSample p x v).1.tracker.state = .inPhase →
      ∀ h, (evaluateSample p x v).1.tracker.reH = some h → (.yieldDrop, h) ∈ (evaluateSample p x v).2) ∧
    (v.tracker.state = .rising → (evaluateSample p x v).1.tracker.state = .ended →
      (.yieldEnd, 0) ∈ (evaluateSample p x v).2) ∧
    (v.tracker.state = .inPhase → (evaluateSample p x v).1.tracker.state = .ended →
      ∀ h, (evaluateSample p x v).1.tracker.reL = some h → (.yieldEnd, h) ∈ (evaluateSample p x v).2) := by
  obtain ⟨tracked, logged⟩ := evaluateSample_tracked p x v
  obtain ⟨drops, ends, leaves⟩ := trackSample_entries p (becameFound v (evaluateSample p x v).1) x v.tracker
  rw [tracked]
  exact ⟨fun rising falls h reH => logged (drops rising falls h reH), fun rising ended => logged (ends rising ended),
    fun phase ended h reL => logged (leaves phase ended h reL)⟩

/-- The sample as the fit takes it (R150 to R155). -/
theorem evaluateSample_fits : FitEvaluates p x v (evaluateSample p x v).1 := by
  obtain ⟨fit, fitInvalid, -⟩ := evaluateSample_frame p x v
  have search := evaluateSample_search p x v
  refine {
    unopened := fun unopened above => ?_
    waiting := fun unopened high source => by rw [fit, fitSample_waits p x v unopened high source]
    admitted := fun unclosed source low high => by
      rw [fit, fitSample_takes p x v unclosed source high, takeIntoFit_inside source low high]
    outside := fun unclosed source low high => by
      rw [fit, fitSample_takes p x v unclosed source high, takeIntoFit_below low]
    other := fun opened source high => by rw [fit, fitSample_passes p x v opened high source]
    closed := ?_
    final := fun started closed => by rw [fit, fitSample_final p x v started closed] }
  · have still : searchSample p x (closeUnfitted v) = closeUnfitted v := searchSample_still p x _ (.inl (by simp [closeUnfitted]))
    rw [fitSample_above p x v unopened above] at fit fitInvalid search
    rw [still, ite_self] at search
    exact ⟨fit, search, fitInvalid⟩
  · rintro opened waiting above num den e rfl rfl rfl
    rw [if_neg (by simp [waiting])] at search
    rw [fitSample_closes p x v opened above] at fit fitInvalid search
    have valid := fitIsValid_iff v.fit
    refine ⟨fun closes => ?_, fun fails => ?_⟩
    · rw [closeFit_valid (valid.2 closes)] at fit search
      exact ⟨fit, by rw [search], by rw [search]⟩
    · rw [closeFit_invalid _ (mt valid.1 fails)] at fit fitInvalid search
      exact ⟨fit, fitInvalid, by rw [search]⟩

/-- The sample as the search takes it, once the fit has closed VALID (R155 to R157). -/
theorem evaluateSample_searches : SearchEvaluates p x v (evaluateSample p x v).1 := by
  have search (closed : v.fit.state = .valid) (state : v.search.state = .searching) :
      (evaluateSample p x v).1.search = (searchSample p x v).search := by
    rw [evaluateSample_search, if_pos state, fitSample_final p x v (by simp [closed]) (by simp [closed])]
  refine { searched := fun closed state source e eps0 d slope origin distance => ?_
           other := fun closed state source => by rw [search closed state, searchSample_still p x v (.inr source)] }
  have measured : offsetDistance p v.fit x = d := by simp [offsetDistance, slope, origin, distance]
  rw [search closed state, ← measured]
  refine ⟨fun above => by rw [searchSample_above p x v state source above], fun beyond => ?_⟩
  rw [searchSample_finds p x v state source beyond]
  exact ⟨rfl, by cases v.search.previous <;> rfl⟩

/-- The sample as the tracker takes it (R160 to R163). -/
theorem evaluateSample_tracks :
    TrackerEvaluates p (v.search.state = .searching ∧ (evaluateSample p x v).1.search.state = .found) x v.tracker
      (evaluateSample p x v).1.tracker := by
  rw [← propext (becameFound_evaluateSample p x v), (evaluateSample_tracked p x v).1]
  exact trackSample_evaluates ..

end

end Sys2Proof.Machine
end

section

/-! PROOF. The results in progress through a sample arrival (R147 to R149), and O30. -/

namespace Sys2Proof.Machine

variable {s u : State} {a : Arrival} {t t₁ t' : TestContext} {m : MountedSpecimen} {b : StrainBasis} {range : LoadRange}
  {l : Latch} {code : Int} {k : EventKind} {n : Int}

/-- The results in progress of the test of a state (R146). -/
def State.evaluation (s : State) : Option Evaluation :=
  s.tex.test.map TestContext.rev

theorem evaluation_of_test (h : s.tex.test = some t) : s.evaluation = some t.rev := by
  simp [State.evaluation, h]

theorem evaluation_of_eq (h : u.tex.test = s.tex.test) : u.evaluation = s.evaluation := by
  simp [State.evaluation, h]

theorem evaluation_of_lasting (h : u.lasting = s.lasting) : u.evaluation = s.evaluation := by
  have kept (s : State) : s.evaluation = s.lasting.map TestContext.rev := by
    rw [State.evaluation, State.lasting, Option.map_map]
    rfl
  rw [kept, kept, h]

/-- A change of the test context that leaves its results in progress. -/
theorem updateTest_evaluation {f : TestContext → TestContext} (s : State)
    (hf : ∀ t, (f t).rev = t.rev := by exact fun _ => rfl) : (updateTest f s).evaluation = s.evaluation := by
  rw [State.evaluation, updateTest_tex_test, Option.map_map]
  exact congrArg (fun g => Option.map g _) (funext hf)

/-! ### The works that leave them (R24) -/

@[simp] theorem addEvent_evaluation (k : EventKind) (v : Int) (s : State) : (addEvent k v s).evaluation = s.evaluation :=
  evaluation_of_lasting (by simp)

@[simp] theorem addEventAt_evaluation (k : EventKind) (n : Nat) (v : Int) (s : State) :
    (addEventAt k n v s).evaluation = s.evaluation := by
  unfold addEventAt
  split
  · rfl
  · exact updateTest_evaluation s fun t => logEvent_rev t _

@[simp] theorem setPhase_evaluation (p : TestPhase) (s : State) : (setPhase p s).evaluation = s.evaluation :=
  evaluation_of_lasting (by simp)

@[simp] theorem setTestFlags_evaluation (f : TestFlags → TestFlags) (s : State) :
    (setTestFlags f s).evaluation = s.evaluation :=
  updateTest_evaluation s

@[simp] theorem markHandover_evaluation (s : State) : (markHandover s).evaluation = s.evaluation :=
  updateTest_evaluation s

@[simp] theorem handoverEntry_evaluation (n : Nat) (h : Int) (s : State) :
    (handoverEntry n h s).evaluation = s.evaluation := by
  rw [handoverEntry, markHandover_evaluation, addEventAt_evaluation]
  rfl

@[simp] theorem formHandover_evaluation (a : Arrival) : (formHandover a).s.evaluation = a.s.evaluation := by
  unfold formHandover
  split
  · rw [slipHandover, handoverEntry_evaluation, setTestFlags_evaluation]
    exact evaluation_of_eq (by simp)
  · split
    · rw [removalHandover, handoverEntry_evaluation]
      exact evaluation_of_eq (by simp)
    · rfl
  · rfl

@[simp] theorem extPreloadEnd_evaluation (required : Bool) (l : Latch) (s : State) :
    (extPreloadEnd required l s).evaluation = s.evaluation := by
  have placed (u : State) : (setP0 l.position u).evaluation = u.evaluation := rfl
  have raised (q : Notice) (u : State) : (raise .cell q u).evaluation = u.evaluation := evaluation_of_eq (raise_test ..)
  unfold extPreloadEnd
  split
  · split
    · rfl
    · rw [raised, placed]
      rfl
    · rw [markHandover_evaluation, placed, setTestFlags_evaluation, raised]
    · rw [markHandover_evaluation, placed, setTestFlags_evaluation, raised]
    · rfl
    · rfl
  · rw [markHandover_evaluation, placed]

@[simp] theorem enterStage_evaluation (i : Nat) (d : StageDef) (a : Arrival) :
    (enterStage i d a).s.evaluation = a.s.evaluation :=
  (addEvent_evaluation ..).trans (updateTest_evaluation a.s)

@[simp] theorem markStage_evaluation (f : StageRun → StageRun) (s : State) : (markStage f s).evaluation = s.evaluation :=
  updateTest_evaluation s

@[simp] theorem detectFracture_evaluation (a : Arrival) : (detectFracture a).s.evaluation = a.s.evaluation := by
  unfold detectFracture
  split
  next t _ _ =>
    have tailed (i : Nat) : (updateTest (fun t => { t with phase := .tail 0, fractureNumber := some i }) a.s).evaluation =
        a.s.evaluation := updateTest_evaluation a.s
    have broken (u : State) : (loopTail (extFracture u)).evaluation = u.evaluation := by
      show (extFracture u).evaluation = u.evaluation
      unfold extFracture
      split
      · exact setTestFlags_evaluation _ (stopTimers u)
      · rfl
    simp [broken, tailed]
  next => rfl

@[simp] theorem holdTest_evaluation (c : HoldCause) (s : State) : (holdTest c s).evaluation = s.evaluation := by
  unfold holdTest
  split
  · rfl
  · exact (addEvent_evaluation ..).trans (setPhase_evaluation ..)

@[simp] theorem endPreload_evaluation (p : Plan) (a : Arrival) : (endPreload p a).s.evaluation = a.s.evaluation := by
  have ended (q : TestPhase) : (setPhase q (extPreloadEnd p.extRequired a.latch
      (addEvent .preloadEnd a.set.force a.s))).evaluation = a.s.evaluation := by simp
  simp only [endPreload]
  split
  · exact ended _
  split
  · exact (enterStage_evaluation ..).trans (ended _)
  · exact ended _

@[simp] theorem judgeStage_evaluation (t : TestContext) (a : Arrival) : (judgeStage t a).s.evaluation = a.s.evaluation := by
  unfold judgeStage
  split
  · rfl
  split
  · rfl
  split
  · unfold takeEnd
    split <;> simp
  split
  · unfold takeTimeout
    simp only []
    split
    · rfl
    · split <;> simp
  · rfl

@[simp] theorem judgePhase_evaluation (t : TestContext) (a : Arrival) : (judgePhase t a).s.evaluation = a.s.evaluation := by
  unfold judgePhase
  split
  · split <;> simp
  · split <;> simp
  · simp only [countTail]
    split <;> simp
  · rfl
  · rfl

/-- The test executive leaves the results in progress as the evaluator left them. -/
theorem executiveTakes_evaluation (a : Arrival) : (executiveTakes a).s.evaluation = a.s.evaluation := by
  have held (p : Plan) (d : Arrival) : (handoverHold p d).s.evaluation = d.s.evaluation :=
    evaluation_of_lasting (handoverHold_lasting p d)
  unfold executiveTakes
  split
  · rfl
  simp only []
  split
  · exact detectFracture_evaluation a
  split
  · split <;> exact detectFracture_evaluation a
  split
  · simp
  · simp [held]

/-- What the works from the executive's on leave of a test: its results in progress, and its entries (R24). -/
theorem executive_left (active : testIsActive a.s = true) (test : a.s.tex.test = some t)
    (left : (closeOrCount (loopToCapture (executiveTakes a))).s.tex.test = some t') :
    t'.rev = t.rev ∧ t.events ⊆ t'.events := by
  have active' : testIsActive (executiveTakes a).s = true := by simpa [testIsActive] using active
  obtain ⟨-, -, -, t₂, test₂, rfl⟩ := closeOrCount_goesOn left
  have kept := (evaluation_of_lasting (loopToCapture_lasting active')).trans (executiveTakes_evaluation a)
  rw [evaluation_of_test test₂, evaluation_of_test test] at kept
  have judged : TestGrows a.s (executiveTakes a).s := executiveTakes_grows .rfl
  have grown : TestGrows a.s (loopToCapture (executiveTakes a)).s := by
    obtain ⟨w, word, -⟩ := wordTakes_test (loopTakes (executiveTakes a)) (by simpa [testIsActive] using active)
    exact captureTakes_grows (publish_grows (word ▸ (loopTakes_grows judged).of_eq rfl rfl))
  exact ⟨Option.some.inj kept, (grown.grown test test₂).events.subset⟩

/-! ### The evaluator at an arrival (R147 to R149) -/

theorem evaluationLeaves_remembers (v : Evaluation) :
    (evaluationLeaves v).saturated = v.saturated ∧ (evaluationLeaves v).lastValid = v.lastValid := by
  obtain ⟨saturated, lastValid, -⟩ := closeFit_frame v .leaving
  unfold evaluationLeaves
  (repeat' split) <;> simp [closeUnfitted, saturated, lastValid]

/-- The saturation flag and the last valid sample, at any sample (R148, R149). -/
theorem evaluationAt_remembers (a : Arrival) (t : TestContext) :
    (evaluationAt a t).saturated = (t.rev.saturated || a.set.saturated) ∧
      (evaluationAt a t).lastValid = if a.set.invalid then t.rev.lastValid else some (samplePoint a.set) := by
  have sampled (p : Plan) (x : SamplePoint) (v : Evaluation) := (evaluateSample_frame p x v).2.2
  simp only [evaluationAt]
  (repeat' split) <;> simp [evaluationLeaves_remembers, rememberSample, *]

theorem mem_addSampleEvents {es : List SampleEvent} (mem : (k, n) ∈ es) (test : s.tex.test = some t)
    (room : t.events.length + es.length ≤ 24) (left : (addSampleEvents es s).tex.test = some t') :
    ⟨k, sampleNumber t.arrivals, n⟩ ∈ t'.events := by
  induction es generalizing s t with
  | nil => cases mem
  | cons e es ih =>
    have entered := addEvent_test e.1 e.2 test
    have logged := logEvent_goesOn t ⟨e.1, sampleNumber t.arrivals, e.2⟩
    rw [List.length_cons] at room
    obtain rfl | later := List.mem_cons.1 mem
    · have rest : TestGrows (addEvent k n s) (addSampleEvents es (addEvent k n s)) := addSampleEvents_grows es .rfl
      exact (rest.grown entered left).events.subset (mem_logEvent (by omega))
    · rw [← logged.arrivals]
      have := logged.count
      exact ih later entered (by omega) left

/-- An evaluated sample's entries stand in the event list, where it has room (R129, R147). -/
theorem mem_evaluateArrival (test : a.s.tex.test = some t) (now : evaluated a = true) (room : t.events.length ≤ 22)
    (entry : (k, n) ∈ (evaluateSample t.plan (samplePoint a.set) (rememberSample a.fracture a.set t.rev)).2)
    (left : (evaluateArrival a).s.tex.test = some t') : ⟨k, sampleNumber t.arrivals, n⟩ ∈ t'.events := by
  have few := evaluateSample_entries t.plan (samplePoint a.set) (rememberSample a.fracture a.set t.rev)
  simp only [evaluateArrival, test, now, if_true, Arrival.mapState] at left
  generalize (if a.handover then _ else _) = w at left
  exact mem_addSampleEvents (t := { t with rev := w }) entry (updateTest_test _ test) (Nat.add_le_add room few) left

/-! ### The sample as it comes to the evaluator (R24, R51, R60) -/

/-- An arrival as the result evaluator takes it: after the works of the load channel and the extensometer channel (R24). -/
def arrivalForEvaluator (code : Int) (range : LoadRange) (l : Latch) (s : State) : Arrival :=
  formHandover (updatePeak (formStrain (stepUp (overloadCheck (beginArrival code range l s)))))

theorem arrivalForExecutive_eq (code : Int) (range : LoadRange) (l : Latch) (s : State) :
    arrivalForExecutive code range l s = evaluateArrival (arrivalForEvaluator code range l s) := rfl

/-- The test as its sample comes to the evaluator. -/
theorem arrivalForEvaluator_test (code : Int) (range : LoadRange) (l : Latch) (test : s.tex.test = some t) :
    ∃ t₁, (arrivalForEvaluator code range l s).s.tex.test = some t₁ ∧ t.KeepsStage 2 t₁ ∧ t₁.rev = t.rev := by
  obtain ⟨t₀, test₀, lasts, grown⟩ := stepUp_test (a := overloadCheck (beginArrival code range l s)) (t := t)
    (by simpa using test)
  obtain ⟨-, stage, rev, -⟩ := lasting_fields lasts
  have formed : (updatePeak (formStrain (stepUp (overloadCheck (beginArrival code range l s))))).s.tex.test = some t₀ := by
    simpa using test₀
  obtain ⟨t₁, test₁, kept⟩ := formHandover_test formed
  have same := formHandover_evaluation (updatePeak (formStrain (stepUp (overloadCheck (beginArrival code range l s)))))
  rw [evaluation_of_test test₁, evaluation_of_test formed] at same
  exact ⟨t₁, test₁, (grown.keepsStage stage).trans kept, (Option.some.inj same).trans rev⟩

/-- Slip is declared in ACTIVE only (R60). -/
theorem formStrain_slip_active (still : a.slip = none) (slips : (formStrain a).slip ≠ none) : a.s.exc.state = .active := by
  by_contra other
  apply slips
  unfold formStrain
  split
  · exact still
  · simp [other, still]

/-- A sample is examined for removal in ACTIVE only (R51). -/
theorem removalExamined_active (examined : removalExamined a = true) : a.s.exc.state = .active := by
  simp only [removalExamined, Bool.and_eq_true, beq_iff_eq] at examined
  obtain ⟨⟨⟨⟨active, -⟩, -⟩, -⟩, -⟩ := examined
  exact active

/-- A handover is made by a slip or in ACTIVE, and leaves ACTIVE (R51, R52, R60). -/
theorem formHandover_made (before : a.handover = false) (made : (formHandover a).handover = true) :
    (a.slip ≠ none ∨ a.s.exc.state = .active) ∧ (formHandover a).s.exc.state ≠ .active := by
  unfold formHandover at made ⊢
  split at made
  next slip => exact ⟨.inl (by simp [slip]), by simp [slipHandover, handoverEntry, markHandover, updateBasis]⟩
  next slip plan =>
    split at made
    next met =>
      obtain ⟨examined, -⟩ := Bool.and_eq_true_iff.1 met
      exact ⟨.inr (removalExamined_active examined),
        by simp [slip, met, removalHandover, handoverEntry, markHandover, updateBasis]⟩
    next => simp [before] at made
  next => simp [before] at made

/-- A handover made before the evaluator takes the sample leaves the ACTIVE it found. -/
theorem arrivalForEvaluator_made (made : (arrivalForEvaluator code range l s).handover = true) :
    s.exc.state = .active ∧ (arrivalForEvaluator code range l s).s.exc.state ≠ .active := by
  obtain ⟨cause, leaves⟩ := formHandover_made (by simp [beginArrival]) made
  refine ⟨?_, leaves⟩
  obtain slip | active := cause
  · simpa using formStrain_slip_active (a := stepUp (overloadCheck (beginArrival code range l s))) (by simp [beginArrival])
      (by simpa using slip)
  · have channel := (formStrain_channel (stepUp (overloadCheck (beginArrival code range l s)))).1
    simp only [updatePeak_frame] at active
    rw [channel] at active
    simpa using active

/-! ### A test's arrival, evaluated (R147) -/

/-- At any arrival the evaluator's work on the test as the sample came to it is what is left (R147 to R149). -/
theorem ArrivalInTest.left_evaluation (h : ArrivalInTest s t m b range l)
    (left : (closeOrCount (loopToCapture (executiveTakes (arrivalForExecutive code range l s)))).s.tex.test = some t') :
    ∃ t₁ t₂, (arrivalForEvaluator code range l s).s.tex.test = some t₁ ∧ t.KeepsStage 2 t₁ ∧ t₁.rev = t.rev ∧
      (arrivalForExecutive code range l s).s.tex.test = some t₂ ∧
      t'.rev = evaluationAt (arrivalForEvaluator code range l s) t₁ ∧ t₂.events ⊆ t'.events := by
  obtain ⟨t₁, test₁, kept, rev⟩ := arrivalForEvaluator_test code range l h.test
  obtain ⟨t₂, test₂, lasts, -⟩ := evaluateArrival_test test₁
  obtain ⟨-, -, evaluation, -⟩ := lasting_fields lasts
  obtain ⟨-, -, mar, -⟩ := arrivalForExecutive_frame code range l s
  have active : Machine.testIsActive (arrivalForExecutive code range l s).s = true := by
    simpa only [Machine.testIsActive, mar] using h.testIsActive
  obtain ⟨same, events⟩ := executive_left active test₂ left
  exact ⟨t₁, t₂, test₁, kept, rev, test₂, same.trans evaluation, events⟩

/-- At any arrival the saturation flag and the last valid sample are kept (R148, R149). -/
theorem ArrivalInTest.remembers (h : ArrivalInTest s t m b range l)
    (left : (closeOrCount (loopToCapture (executiveTakes (arrivalForExecutive code range l s)))).s.tex.test = some t') :
    t'.rev.saturated = (t.rev.saturated || (arrivalForExecutive code range l s).set.saturated) ∧
      t'.rev.lastValid = if (arrivalForExecutive code range l s).set.invalid then t.rev.lastValid
        else some (samplePoint (arrivalForExecutive code range l s).set) := by
  obtain ⟨t₁, -, -, -, rev, -, evaluation, -⟩ := h.left_evaluation left
  have set : (arrivalForExecutive code range l s).set = (arrivalForEvaluator code range l s).set := by
    simp [arrivalForExecutive_eq]
  rw [evaluation, set, ← rev]
  exact evaluationAt_remembers ..

/-- A good sample of a RUNNING test at which no handover is made, the gate closed, is evaluated (R147). -/
theorem ArrivalInTest.evaluates (h : ArrivalInTest s t m b range l) (running : t.phase = .running)
    (good : GoodSample s range code) (whole : Unbroken s t.plan (netForce s range code)) (gate : s.inputs.gateOpen = false)
    (left : (closeOrCount (loopToCapture (executiveTakes (arrivalForExecutive code range l s)))).s.tex.test = some t')
    (stays : s.exc.state = .active →
      (closeOrCount (loopToCapture (executiveTakes (arrivalForExecutive code range l s)))).s.exc.state = .active) :
    ∃ v, v = rememberSample false (arrivalForExecutive code range l s).set t.rev ∧
      t'.rev = (evaluateSample t.plan (samplePoint (arrivalForExecutive code range l s).set) v).1 ∧
      (HasRoom t → ∀ k n, (k, n) ∈ (evaluateSample t.plan (samplePoint (arrivalForExecutive code range l s).set) v).2 →
        ⟨k, sampleNumber t.arrivals, n⟩ ∈ t'.events) := by
  obtain ⟨t₁, t₂, test₁, kept, rev, test₂, evaluation, events⟩ := h.left_evaluation left
  obtain ⟨t₃, calm, -⟩ := (good.sound (l := l) h.test whole).calm h.test (.inl running) h.testIsActive gate
  obtain ⟨exc, -⟩ := loopToCapture_kept (a := executiveTakes (arrivalForExecutive code range l s))
    (by simpa [Machine.testIsActive] using calm.active)
  rw [(closeOrCount_goesOn left).2.1, exc, calm.executiveTakes_kept.1] at stays
  obtain ⟨-, -, -, gate, valid, unbroken, -⟩ := calm
  rw [arrivalForExecutive_eq] at *
  simp only [evaluateArrival_frame] at gate valid unbroken stays ⊢
  have still : (arrivalForEvaluator code range l s).handover = false :=
    Bool.eq_false_iff.2 fun made => (arrivalForEvaluator_made made).2 (stays (arrivalForEvaluator_made made).1)
  have phase := phase_of_test test₁
  generalize arrivalForEvaluator code range l s = a at *
  have now : evaluated a = true := by simp [evaluated, valid, unbroken, gate, phase, kept.phase, running]
  refine ⟨_, rfl, ?_, fun room k n entry => ?_⟩
  · simpa [evaluationAt, now, still, unbroken, rev, kept.plan] using evaluation
  · have few := kept.room room
    rw [← kept.arrivals]
    exact events (mem_evaluateArrival test₁ now (by omega) (by rw [unbroken, rev, kept.plan]; exact entry) test₂)

section
variable {p : Plan} {x : SamplePoint} {y : SampleSet} {v v' w : Evaluation} (remembered : w = rememberSample false y v)
include remembered

/-! Remembering a sample is no part of what fit, search and tracker go by (R148, R149). -/

theorem FitEvaluates.of_remembered (h : FitEvaluates p x w v') : FitEvaluates p x v v' := by
  subst remembered
  exact { h with }

theorem SearchEvaluates.of_remembered (h : SearchEvaluates p x w v') : SearchEvaluates p x v v' := by
  subst remembered
  exact { h with }

theorem search_of_remembered : w.search = v.search ∧ w.tracker = v.tracker := by
  subst remembered
  exact ⟨rfl, rfl⟩

end

end Sys2Proof.Machine

open Sys2Proof Sys2Proof.Machine

/-- Settles O30: any arrival by what it remembers (`ArrivalInTest.remembers`), an evaluated sample by the works of fit, search and
tracker on it (`evaluateSample_fits` and its neighbours), the requests by their replies. -/
theorem resultsCollectedAndPeeked : Obligations.ResultsCollectedAndPeeked := by
  unfold Obligations.ResultsCollectedAndPeeked
  refine ⟨?_, fun r s form port => ?_⟩
  · intro s t m b range l code h
    obtain ⟨next, latest⟩ := h.exec_executive code
    refine ⟨_, _, next, latest, fun t' left point isPoint => ?_⟩
    have number : (arrivalForExecutive code range l s).set.number.getD 0 = sampleNumber t.arrivals := by
      simp [arrivalForExecutive, (h.loadSample code).1]
    obtain rfl : point = samplePoint (arrivalForExecutive code range l s).set := isPoint
    rw [number]
    refine ⟨?_, ?_, fun running good whole gate stays v v' isBefore isAfter => ?_⟩
    · exact (h.remembers left).1
    · exact (h.remembers left).2
    · obtain ⟨w, remembered, after, entries⟩ := h.evaluates running good whole gate left stays
      obtain rfl := isAfter.trans after
      rw [← isBefore] at remembered
      generalize samplePoint (arrivalForExecutive code range l s).set = x at *
      obtain ⟨search, tracker⟩ := search_of_remembered remembered
      obtain ⟨drops, ends, leaves⟩ := evaluateSample_trackerEntries t.plan x w
      have tracks := evaluateSample_tracks t.plan x w
      rw [search, tracker] at tracks
      rw [tracker] at drops ends leaves
      refine ⟨(evaluateSample_fits t.plan x w).of_remembered remembered,
        (evaluateSample_searches t.plan x w).of_remembered remembered, tracks,
        fun room => ⟨fun q before found rp => ?_, fun h rising falls reH => ?_, fun rising ended => ?_,
          fun h phase ended reL => ?_⟩⟩
      · exact entries room _ _ (evaluateSample_rpFound t.plan x w (by rw [search, before]) found rp)
      · exact entries room _ _ (drops rising falls h reH)
      · exact entries room _ _ (ends rising ended)
      · exact entries room _ _ (leaves phase ended h reL)
  · have collects : permitted .collectResult r.port = true := by rw [port]; rfl
    have peeks : permitted .peekResult r.port = true := by rw [port]; rfl
    refine ⟨fun empty => ⟨?_, ?_⟩, fun x rest results => ⟨?_, ?_⟩⟩
    · exact request_answered collects form (by rw [collectResultReply, empty]; rfl)
    · exact request_answered peeks form (by rw [peekResultReply, empty]; rfl)
    · exact request_answered collects form (by rw [collectResultReply, results]; rfl)
    · exact request_answered peeks form (by rw [peekResultReply, results])

end

section

/-! PROOF. What the capture store does with a sample (R176 to R182): thinned, written, written into a page opened for it, or
lost. -/

namespace Sys2Proof.Machine

variable {s u : State} {c : CaptureContext} {p : CapturePage} {e : CaptureEntry} {t : TestContext}

/-! ### Pages and level (R173, R178) -/

theorem updateCapture_store (f : CaptureContext → CaptureContext) (capture : s.cps.capture = some c) :
    (updateCapture f s).cps = { s.cps with capture := some (f c) } := by
  simp [updateCapture, capture]

theorem freeCount_of_capture (capture : s.cps.capture = some c) :
    freeCount s.cps = 128 - s.cps.full.length - if c.filling.isSome then 1 else 0 := by
  simp [freeCount, fillingCount, capture, Config.pageCount]

/-- More FREE pages never raise the thinning level (R178). -/
theorem levelOf_antitone {m n : Nat} (more : m ≤ n) : levelOf n ≤ levelOf m := by
  unfold levelOf
  grind

/-- Setting the level enters CAPTURE_THIN, and so marks EVENT: the level of this free count is above the present one, in a test
(R177, R178). -/
def thinMarks (c : CaptureContext) (free : Nat) (s : State) : Bool :=
  c.level < levelOf free && s.tex.test.isSome

theorem setLevel_store (capture : s.cps.capture = some c) :
    (setLevel s).cps =
      { s.cps with
        capture := some
          { c with
            level := levelOf (freeCount s.cps), pendingEvent := c.pendingEvent || thinMarks c (freeCount s.cps) s } } := by
  by_cases rises : c.level < levelOf (freeCount s.cps)
  · cases test : s.tex.test with
    | none => simp [setLevel, capture, rises, thinMarks, addEvent, updateCapture, test]
    | some t => simp [setLevel, capture, rises, thinMarks, addEvent, addEventAt, updateCapture, test, markEvent]
  · simp [setLevel, capture, rises, thinMarks, updateCapture]

/-- A level that does not rise is set silently (R178). -/
theorem setLevel_silent (capture : s.cps.capture = some c) (silent : levelOf (freeCount s.cps) ≤ c.level) :
    setLevel s = updateCapture (fun c => { c with level := levelOf (freeCount s.cps) }) s := by
  simp [setLevel, capture, Nat.not_lt.2 silent]

/-! ### Writing, opening, losing (R180 to R182) -/

theorem writeEntry_fills (capture : s.cps.capture = some c) (room : p.entries.length + 1 < 256) :
    (writeEntry e p s).cps =
      { s.cps with
        capture := some
          { c with stored := c.stored + 1, lossRun := false, filling := some { p with entries := p.entries ++ [e] } } } := by
  simp [writeEntry, Config.pageEntries, room, updateCapture, capture]

/-- The 256th entry makes the page FULL (R181). -/
theorem writeEntry_completes (capture : s.cps.capture = some c) (last : 256 ≤ p.entries.length + 1) :
    writeEntry e p s = handOver { p with entries := p.entries ++ [e] }
        (updateCapture (fun c => { c with filling := none })
          (updateCapture (fun c => { c with stored := c.stored + 1, lossRun := false }) s)) ∧
      (writeEntry e p s).cps =
        { full := s.cps.full ++ [{ p with entries := p.entries ++ [e] }],
          capture := some { c with stored := c.stored + 1, lossRun := false, filling := none } } := by
  have beyond : ¬ p.entries.length + 1 < 256 := Nat.not_lt.2 last
  simp [writeEntry, Config.pageEntries, beyond, handOver, updateCapture, capture]

/-- The page that a sample opens, before its first entry (R180). -/
def openedPage (c : CaptureContext) (first : Nat) : CapturePage :=
  { serial := c.serial, index := c.nextIndex, first := first, last := false, entries := [], own := true }

theorem openPage_store (c : CaptureContext) (n : Nat) (s : State) :
    (openPage c n s).cps =
      { s.cps with
        capture := some
          { c with
            filling := some (openedPage c n), nextIndex := c.nextIndex + 1, level := levelOf (127 - s.cps.full.length),
            pendingEvent := c.pendingEvent || thinMarks c (127 - s.cps.full.length) s } } := by
  have opened : (updateCapture
      (fun c => { c with filling := some (openedPage c n), nextIndex := c.nextIndex + 1 })
      { s with cps := { s.cps with capture := some c } }).cps.capture =
        some { c with filling := some (openedPage c n), nextIndex := c.nextIndex + 1 } := rfl
  have free := freeCount_of_capture opened
  have less : 128 - s.cps.full.length - 1 = 127 - s.cps.full.length := by omega
  simp only [updateCapture_cps_full, Option.isSome_some, if_true, less] at free
  refine (setLevel_store opened).trans ?_
  rw [free]
  rfl

theorem loseSample_store (capture : s.cps.capture = some c) :
    ∃ b, (loseSample c s).cps =
      { s.cps with capture := some { c with lost := c.lost + 1, lossRun := true, pendingEvent := b } } := by
  cases run : c.lossRun with
  | true => exact ⟨c.pendingEvent, by simp [loseSample, run, updateCapture, capture]⟩
  | false =>
    cases test : s.tex.test with
    | none => exact ⟨c.pendingEvent, by simp [loseSample, run, updateCapture, capture, addEvent, test]⟩
    | some t => exact ⟨true, by simp [loseSample, run, updateCapture, capture, addEvent, addEventAt, markEvent, test]⟩

/-! ### A sample kept (R180, R182) -/

theorem keepSample_writes (capture : s.cps.capture = some c) (filling : c.filling = some p) :
    keepSample e s = writeEntry e p s := by
  simp [keepSample, capture, filling]

theorem keepSample_loses (capture : s.cps.capture = some c) (closed : c.filling = none) (full : 128 ≤ s.cps.full.length) :
    keepSample e s = loseSample c s := by
  have none_free : freeCount s.cps = 0 := by
    have := freeCount_of_capture capture
    omega
  simp [keepSample, capture, closed, none_free]

/-- The entry is written into the page opened for it, with EVENT when the opening marked it (R178, R180). -/
theorem keepSample_opens (capture : s.cps.capture = some c) (closed : c.filling = none) (free : s.cps.full.length < 128) :
    keepSample e s =
      writeEntry { e with event := e.event || (c.pendingEvent || thinMarks c (127 - s.cps.full.length) s) }
        (openedPage c e.number) (openPage c e.number s) := by
  have some_free : 0 < freeCount s.cps := by
    have := freeCount_of_capture capture
    simp only [closed, Option.isSome_none, Bool.false_eq_true, if_false] at this
    omega
  have opened := openPage_store c e.number s
  simp [keepSample, capture, closed, some_free, opened, State.eventPending]

/-! ### A sample taken (R176, R177, R179) -/

/-- The sample's entry with the EVENT mark it has when the store takes it (R177). -/
def markedEntry (raised : Bool) (c : CaptureContext) (e : CaptureEntry) : CaptureEntry :=
  { e with event := raised || c.pendingEvent }

/-- The store keeps the sample: its number is a multiple of the factor, or it carries EVENT (R179). -/
def Kept (d : Int) (raised : Bool) (c : CaptureContext) (e : CaptureEntry) : Prop :=
  (e.number : Int) % (d * 2 ^ c.level) = 0 ∨ raised = true ∨ c.pendingEvent = true

section
variable {d : Int} {raised : Bool} (capture : s.cps.capture = some c)
include capture

theorem captureSample_thins (thinned : ¬ Kept d raised c e) :
    captureSample d raised e s =
      updateCapture (fun c => { c with pendingEvent := false })
        (updateCapture (fun c => { c with thinned := c.thinned + 1 })
          (updateCapture (fun c => { c with taken := c.taken + 1 }) s)) := by
  have passed : keeps (thinningFactor d c.level) (markedEntry raised c e) = false := by
    simpa [Kept, keeps, thinningFactor, markedEntry, and_assoc, and_comm, and_left_comm] using thinned
  simp [captureSample, capture, show keeps _ { e with event := raised || c.pendingEvent } = false from passed]

theorem captureSample_keeps (kept : Kept d raised c e) :
    captureSample d raised e s =
      updateCapture (fun c => { c with pendingEvent := false })
        (keepSample (markedEntry raised c e) (updateCapture (fun c => { c with taken := c.taken + 1 }) s)) := by
  have stays : keeps (thinningFactor d c.level) (markedEntry raised c e) = true := by
    simpa [Kept, keeps, thinningFactor, markedEntry, or_assoc, or_comm, or_left_comm] using kept
  simp [captureSample, capture, show keeps _ { e with event := raised || c.pendingEvent } = true from stays, markedEntry]

/-- The context with the sample counted (R176). -/
theorem counted_capture : (updateCapture (fun c => { c with taken := c.taken + 1 }) s).cps.capture =
    some { c with taken := c.taken + 1 } :=
  congrArg CaptureStore.capture (updateCapture_store _ capture)

theorem captureSample_store_thins (thinned : ¬ Kept d raised c e) :
    (captureSample d raised e s).cps =
      { s.cps with
        capture := some { c with taken := c.taken + 1, thinned := c.thinned + 1, pendingEvent := false } } := by
  rw [captureSample_thins capture thinned]
  simp [updateCapture, capture]

/-- A kept sample's store is that of the sample written or lost in the store that counted it, its EVENT mark used up (R177). -/
theorem captureSample_store_of_kept {x : CaptureStore} {c' : CaptureContext} (kept : Kept d raised c e)
    (taken : (keepSample (markedEntry raised c e) (updateCapture (fun c => { c with taken := c.taken + 1 }) s)).cps = x)
    (left : x.capture = some c') :
    (captureSample d raised e s).cps = { x with capture := some { c' with pendingEvent := false } } := by
  subst taken
  rw [captureSample_keeps capture kept]
  exact updateCapture_store _ left

theorem captureSample_store_fills (kept : Kept d raised c e) (filling : c.filling = some p)
    (room : p.entries.length + 1 < 256) :
    (captureSample d raised e s).cps =
      { s.cps with
        capture := some
          { c with
            taken := c.taken + 1, stored := c.stored + 1, lossRun := false, pendingEvent := false
            filling := some { p with entries := p.entries ++ [markedEntry raised c e] } } } := by
  have counted := counted_capture capture
  have written := writeEntry_fills (e := markedEntry raised c e) counted room
  rw [← keepSample_writes counted filling] at written
  exact captureSample_store_of_kept capture kept written rfl

theorem captureSample_store_completes (kept : Kept d raised c e) (filling : c.filling = some p)
    (last : 256 ≤ p.entries.length + 1) :
    (captureSample d raised e s).cps =
      { full := s.cps.full ++ [{ p with entries := p.entries ++ [markedEntry raised c e] }]
        capture := some
          { c with
            taken := c.taken + 1, stored := c.stored + 1, lossRun := false, pendingEvent := false, filling := none } } := by
  have counted := counted_capture capture
  obtain ⟨-, written⟩ := writeEntry_completes (e := markedEntry raised c e) counted last
  rw [← keepSample_writes counted filling] at written
  exact captureSample_store_of_kept capture kept written rfl

theorem captureSample_store_opens (kept : Kept d raised c e) (closed : c.filling = none) (free : s.cps.full.length < 128) :
    (captureSample d raised e s).cps =
      { s.cps with
        capture := some
          { c with
            taken := c.taken + 1, stored := c.stored + 1, lossRun := false, pendingEvent := false
            nextIndex := c.nextIndex + 1, level := levelOf (127 - s.cps.full.length)
            filling := some { openedPage c e.number with
              entries := [{ e with event :=
                (raised || c.pendingEvent) || (c.pendingEvent || thinMarks c (127 - s.cps.full.length) s) }] } } } := by
  have counted := counted_capture capture
  have opened := openPage_store { c with taken := c.taken + 1 } e.number
    (updateCapture (fun c => { c with taken := c.taken + 1 }) s)
  have taken := congrArg State.cps (keepSample_opens (e := markedEntry raised c e) counted closed free)
  have written := writeEntry_fills (e := { markedEntry raised c e with event := (raised || c.pendingEvent) ||
    (c.pendingEvent || thinMarks c (127 - s.cps.full.length) s) }) (p := openedPage c e.number)
    (congrArg CaptureStore.capture opened) (by simp [openedPage])
  refine (captureSample_store_of_kept capture kept (taken.trans written) rfl).trans ?_
  rw [opened]
  rfl

theorem captureSample_store_loses (kept : Kept d raised c e) (closed : c.filling = none) (full : 128 ≤ s.cps.full.length) :
    (captureSample d raised e s).cps =
      { s.cps with
        capture := some
          { c with taken := c.taken + 1, lost := c.lost + 1, lossRun := true, pendingEvent := false } } := by
  have counted := counted_capture capture
  obtain ⟨b, lost⟩ := loseSample_store counted
  rw [← keepSample_loses counted closed full] at lost
  exact captureSample_store_of_kept capture kept lost rfl

end

end Sys2Proof.Machine
end

section

/-! PROOF. The capture store stays sound (R173, R178 to R183) while it takes a sample, opens, hands out and frees pages, begins
and ends. -/

namespace Sys2Proof.Machine

variable {s u : State} {c : CaptureContext} {p : CapturePage} {e : CaptureEntry}

/-- What the condition on the capture store asks while CAPTURING. -/
theorem captureSound_iff (capture : s.cps.capture = some c) :
    CaptureSound s ↔
      s.cps.full.length + (if c.filling.isSome then 1 else 0) ≤ 128 ∧ (∀ p ∈ s.cps.full, p.entries.length ≤ 256) ∧
      (∀ p ∈ c.filling, p.entries.length < 256) ∧ c.taken = c.stored + c.thinned + c.lost ∧
      c.level = levelOf (128 - s.cps.full.length - if c.filling.isSome then 1 else 0) := by
  have open_pages : fillingCount s.cps = if c.filling.isSome then 1 else 0 := by simp [fillingCount, capture]
  constructor
  · rintro ⟨pages, entries, filling, counters, level⟩
    rw [open_pages] at pages
    exact ⟨pages, entries, filling c capture, counters c capture, freeCount_of_capture capture ▸ level c capture⟩
  · rintro ⟨pages, entries, filling, counters, level⟩
    rw [← open_pages] at pages
    rw [← freeCount_of_capture capture] at level
    exact ⟨pages, entries, by simpa [capture] using filling, by simpa [capture] using counters, by simpa [capture] using level⟩

/-- What it asks of an IDLE store. -/
theorem captureSound_of_idle (idle : s.cps.capture = none) (pages : s.cps.full.length ≤ 128)
    (entries : ∀ p ∈ s.cps.full, p.entries.length ≤ 256) : CaptureSound s :=
  ⟨by simpa [fillingCount, idle] using pages, entries, by simp [idle], by simp [idle], by simp [idle]⟩

theorem CaptureSound.of_eq (hs : CaptureSound s) (store : u.cps = s.cps) : CaptureSound u := by
  obtain ⟨pages, entries, filling, counters, level⟩ := hs
  rw [← store] at pages entries filling counters level
  exact ⟨pages, entries, filling, counters, level⟩

/-- The EVENT mark is no part of the condition (R177). -/
theorem CaptureSound.of_marked (hs : CaptureSound s) (store : u.cps = eventMarked s.cps) : CaptureSound u := by
  cases capture : s.cps.capture with
  | none =>
    have unmarked : eventMarked s.cps = s.cps := by
      rw [eventMarked, capture, Option.map_none, ← capture]
    exact hs.of_eq (store.trans unmarked)
  | some c =>
    have marked : u.cps.capture = some { c with pendingEvent := true } := by simp [store, eventMarked, capture]
    have full : u.cps.full = s.cps.full := by rw [store]; rfl
    rw [captureSound_iff marked, full]
    exact (captureSound_iff capture).1 hs

theorem CaptureSound.ite {q : Prop} [Decidable q] (hu : CaptureSound u) (hs : CaptureSound s) :
    CaptureSound (if q then u else s) := by
  split
  · exact hu
  · exact hs

theorem CaptureSound.full_length (hs : CaptureSound s) : s.cps.full.length ≤ 128 :=
  (Nat.le_add_right ..).trans hs.pages

/-! ### A sample taken (R176 to R182) -/

theorem captureSample_captureSound (d : Int) (raised : Bool) (e : CaptureEntry) (hs : CaptureSound s) :
    CaptureSound (captureSample d raised e s) := by
  cases capture : s.cps.capture with
  | none => exact hs.of_eq (by simp [captureSample, capture])
  | some c =>
    obtain ⟨pages, entries, filling, counters, level⟩ := (captureSound_iff capture).1 hs
    by_cases kept : Kept d raised c e
    · cases open_page : c.filling with
      | some p =>
        simp only [open_page, Option.mem_some_iff, forall_eq', Option.isSome_some, if_true] at pages filling level
        by_cases room : p.entries.length + 1 < 256
        · have store := captureSample_store_fills capture kept open_page room
          rw [captureSound_iff (congrArg CaptureStore.capture store), store]
          exact ⟨by simpa using pages, entries, by simpa using room, by simp only []; omega, level⟩
        · have store := captureSample_store_completes capture kept open_page (Nat.not_lt.1 room)
          rw [captureSound_iff (congrArg CaptureStore.capture store), store]
          refine ⟨by simpa using pages, ?_, by simp, by simp only []; omega, by simpa [Nat.sub_sub] using level⟩
          intro q hq
          obtain old | rfl := List.mem_append.1 hq |>.imp_right List.mem_singleton.1
          · exact entries q old
          · simpa using filling
      | none =>
        simp only [open_page, Option.isSome_none, Bool.false_eq_true, if_false, Nat.add_zero] at pages level
        by_cases free : s.cps.full.length < 128
        · have store := captureSample_store_opens capture kept open_page free
          rw [captureSound_iff (congrArg CaptureStore.capture store), store]
          refine ⟨by simpa using free, entries, by simp, by simp only []; omega, ?_⟩
          have less : 128 - s.cps.full.length - 1 = 127 - s.cps.full.length := by omega
          simp [less]
        · have store := captureSample_store_loses capture kept open_page (Nat.not_lt.1 free)
          rw [captureSound_iff (congrArg CaptureStore.capture store), store]
          exact ⟨by simpa [open_page] using pages, entries, by simp [open_page], by simp only []; omega,
            by simpa [open_page] using level⟩
    · have store := captureSample_store_thins (e := e) capture kept
      rw [captureSound_iff (congrArg CaptureStore.capture store), store]
      exact ⟨pages, entries, filling, by simp only []; omega, level⟩

/-! ### Beginning, freeing, ending (R176, R178, R184, R185, R187) -/

/-- Setting the level makes a store sound whose level alone may be wrong (R178). -/
theorem setLevel_captureSound (pages : s.cps.full.length + fillingCount s.cps ≤ 128)
    (entries : ∀ p ∈ s.cps.full, p.entries.length ≤ 256)
    (filling : ∀ c ∈ s.cps.capture, ∀ p ∈ c.filling, p.entries.length < 256)
    (counters : ∀ c ∈ s.cps.capture, c.taken = c.stored + c.thinned + c.lost) : CaptureSound (setLevel s) := by
  cases capture : s.cps.capture with
  | none =>
    have same : setLevel s = s := by simp [setLevel, capture]
    rw [same]
    exact captureSound_of_idle capture ((Nat.le_add_right ..).trans pages) entries
  | some c =>
    have store := setLevel_store capture
    rw [captureSound_iff (congrArg CaptureStore.capture store), store]
    exact ⟨by simpa [fillingCount, capture] using pages, entries, filling c capture, counters c capture,
      by rw [freeCount_of_capture capture]⟩

theorem activateTest_captureSound (m : MountedSpecimen) (p : Plan) (hs : CaptureSound s) : CaptureSound (activateTest m p s) := by
  unfold activateTest startCapture
  refine setLevel_captureSound ?_ ?_ (by simp [newCapture]) (by simp [newCapture])
  · simpa [fillingCount, newCapture] using hs.full_length
  · simpa using hs.entries

theorem freePage_captureSound {rest : List CapturePage} (head : s.cps.full = p :: rest) (hs : CaptureSound s) :
    CaptureSound (freePage rest s) := by
  obtain ⟨pages, entries, filling, counters, -⟩ := hs
  rw [head, List.length_cons] at pages
  refine setLevel_captureSound ?_ (fun q hq => entries q (by simp [head, hq])) filling counters
  have same : fillingCount { s.cps with full := rest } = fillingCount s.cps := rfl
  simp only [same]
  omega

theorem discardCapture_captureSound (hs : CaptureSound s) (store : u.cps = discardCapture s.cps) : CaptureSound u := by
  have full : u.cps.full = s.cps.full.filter fun p => !p.own := by rw [store]; rfl
  refine captureSound_of_idle (by rw [store]; rfl) ?_ fun p hp => hs.entries p ?_
  · rw [full]
    exact (List.length_filter_le ..).trans hs.full_length
  · rw [full] at hp
    exact (List.mem_filter.1 hp).1

/-- The closing page takes the place of the FILLING page, or a FREE one (R184). -/
theorem closeLastPage_pages (capture : s.cps.capture = some c) (hs : CaptureSound s) :
    (closeLastPage c s).cps.full.length ≤ 128 ∧ ∀ p ∈ (closeLastPage c s).cps.full, p.entries.length ≤ 256 := by
  obtain ⟨pages, entries, filling, -, -⟩ := (captureSound_iff capture).1 hs
  have handed (q : CapturePage) (v : State) : (handOver q v).cps.full = v.cps.full ++ [q] := by simp [handOver]
  unfold closeLastPage
  cases open_page : c.filling with
  | some p =>
    simp only [open_page, Option.mem_some_iff, forall_eq', Option.isSome_some, if_true] at pages filling
    simp only [handed, updateCapture_cps_full, List.length_append, List.length_singleton, List.mem_append,
      List.mem_singleton]
    exact ⟨pages, by rintro q (old | rfl); exacts [entries q old, filling.le]⟩
  | none =>
    have free := freeCount_of_capture capture
    simp only [open_page, Option.isSome_none, Bool.false_eq_true, if_false] at pages free ⊢
    split
    · simp only [handed, List.length_append, List.length_singleton, List.mem_append, List.mem_singleton]
      exact ⟨by omega, by rintro q (old | rfl); exacts [entries q old, by simp]⟩
    · simpa using ⟨pages, entries⟩

theorem endCapture_captureSound (pages : s.cps.full.length ≤ 128) (entries : ∀ p ∈ s.cps.full, p.entries.length ≤ 256) :
    CaptureSound (endCapture s) :=
  captureSound_of_idle rfl (by simpa using pages) (by simpa using entries)

theorem closeTest_captureSound (x : Closure) (hs : CaptureSound s) : CaptureSound (closeTest x s) := by
  cases test : s.tex.test with
  | none => rwa [closeTest_of_idle x test]
  | some t =>
    have channel : CaptureSound (extClosure s) := hs.of_eq (by simp)
    have ended k {v : State} (pages : v.cps.full.length ≤ 128) (entries : ∀ p ∈ v.cps.full, p.entries.length ≤ 256) :
        CaptureSound (endCapture (recordTest t x k v)) := endCapture_captureSound (by simpa using pages) (by simpa using entries)
    simp only [closeTest, test]
    cases capture : (extClosure s).cps.capture with
    | none =>
      exact (ended (captureCounters none) channel.full_length channel.entries).of_eq (by split <;> simp)
    | some c =>
      obtain ⟨pages, entries⟩ := closeLastPage_pages capture channel
      exact (ended (captureCounters (some c)) pages entries).of_eq (by split <;> simp)

end Sys2Proof.Machine
end

section

/-! PROOF. The works that enter events (R129): all they do to the capture store is the EVENT mark (R177). -/

namespace Sys2Proof.Machine

variable {s₀ s u : State} {a : Arrival} {e : Expiry} {n : Nat} {t : TestContext}

/-! ### The relation -/

/-- The flags the ports have, whatever their states (R203). -/
def PortInterface.notices (x : PortInterface) : List (List Notice) :=
  [x.sequencer, x.cell, x.record].map fun v => v.flags.map fun e => e.1

@[simp] theorem raise_notices (p : Port) (m : Notice) (s : State) : (raise p m s).pif.notices = s.pif.notices := by
  cases p <;> simp [PortInterface.notices, raise, State.setPort, State.portOf]

@[simp] theorem enterFault_notices (k : FaultKind) (s : State) : (enterFault k s).pif.notices = s.pif.notices := by
  simp only [enterFault, raiseAll, raise_notices]
  rfl

/-- The event list of the test in progress (R129). -/
def State.entries (s : State) : List Event :=
  (s.tex.test.map TestContext.events).getD []

theorem entries_of_test (test : s.tex.test = some t) : s.entries = t.events := by
  simp [State.entries, test]

/-- `s` comes from `s₀` by works that enter at most `n` events of the test in progress, and change nothing of the capture store
but its EVENT mark: a first entry sets it, no work without an entry does, while the list has room (R129, R177). -/
structure EntersAtMost (n : Nat) (s₀ s : State) : Prop where
  notices : s.pif.notices = s₀.pif.notices
  arrivals : s.tex.test.map TestContext.arrivals = s₀.tex.test.map TestContext.arrivals
  grows : s₀.entries <+: s.entries
  most : s.entries.length ≤ s₀.entries.length + n
  store : (s.cps = s₀.cps ∧ s.entries = s₀.entries) ∨
    (s.cps = eventMarked s₀.cps ∧ (s₀.entries.length < s.entries.length ∨ 24 ≤ s₀.entries.length))

theorem EntersAtMost.rfl : EntersAtMost 0 s s :=
  ⟨Eq.refl _, Eq.refl _, List.prefix_rfl, Nat.le_refl _, .inl ⟨Eq.refl _, Eq.refl _⟩⟩

theorem EntersAtMost.mono {m : Nat} (hs : EntersAtMost n s₀ s) (le : n ≤ m := by omega) : EntersAtMost m s₀ s :=
  { hs with most := hs.most.trans (Nat.add_le_add_left le _) }

/-- A work that changes neither list nor store. -/
theorem EntersAtMost.of_entries (hs : EntersAtMost n s₀ s) (notices : u.pif.notices = s.pif.notices)
    (arrivals : u.tex.test.map TestContext.arrivals = s.tex.test.map TestContext.arrivals) (entries : u.entries = s.entries)
    (cps : u.cps = s.cps) : EntersAtMost n s₀ u := by
  obtain ⟨notices₀, arrivals₀, grows, most, store⟩ := hs
  exact ⟨notices.trans notices₀, arrivals.trans arrivals₀, entries ▸ grows, entries ▸ most, by rw [cps, entries]; exact store⟩

theorem EntersAtMost.of_eq (hs : EntersAtMost n s₀ s)
    (kept : u.tex.test = s.tex.test ∧ u.cps = s.cps ∧ u.pif.notices = s.pif.notices) : EntersAtMost n s₀ u := by
  obtain ⟨test, cps, notices⟩ := kept
  exact hs.of_entries notices (by rw [test]) (by simp [State.entries, test]) cps

theorem EntersAtMost.ite {q : Prop} [Decidable q] (hu : EntersAtMost n s₀ u) (hs : EntersAtMost n s₀ s) :
    EntersAtMost n s₀ (if q then u else s) := by
  split
  · exact hu
  · exact hs

theorem CaptureSound.enters (hs : CaptureSound s) (h : EntersAtMost n s u) : CaptureSound u := by
  obtain ⟨same, -⟩ | ⟨marked, -⟩ := h.store
  · exact hs.of_eq same
  · exact hs.of_marked marked

/-! ### The test context (R108, R129) -/

/-- A change of the test context that leaves its event list and its count of arrivals. -/
theorem updateTest_enters {f : TestContext → TestContext} (hs : EntersAtMost n s₀ s)
    (hf : ∀ t, (f t).events = t.events ∧ (f t).arrivals = t.arrivals := by exact fun _ => ⟨rfl, rfl⟩) :
    EntersAtMost n s₀ (updateTest f s) := by
  refine hs.of_entries rfl ?_ ?_ rfl <;> cases test : s.tex.test <;> simp [State.entries, test, hf]

theorem eventMarked_twice (x : CaptureStore) : eventMarked (eventMarked x) = eventMarked x := by
  simp [eventMarked, Function.comp_def]

/-- An entry marks EVENT, whether it finds room or is dropped (R129, R177). -/
theorem addEventAt_enters (k : EventKind) (i : Nat) (v : Int) (hs : EntersAtMost n s₀ s) :
    EntersAtMost (n + 1) s₀ (addEventAt k i v s) := by
  cases test : s.tex.test with
  | none =>
    have same : addEventAt k i v s = s := by simp [addEventAt, test]
    rw [same]
    exact hs.mono (Nat.le_succ n)
  | some t =>
    obtain ⟨notices, arrivals, grows, most, store⟩ := hs
    have entered := addEventAt_eq k i v test
    have now : (addEventAt k i v s).tex.test = some (t.logEvent ⟨k, i, v⟩) := by rw [entered]
    have marked : (addEventAt k i v s).cps = eventMarked s.cps := by rw [entered]
    have logged := logEvent_goesOn t ⟨k, i, v⟩
    have longer := logged.events
    have atMost := logged.count
    have room : t.events.length < 24 → (t.logEvent ⟨k, i, v⟩).events.length = t.events.length + 1 :=
      fun room => by simp [logEvent_room room]
    rw [← entries_of_test now, ← entries_of_test test] at longer atMost room
    have least := grows.length_le
    have least' := longer.length_le
    refine ⟨by rw [entered]; exact notices, ?_, grows.trans longer, by omega, .inr ⟨?_, ?_⟩⟩
    · rw [now, ← arrivals, test]
      simp [logged.arrivals]
    · obtain ⟨same, -⟩ | ⟨twice, -⟩ := store
      · rw [marked, same]
      · rw [marked, twice, eventMarked_twice]
    · obtain ⟨-, same⟩ | ⟨-, more⟩ := store
      · rw [same] at least' room
        omega
      · omega

theorem addEvent_enters (k : EventKind) (v : Int) (hs : EntersAtMost n s₀ s) : EntersAtMost (n + 1) s₀ (addEvent k v s) := by
  unfold addEvent
  split
  · exact hs.mono
  · exact addEventAt_enters _ _ _ hs

theorem addSampleEvents_enters (es : List SampleEvent) (hs : EntersAtMost n s₀ s) :
    EntersAtMost (n + es.length) s₀ (addSampleEvents es s) := by
  induction es generalizing n s with
  | nil => exact hs
  | cons e es ih =>
    have rest := ih (addEvent_enters e.1 e.2 hs)
    rw [Nat.add_right_comm] at rest
    exact rest

/-! ### The test state's moves (R112 to R122) -/

theorem holdTest_enters (c : HoldCause) (hs : EntersAtMost n s₀ s) : EntersAtMost (n + 1) s₀ (holdTest c s) := by
  unfold holdTest
  split
  · exact hs.mono
  · exact addEvent_enters _ _ ((updateTest_enters hs).of_eq ⟨rfl, rfl, rfl⟩)

theorem releaseTest_enters (hs : EntersAtMost n s₀ s) : EntersAtMost (n + 1) s₀ (releaseTest s) := by
  unfold releaseTest
  split
  · exact hs.mono
  split
  next c r _ =>
    have resumed : EntersAtMost (n + 1) s₀ (addEvent .resume (causeNumber c) (setPhase (returnPhase r) s)) :=
      addEvent_enters _ _ (updateTest_enters hs)
    cases r <;> exact resumed.of_eq ⟨rfl, rfl, rfl⟩
  next => exact hs.mono

theorem beginStage_enters (i : Nat) (d : StageDef) (hs : EntersAtMost n s₀ s) :
    EntersAtMost (n + 1) s₀ (beginStage i d s) :=
  addEvent_enters _ _ (updateTest_enters hs)

theorem leavePlacing_enters (hs : EntersAtMost n s₀ s) : EntersAtMost (n + 1) s₀ (leavePlacing s) := by
  have entered q d : EntersAtMost (n + 1) s₀ (loopEnterPending d (beginStage 1 d (setPhase q s))) :=
    (beginStage_enters 1 d (updateTest_enters hs)).of_eq ⟨rfl, rfl, rfl⟩
  unfold leavePlacing
  split
  · exact hs.mono
  split
  · exact hs.mono
  split
  · exact entered ..
  · exact entered ..
  · exact hs.mono

theorem adjustRate_enters (rate : Int) (hs : EntersAtMost n s₀ s) : EntersAtMost (n + 1) s₀ (adjustRate rate s) :=
  (addEvent_enters .rateChanged rate (updateTest_enters hs)).of_eq ⟨rfl, rfl, rfl⟩

/-! ### The extensometer channel (R47 to R62) -/

theorem handoverEntry_enters (i : Nat) (h : Int) (hs : EntersAtMost n s₀ s) :
    EntersAtMost (n + 1) s₀ (handoverEntry i h s) :=
  updateTest_enters (addEventAt_enters _ _ _ (hs.of_eq ⟨rfl, rfl, rfl⟩))

theorem removalHandover_enters (i : Nat) (h : Int) (hs : EntersAtMost n s₀ s) :
    EntersAtMost (n + 1) s₀ (removalHandover i h s) :=
  handoverEntry_enters i h (hs.of_eq (by simp))

theorem slipHandover_enters (m : SlipRecord) (hs : EntersAtMost n s₀ s) : EntersAtMost (n + 1) s₀ (slipHandover m s) :=
  handoverEntry_enters _ _ (updateTest_enters (hs.of_eq (by simp)))

theorem unannouncedRemoval_enters (hs : EntersAtMost n s₀ s) : EntersAtMost (n + 1) s₀ (unannouncedRemoval s) :=
  updateTest_enters (handoverEntry_enters _ _ (updateTest_enters (hs.of_eq ⟨rfl, rfl, rfl⟩)))

theorem removalHold_enters (p : Plan) (hs : EntersAtMost n s₀ s) : EntersAtMost (n + 1) s₀ (removalHold p s) := by
  unfold removalHold
  split
  · exact holdTest_enters _ hs
  · exact hs.mono

theorem extPreloadEnd_enters (required : Bool) (l : Latch) (hs : EntersAtMost n s₀ s) :
    EntersAtMost n s₀ (extPreloadEnd required l s) := by
  have notPlaced : EntersAtMost n s₀ (markHandover (setP0 l.position
      (setTestFlags (fun f => { f with extNotPlaced := true }) (raise .cell .extRemoveReq s)))) :=
    updateTest_enters (EntersAtMost.of_eq (updateTest_enters (hs.of_eq (by simp))) ⟨rfl, rfl, rfl⟩)
  unfold extPreloadEnd
  split
  · split
    · exact hs.of_eq ⟨rfl, rfl, rfl⟩
    · exact hs.of_eq (by simp)
    · exact notPlaced
    · exact notPlaced
    · exact hs
    · exact hs
  · exact updateTest_enters (hs.of_eq ⟨rfl, rfl, rfl⟩)

theorem placementExpires_enters (hs : EntersAtMost n s₀ s) : EntersAtMost (n + 1) s₀ (placementExpires s) :=
  leavePlacing_enters (updateTest_enters (updateTest_enters (hs.of_eq ⟨rfl, rfl, rfl⟩)))

theorem lateHold_enters (r : ReturnState) (hs : EntersAtMost n s₀ s) : EntersAtMost (n + 1) s₀ (lateHold r s) :=
  addEvent_enters _ _ (updateTest_enters hs)

theorem removalExpires_enters (p : Plan) (hs : EntersAtMost n s₀ s) : EntersAtMost (n + 1) s₀ (removalExpires p s) := by
  have late : EntersAtMost n s₀
      (setTestFlags (fun f => { f with extLate := true }) { s with exc := { s.exc with removal := none } }) :=
    updateTest_enters (hs.of_eq ⟨rfl, rfl, rfl⟩)
  unfold removalExpires
  simp only []
  split
  · exact late.mono
  split
  next r _ => exact (lateHold_enters r late).of_eq (by simp)
  · exact late.mono.of_eq (by simp)
  · exact late.mono

theorem confirmRemoval_enters (hs : EntersAtMost n s₀ s) : EntersAtMost (n + 1) s₀ (confirmRemoval s) := by
  have parked : EntersAtMost n s₀ (setExtState .parked (stopRemoval s)) := hs.of_eq ⟨rfl, rfl, rfl⟩
  unfold confirmRemoval
  simp only []
  split
  · exact releaseTest_enters parked
  · exact parked.mono

theorem extFracture_enters (hs : EntersAtMost n s₀ s) : EntersAtMost n s₀ (extFracture s) :=
  .ite (updateTest_enters (hs.of_eq ⟨rfl, rfl, rfl⟩)) (hs.of_eq ⟨rfl, rfl, rfl⟩)

/-! ### Expiries (R50, R56, R118) -/

theorem advanceStage_enters (hs : EntersAtMost n s₀ s) : EntersAtMost n s₀ (advanceStage s) := by
  unfold advanceStage
  split
  · exact updateTest_enters hs
  · exact hs

theorem advancePlacement_enters (p : Plan) (he : EntersAtMost n s₀ e.s) :
    EntersAtMost (n + 1) s₀ (advancePlacement p e).s := by
  simp only [advancePlacement]
  split
  · exact placementExpires_enters (he.of_eq ⟨rfl, rfl, rfl⟩)
  · exact he.mono.of_eq ⟨rfl, rfl, rfl⟩

theorem advanceRemoval_enters (p : Plan) (he : EntersAtMost n s₀ e.s) : EntersAtMost (n + 1) s₀ (advanceRemoval p e).s := by
  simp only [advanceRemoval]
  split
  · exact removalExpires_enters p (he.of_eq ⟨rfl, rfl, rfl⟩)
  · exact he.mono.of_eq ⟨rfl, rfl, rfl⟩

theorem advanceTimers_enters (he : EntersAtMost n s₀ e.s) : EntersAtMost (n + 2) s₀ (advanceTimers e).s := by
  unfold advanceTimers
  split
  · exact advanceRemoval_enters _ (advancePlacement_enters _ he)
  · exact he.mono

/-! ### The works of an arrival up to the executive's (R24) -/

theorem overloadCheck_enters (ha : EntersAtMost n s₀ a.s) : EntersAtMost n s₀ (overloadCheck a).s := by
  simp only [overloadCheck]
  split
  · exact ha.of_eq (by simp)
  · exact ha.of_eq ⟨rfl, rfl, rfl⟩

theorem stepUp_enters (ha : EntersAtMost n s₀ a.s) : EntersAtMost (n + 1) s₀ (stepUp a).s := by
  unfold stepUp
  split
  · exact ha.mono
  split
  · exact updateTest_enters (addEvent_enters _ _ (ha.of_eq (by simp)))
  · exact ha.mono

theorem formStrain_enters (ha : EntersAtMost n s₀ a.s) : EntersAtMost n s₀ (formStrain a).s :=
  ha.of_eq (by simp)

theorem updatePeak_enters (ha : EntersAtMost n s₀ a.s) : EntersAtMost n s₀ (updatePeak a).s :=
  ha.of_eq (by simp)

theorem formHandover_enters (ha : EntersAtMost n s₀ a.s) : EntersAtMost (n + 1) s₀ (formHandover a).s := by
  unfold formHandover
  split
  · exact slipHandover_enters _ ha
  · split
    · exact removalHandover_enters _ _ ha
    · exact ha.mono
  · exact ha.mono

theorem evaluateArrival_enters (ha : EntersAtMost n s₀ a.s) : EntersAtMost (n + 2) s₀ (evaluateArrival a).s := by
  unfold evaluateArrival
  split
  · exact ha.mono
  next t _ =>
    have few : (if evaluated a then evaluateSample t.plan (samplePoint a.set) (rememberSample a.fracture a.set t.rev)
        else (rememberSample a.fracture a.set t.rev, [])).2.length ≤ 2 := by
      split
      · exact evaluateSample_entries ..
      · simp
    exact (addSampleEvents_enters _ (updateTest_enters ha)).mono (Nat.add_le_add_left few n)

theorem arrivalForExecutive_enters (code : Int) (range : LoadRange) (l : Latch) (s : State) :
    EntersAtMost 4 s (arrivalForExecutive code range l s).s := by
  have begun : EntersAtMost 0 s (beginArrival code range l s).s := .of_eq .rfl ⟨rfl, rfl, rfl⟩
  have formed := updatePeak_enters (formStrain_enters (stepUp_enters (overloadCheck_enters begun)))
  exact evaluateArrival_enters (formHandover_enters formed)

/-! ### The test executive at an arrival (R113, R116 to R118, R123 to R125) -/

theorem detectFracture_enters (ha : EntersAtMost n s₀ a.s) : EntersAtMost (n + 1) s₀ (detectFracture a).s := by
  unfold detectFracture
  split
  · exact (extFracture_enters (addEventAt_enters .fracture _ _ (updateTest_enters ha))).of_eq ⟨rfl, rfl, rfl⟩
  · exact ha.mono

theorem enterStage_enters (i : Nat) (d : StageDef) (ha : EntersAtMost n s₀ a.s) :
    EntersAtMost (n + 1) s₀ (enterStage i d a).s :=
  (beginStage_enters i d ha).of_eq ⟨rfl, rfl, rfl⟩

theorem endPreload_enters_events (p : Plan) (ha : EntersAtMost n s₀ a.s) :
    EntersAtMost (n + 2) s₀ (endPreload p a).s := by
  have ended q : EntersAtMost (n + 1) s₀
      (setPhase q (extPreloadEnd p.extRequired a.latch (addEvent .preloadEnd a.set.force a.s))) :=
    updateTest_enters (extPreloadEnd_enters _ _ (addEvent_enters _ _ ha))
  simp only [endPreload]
  split
  · exact (ended .placing).mono.of_eq ⟨rfl, rfl, rfl⟩
  split
  · exact enterStage_enters (a := { a with s := _ }) _ _ (ended .running)
  · exact (ended .running).mono

theorem takeEnd_enters (p : Plan) (r : StageRun) (d : StageDef) (ha : EntersAtMost n s₀ a.s) :
    EntersAtMost (n + 1) s₀ (takeEnd p r d a).s := by
  unfold takeEnd
  split
  · exact enterStage_enters _ _ ha
  · exact addEvent_enters _ _ (updateTest_enters ha)

theorem takeTimeout_enters (p : Plan) (r : StageRun) (d : StageDef) (ha : EntersAtMost n s₀ a.s) :
    EntersAtMost (n + 2) s₀ (takeTimeout p r d a).s := by
  have logged := addEvent_enters .stageTimeout r.index ha
  simp only [takeTimeout]
  split
  · exact ha.mono
  split
  · exact enterStage_enters (a := { a with s := _ }) _ _ logged
  · exact (updateTest_enters logged).mono

theorem judgeStage_enters_events (x : TestContext) (ha : EntersAtMost n s₀ a.s) :
    EntersAtMost (n + 2) s₀ (judgeStage x a).s := by
  unfold judgeStage
  split
  · exact ha.mono
  split
  · exact ha.mono
  split
  · exact (takeEnd_enters _ _ _ ha).mono
  split
  · exact takeTimeout_enters _ _ _ ha
  · exact ha.mono

theorem judgePhase_enters (x : TestContext) (ha : EntersAtMost n s₀ a.s) : EntersAtMost (n + 2) s₀ (judgePhase x a).s := by
  unfold judgePhase
  split
  · split
    · exact endPreload_enters_events _ ha
    · exact ha.mono
  · split
    · exact ha.mono
    · exact judgeStage_enters_events _ ha
  · simp only [countTail]
    split <;> exact (updateTest_enters ha).mono
  · exact ha.mono
  · exact ha.mono

theorem handoverHold_enters (p : Plan) (ha : EntersAtMost n s₀ a.s) : EntersAtMost (n + 1) s₀ (handoverHold p a).s := by
  unfold handoverHold
  split
  · exact removalHold_enters p ha
  · exact ha.mono

theorem executiveTakes_enters (ha : EntersAtMost n s₀ a.s) : EntersAtMost (n + 4) s₀ (executiveTakes a).s := by
  unfold executiveTakes
  split
  · exact ha.mono
  have fractured := detectFracture_enters ha
  simp only []
  split
  · exact fractured.mono
  split
  · split <;> exact fractured.mono
  split
  · exact (holdTest_enters _ fractured).mono
  · exact handoverHold_enters _ (judgePhase_enters _ fractured)

end Sys2Proof.Machine
end

section

/-! PROOF. The capture store stays sound through closures, activation, expiries, lines and arrivals (R94, R128, R176 to R182). -/

namespace Sys2Proof.Machine

variable {s : State} {a : Arrival} {e : Expiry}

/-! ### Closures and starts (R79, R94, R95, R111, R128) -/

theorem softLimitEvent_captureSound (up : Bool) (hs : CaptureSound s) : CaptureSound (softLimitEvent up s) := by
  have stopped : CaptureSound (sendWordValue 0 s) := hs.of_eq rfl
  unfold softLimitEvent
  split
  · exact .ite (closeTest_captureSound _ stopped) stopped
  · exact stopped
  · exact stopped.of_eq (by simp)
  · exact stopped

theorem sendWord_captureSound (hs : CaptureSound s) : CaptureSound (sendWord s) :=
  .ite (softLimitEvent_captureSound _ hs) (hs.of_eq rfl)

theorem takeStartTest_captureSound (rq : MotionRequest) (hs : CaptureSound s) : CaptureSound (takeStartTest rq s) := by
  unfold takeStartTest
  split
  · exact hs.of_eq (by simp)
  split
  · exact hs
  split
  · exact hs
  · exact activateTest_captureSound _ _ (hs.of_eq (by simp))

theorem takeRequest_captureSound (b : Bool) (rq : MotionRequest) (hs : CaptureSound s) : CaptureSound (takeRequest b rq s) := by
  unfold takeRequest
  split
  · exact hs.of_eq (by simp)
  split
  · exact hs.of_eq (by simp)
  · exact hs.of_eq (by simp)
  · exact .ite (hs.of_eq (by simp)) (hs.of_eq (by simp))
  · exact takeStartTest_captureSound _ hs
  · exact hs.of_eq (by simp)

theorem activationLoop_captureSound (n : Nat) (hs : CaptureSound s) : CaptureSound (activationLoop n s) := by
  induction n generalizing s with
  | zero => exact hs
  | succ n ih =>
    unfold activationLoop
    split
    · exact hs
    split
    · exact hs
    · exact ih (takeRequest_captureSound _ _ (hs.of_eq (by simp)))

theorem tryActivate_captureSound (hs : CaptureSound s) : CaptureSound (tryActivate s) :=
  activationLoop_captureSound _ hs

theorem activateAfterEnd_captureSound (b : State) (hs : CaptureSound s) : CaptureSound (activateAfterEnd b s) :=
  .ite (tryActivate_captureSound hs) hs

/-! ### Expiries (R21, R22, R50, R56) -/

theorem declareAtExpiry_captureSound (he : CaptureSound e.s) : CaptureSound (declareAtExpiry e).s := by
  unfold declareAtExpiry
  split
  · exact closeTest_captureSound _ (he.of_eq (by simp))
  · exact he

theorem wordAtExpiry_captureSound (he : CaptureSound e.s) : CaptureSound (wordAtExpiry e).s := by
  unfold wordAtExpiry
  split
  · exact sendWord_captureSound he
  · exact he

theorem expire_captureSound (hs : CaptureSound s) : CaptureSound (expire s).s := by
  have started : CaptureSound (startConversion s) := hs.of_eq (by simp)
  have timed : CaptureSound (advanceTimers (beginExpiry s)).s :=
    started.enters (advanceTimers_enters (e := beginExpiry s) (advanceStage_enters .rfl))
  exact activateAfterEnd_captureSound s (wordAtExpiry_captureSound (declareAtExpiry_captureSound timed))

/-! ### Edges and lines (R67 to R83) -/

theorem edge_captureSound (d : Direction) (hs : CaptureSound s) : CaptureSound (edge d s).s := by
  refine activateAfterEnd_captureSound s ?_
  unfold workEdge
  split
  · exact closeTest_captureSound _ (hs.of_eq (by simp [apply_ite State.cps]))
  simp only []
  split
  · exact hs.of_eq (by simp)
  · exact .ite (softLimitEvent_captureSound _ (hs.of_eq rfl)) (hs.of_eq rfl)

theorem hardLimitOn_captureSound (side : LimitSide) (hs : CaptureSound s) : CaptureSound (hardLimitOn side s) :=
  .ite hs (activateAfterEnd_captureSound s (closeTest_captureSound _ (hs.of_eq (by simp))))

theorem gateOpens_captureSound (hs : CaptureSound s) : CaptureSound (gateOpens s) := by
  have opened : CaptureSound (gateEndsMotion (setInputs { s.inputs with gateOpen := true } s)) := hs.of_eq (by simp)
  have sent := sendWord_captureSound (opened.enters (holdTest_enters .gate .rfl))
  exact .ite hs (activateAfterEnd_captureSound s (sent.of_eq (by simp)))

theorem emergencyStops_captureSound (hs : CaptureSound s) : CaptureSound (emergencyStops s) :=
  have stopped : CaptureSound (endMotionDisabled .estop (stopQueue (driveDisable
      (setInputs { s.inputs with estop := true } s)))) := hs.of_eq (by simp)
  .ite hs (.of_eq (closeTest_captureSound (.aborted .estop) stopped) (by simp [abortTest]))

theorem referenceSwitchOn_captureSound (hs : CaptureSound s) : CaptureSound (referenceSwitchOn s) :=
  .ite hs (.ite (activateAfterEnd_captureSound s (hs.of_eq (by simp))) (hs.of_eq rfl))

theorem brakeReleased_captureSound (hs : CaptureSound s) : CaptureSound (brakeReleased s) :=
  .ite (activateAfterEnd_captureSound s (hs.of_eq (by simp))) hs

/-! ### Arrivals (R24, R176) -/

theorem motionTakes_cps (a : Arrival) : (motionTakes a).s.cps = a.s.cps := by
  have evaluated x : (evaluateMove x a.s).cps = a.s.cps := by
    unfold evaluateMove
    (repeat' split) <;> simp
  have ended : (overloadEnds a.s).cps = a.s.cps := by
    unfold overloadEnds
    split <;> simp
  unfold motionTakes
  split
  · exact ended
  · exact evaluated _

theorem wordTakes_captureSound (ha : CaptureSound a.s) : CaptureSound (wordTakes a).s := by
  have sent w : CaptureSound (sendWordValue w a.s) := ha.of_eq rfl
  unfold wordTakes
  split
  · exact sent 0
  split
  · split
    · split <;> exact sent 0
    · exact softLimitEvent_captureSound _ ha
  · exact sent _

theorem captureTakes_captureSound (ha : CaptureSound a.s) : CaptureSound (captureTakes a).s := by
  unfold captureTakes
  split
  · exact ha
  · exact captureSample_captureSound _ _ _ ha

theorem closeOrCount_captureSound (ha : CaptureSound a.s) : CaptureSound (closeOrCount a).s := by
  unfold closeOrCount
  split
  · exact closeTest_captureSound _ ha
  · exact ha.of_eq rfl

theorem workArrival_captureSound (code : Int) (range : LoadRange) (l : Latch) (hs : CaptureSound s) :
    CaptureSound (workArrival code range l s).s := by
  have judged : CaptureSound (executiveTakes (arrivalForExecutive code range l s)).s :=
    hs.enters (executiveTakes_enters (arrivalForExecutive_enters code range l s))
  have moved : CaptureSound (motionTakes (loopTakes (executiveTakes (arrivalForExecutive code range l s)))).s :=
    judged.of_eq ((motionTakes_cps _).trans (by simp))
  have published : CaptureSound (publish (wordTakes (motionTakes (loopTakes (executiveTakes
      (arrivalForExecutive code range l s)))))).s := (wordTakes_captureSound moved).of_eq (by simp)
  exact closeOrCount_captureSound (captureTakes_captureSound published)

theorem arrive_captureSound {code : Int} (hs : CaptureSound s) (h : arrive code s = some a) : CaptureSound a.s := by
  obtain ⟨c, _, rfl⟩ := Option.map_eq_some_iff.1 h
  have worked := workArrival_captureSound code c.1 c.2 hs
  exact .ite (tryActivate_captureSound worked) (activateAfterEnd_captureSound s worked)

theorem arrived_captureSound (code : Int) (hs : CaptureSound s) : CaptureSound (arrived code s) := by
  unfold arrived
  split
  next arriving => exact arrive_captureSound hs arriving
  next => exact hs

end Sys2Proof.Machine

end

section

/-! PROOF. The capture store stays sound through the requests, and so through every step (R173, R178 to R183). -/

namespace Sys2Proof.Machine

variable {s t : State}

/-! ### The requests that start, end, hold or release (R85 to R99, R120 to R126) -/

theorem placeRequest_captureSound (rq : MotionRequest) (hs : CaptureSound s) : CaptureSound (placeRequest rq s) := by
  unfold placeRequest placeRetract
  split
  · split
    · exact takeRequest_captureSound _ _ (hs.of_eq (by simp))
    · exact hs.of_eq (by simp)
  · exact hs.of_eq (by simp)

theorem motionReply_captureSound (p : Port) (tag : Tag) (j : MotionJob) (hs : CaptureSound s) :
    CaptureSound (motionReply p tag j s).state := by
  unfold motionReply
  split
  · exact hs
  split
  · exact hs
  · exact tryActivate_captureSound (placeRequest_captureSound _ (.ite (hs.of_eq (by simp)) hs))

theorem jogReply_captureSound (p : Port) (tag : Tag) (d : Direction) (v n : Int) (hs : CaptureSound s) :
    CaptureSound (jogReply p tag d v n s).state := by
  have refreshed : CaptureSound (setJob (.jog d (min v s.xhc.config.jogLimit) n) s) := hs.of_eq (by simp)
  unfold jogReply
  split
  · exact hs
  split
  · exact .ite (activateAfterEnd_captureSound s (refreshed.of_eq (by simp)))
      (.ite (sendWord_captureSound (refreshed.of_eq rfl)) refreshed)
  · exact motionReply_captureSound _ _ _ hs

theorem releaseFrameReply_captureSound (p : Port) (hs : CaptureSound s) : CaptureSound (releaseFrameReply p s).state := by
  have passed : CaptureSound (passClaim s) := by
    unfold passClaim
    split
    · exact tryActivate_captureSound (hs.of_eq (by simp))
    · exact hs.of_eq (by simp)
  unfold releaseFrameReply
  split
  · split
    · exact hs
    split
    · exact hs
    · exact passed
  split
  · exact hs.of_eq (by simp)
  · exact hs

theorem stopMotionReply_captureSound (p : Port) (hs : CaptureSound s) : CaptureSound (stopMotionReply p s).state := by
  unfold stopMotionReply
  split
  · exact hs.of_eq (by simp)
  · split
    · exact hs
    · exact activateAfterEnd_captureSound s (hs.of_eq (by simp))
  · exact hs

theorem abortTestReply_captureSound (hs : CaptureSound s) : CaptureSound (abortTestReply s).state := by
  unfold abortTestReply
  split
  · exact hs
  · exact activateAfterEnd_captureSound s (closeTest_captureSound _ hs)
  · exact activateAfterEnd_captureSound s (closeTest_captureSound _ hs)

theorem holdTestReply_captureSound (hs : CaptureSound s) : CaptureSound (holdTestReply s).state := by
  unfold holdTestReply
  split
  · exact hs.enters (holdTest_enters _ .rfl)
  · exact hs

theorem resumeTestReply_captureSound (hs : CaptureSound s) : CaptureSound (resumeTestReply s).state := by
  unfold resumeTestReply
  split
  · exact hs
  split
  · exact hs
  · exact hs.enters (releaseTest_enters .rfl)

theorem adjustRateReply_captureSound (whole : Bool) (rate : Int) (hs : CaptureSound s) :
    CaptureSound (adjustRateReply whole rate s).state := by
  unfold adjustRateReply
  split
  · exact hs
  split
  · exact hs
  split
  · exact hs.enters (adjustRate_enters _ .rfl)
  · exact hs

/-! ### The extensometer's requests and READ PAGE (R49, R57, R58, R185) -/

theorem extensometerPlacedReply_captureSound (hs : CaptureSound s) : CaptureSound (extensometerPlacedReply s).state := by
  have zeroed : CaptureSound (beginActive (zeroAtRequest (stopPlacement s))) := hs.of_eq (by simp)
  unfold extensometerPlacedReply
  split
  · split
    · exact zeroed.enters (leavePlacing_enters .rfl)
    split
    · exact hs.of_eq (by simp)
    · exact hs
  · split
    · exact hs.of_eq (by simp)
    · exact hs
  all_goals exact hs

theorem extensometerRemovedReply_captureSound (hs : CaptureSound s) : CaptureSound (extensometerRemovedReply s).state := by
  unfold extensometerRemovedReply
  split
  · exact hs.enters (confirmRemoval_enters .rfl)
  · exact hs.enters (confirmRemoval_enters .rfl)
  · exact hs.of_eq rfl
  · exact hs.enters (unannouncedRemoval_enters .rfl)
  · exact hs
  · exact hs

theorem readPageReply_captureSound (hs : CaptureSound s) : CaptureSound (readPageReply s).state := by
  unfold readPageReply
  split
  · exact hs
  next head => exact freePage_captureSound head hs

/-! ### Every command and every step -/

/-- The commands that can reach the capture store: those after which a test may start, hold, go on or end, the samples, the
extensometer's requests and READ PAGE. -/
def reachesCapture : Instr → Bool
  | .referenceSearch _ | .startTest _ | .moveTo _ _ _ | .jog _ _ _ _ | .retract _ | .releaseFrame _ | .stopMotion _ => true
  | .abortTest _ | .holdTest _ | .resumeTest _ | .adjustRate _ _ => true
  | .extensometerPlaced _ | .extensometerRemoved _ | .readPage _ => true
  | .powerOnReset | .warmReset | .sampleTimerExpiry | .loadFaultDeclaration | .placementTimeout | .removalTimeout => true
  | .sampleArrival _ | .stageTimeout _ | .endOfTail _ | .brakeReleaseExpiry | .jogDurationExpiry | .activation => true
  | .encoderEdge _ | .searchTravelLimit _ | .referenceSwitchEvent | .hardLimitSwitchEvent _ | .gateOpening => true
  | .emergencyStopAssertion => true
  | _ => false

theorem request_cps {k : RequestKind} {r : Req} {body : State → Reply} (hbody : (body s).state.cps = s.cps)
    (h : request k r s body = .next t) : t.cps = s.cps :=
  request_keeps (P := fun u => u.cps = s.cps) (fun _ _ _ same => by simpa using same) (fun _ => hbody) rfl h

theorem next_cps {u : State} (h : (.next u : Result) = .next t) (same : u.cps = s.cps) : t.cps = s.cps := by
  cases h
  exact same

theorem exec_cps {i : Instr} (hi : reachesCapture i = false) (h : exec i s = .next t) : t.cps = s.cps := by
  cases i with
  | readStatus r => exact request_cps rfl h
  | readLive r => exact request_cps rfl h
  | readFlags r => exact request_cps (by simp [readFlagsReply]) h
  | ackFlags r w => exact request_cps (by unfold ackFlagsReply; split <;> simp) h
  | setNotices r w b => exact request_cps (by unfold setNoticesReply; (repeat' split) <;> simp) h
  | readQueue r => exact request_cps rfl h
  | nop r => exact request_cps rfl h
  | configureFrame r u => exact request_cps (by simp only [configureFrameReply]; (repeat' split) <;> simp) h
  | setRange r x => exact request_cps (by unfold setRangeReply; (repeat' split) <;> simp) h
  | tare r => exact request_cps (by unfold tareReply; (repeat' split) <;> simp) h
  | clearFaults r => exact request_cps rfl h
  | definePlan r x g l => exact request_cps (by unfold definePlanReply; (repeat' split) <;> simp) h
  | readPlan r x => exact request_cps (by unfold readPlanReply; (repeat' split) <;> simp) h
  | claimFrame r => exact request_cps (by unfold claimFrameReply; (repeat' split) <;> simp) h
  | collectCompletion r => exact request_cps (by unfold collectCompletionReply; split <;> simp) h
  | specimenMounted r x w t d => exact request_cps (by unfold specimenMountedReply; (repeat' split) <;> simp) h
  | specimenUnmounted r => exact request_cps (by unfold specimenUnmountedReply; (repeat' split) <;> simp) h
  | enqueueSpecimen r x => exact request_cps (by unfold enqueueSpecimenReply; (repeat' split) <;> simp) h
  | cancelSpecimen r x => exact request_cps (by unfold cancelSpecimenReply; (repeat' split) <;> simp) h
  | setGradeLimits r g l => exact request_cps (by unfold setGradeLimitsReply; (repeat' split) <;> simp) h
  | readGradeLimits r g => exact request_cps (by unfold readGradeLimitsReply; (repeat' split) <;> simp) h
  | collectResult r => exact request_cps (by unfold collectResultReply; split <;> simp) h
  | peekResult r => exact request_cps (by unfold peekResultReply; split <;> simp) h
  | writeSiteCalibration r x n l => exact request_cps (by unfold writeSiteCalibrationReply; (repeat' split) <;> simp) h
  | readCalibration r => exact request_cps rfl h
  | unknownRequest p tag k => exact next_cps h (by simp)
  | writeNotTaken p b => exact next_cps h (by split <;> simp)
  | readTransaction p n => exact next_cps h (by simp)
  | conversionEndStrobe =>
    simp only [exec, execConversionEndStrobe] at h
    split at h <;> exact next_cps h rfl
  | holdTimerExpiry => exact next_cps h (by split <;> rfl)
  | extQuadratureEdge d => exact next_cps h rfl
  | referenceSwitchRelease => exact next_cps h (by unfold referenceSwitchOff; (repeat' split) <;> simp)
  | hardLimitSwitchRelease side => exact next_cps h rfl
  | gateClosing => exact next_cps h (by unfold gateCloses; split <;> simp)
  | emergencyStopRelease => exact next_cps h rfl
  | calProgrammingCompletion l => exact next_cps h (by unfold completeProgramming; split <;> simp)
  | _ => cases hi

theorem request_captureSound {k : RequestKind} {r : Req} {body : State → Reply} (hs : CaptureSound s)
    (hbody : CaptureSound (body s).state) (h : request k r s body = .next t) : CaptureSound t :=
  request_keeps (fun _ _ _ hu => hu.of_eq (by simp)) (fun _ => hbody) hs h

theorem next_captureSound {u : State} (h : (.next u : Result) = .next t) (hu : CaptureSound u) : CaptureSound t := by
  cases h
  exact hu

theorem exec_captureSound {i : Instr} (hs : CaptureSound s) (h : exec i s = .next t) : CaptureSound t := by
  cases i with
  | referenceSearch r => exact request_captureSound hs (motionReply_captureSound _ _ _ hs) h
  | startTest r => exact request_captureSound hs (motionReply_captureSound _ _ _ hs) h
  | moveTo r x v => exact request_captureSound hs (motionReply_captureSound _ _ _ hs) h
  | jog r d v n => exact request_captureSound hs (jogReply_captureSound _ _ _ _ _ hs) h
  | retract r => exact request_captureSound hs (motionReply_captureSound _ _ _ hs) h
  | releaseFrame r => exact request_captureSound hs (releaseFrameReply_captureSound _ hs) h
  | stopMotion r => exact request_captureSound hs (stopMotionReply_captureSound _ hs) h
  | abortTest r => exact request_captureSound hs (abortTestReply_captureSound hs) h
  | holdTest r => exact request_captureSound hs (holdTestReply_captureSound hs) h
  | resumeTest r => exact request_captureSound hs (resumeTestReply_captureSound hs) h
  | adjustRate r x => exact request_captureSound hs (adjustRateReply_captureSound _ _ hs) h
  | extensometerPlaced r => exact request_captureSound hs (extensometerPlacedReply_captureSound hs) h
  | extensometerRemoved r => exact request_captureSound hs (extensometerRemovedReply_captureSound hs) h
  | readPage r => exact request_captureSound hs (readPageReply_captureSound hs) h
  | powerOnReset => exact next_captureSound h (reset_captureSound.of_eq rfl)
  | warmReset => exact next_captureSound h (discardCapture_captureSound hs rfl)
  | sampleTimerExpiry => exact next_captureSound h (expire_captureSound hs)
  | loadFaultDeclaration => exact next_captureSound h (.ite (expire_captureSound hs) hs)
  | placementTimeout => exact next_captureSound h (.ite (expire_captureSound hs) hs)
  | removalTimeout => exact next_captureSound h (.ite (expire_captureSound hs) hs)
  | sampleArrival code => exact next_captureSound h (arrived_captureSound code hs)
  | stageTimeout code =>
    simp only [exec, execStageTimeout] at h
    split at h
    next arriving => exact next_captureSound h (.ite (arrive_captureSound hs arriving) hs)
    next => exact next_captureSound h hs
  | endOfTail code =>
    simp only [exec, execEndOfTail] at h
    split at h
    next arriving => exact next_captureSound h (.ite (arrive_captureSound hs arriving) hs)
    next => exact next_captureSound h hs
  | brakeReleaseExpiry => exact next_captureSound h (brakeReleased_captureSound hs)
  | jogDurationExpiry => exact next_captureSound h (.ite (activateAfterEnd_captureSound s (hs.of_eq (by simp))) hs)
  | activation => exact next_captureSound h (tryActivate_captureSound hs)
  | encoderEdge d => exact next_captureSound h (edge_captureSound d hs)
  | searchTravelLimit d => exact next_captureSound h (.ite (edge_captureSound d hs) hs)
  | referenceSwitchEvent => exact next_captureSound h (referenceSwitchOn_captureSound hs)
  | hardLimitSwitchEvent side => exact next_captureSound h (hardLimitOn_captureSound side hs)
  | gateOpening => exact next_captureSound h (gateOpens_captureSound hs)
  | emergencyStopAssertion => exact next_captureSound h (emergencyStops_captureSound hs)
  | _ => exact hs.of_eq (exec_cps rfl h)

end Sys2Proof.Machine

open Sys2Proof Sys2Proof.Machine

/-- Settles O58: between samples a step leaves the capture store but for its EVENT mark (`EntersAtMost`), and a sample is thinned,
written, written into an opened page or lost, each with its counter and the level of the new free count
(`captureSample_captureSound`); a test's start and end and READ PAGE keep it too (`activateTest_captureSound`,
`closeTest_captureSound`, `freePage_captureSound`). -/
theorem captureKeptByEveryStep : Obligations.CaptureKeptByEveryStep := by
  unfold Obligations.CaptureKeptByEveryStep
  intro s t sound h
  exact step_keeps (P := CaptureSound) (fun _ _ hs => hs.of_eq rfl) (fun _ _ _ hs h => exec_captureSound hs h) sound h

end

section

/-! PROOF. What a sample taken by the capture store leaves in the test and on the record port (R178, R180 to R182). -/

namespace Sys2Proof.Machine

variable {s u v : State} {c c' : CaptureContext} {p : CapturePage} {t t' : TestContext} {d : Int} {raised : Bool}
  {x e : CaptureEntry} {n : Nat} {level : Nat} {full : List CapturePage} {kept event : Prop}

/-- The record port has the flags of its table (R203, R204). -/
def RecordNotices (s : State) : Prop :=
  (s.portOf .record).flags.map (fun e => e.1) = noticesOf .record

theorem RecordNotices.raises {m : Notice} (h : RecordNotices s) (own : m ∈ noticesOf .record) :
    (raise .record m s).flag .record m = .raised :=
  flag_raise_self (by rwa [h])

theorem RecordNotices.of_pif (h : RecordNotices s) (ports : u.pif = s.pif) : RecordNotices u := by
  simpa [RecordNotices, State.portOf, ports] using h

/-! ### The level that rises at an opening (R178) -/

theorem setLevel_rises (capture : s.cps.capture = some c) (rises : c.level < levelOf (freeCount s.cps)) :
    setLevel s = raise .record .capturePressure (addEvent .captureThin (levelOf (freeCount s.cps))
      (updateCapture (fun c => { c with level := levelOf (freeCount s.cps) }) s)) := by
  simp [setLevel, capture, rises]

/-- The test after the level is set: it has CAPTURE_THIN entered when the level rises. -/
def thinLogged (t : TestContext) (old level : Nat) : TestContext :=
  if old < level then t.logEvent ⟨.captureThin, sampleNumber t.arrivals, level⟩ else t

theorem setLevel_test (capture : s.cps.capture = some c) (test : s.tex.test = some t) :
    (setLevel s).tex.test = some (thinLogged t c.level (levelOf (freeCount s.cps))) := by
  by_cases rises : c.level < levelOf (freeCount s.cps)
  · rw [setLevel_rises capture rises, raise_test, addEvent_test _ _ (by simpa using test), thinLogged, if_pos rises]
  · rw [setLevel_silent capture (Nat.not_lt.1 rises), thinLogged, if_neg rises]
    simpa using test

theorem setLevel_presses (capture : s.cps.capture = some c) (has : RecordNotices s)
    (rises : c.level < levelOf (freeCount s.cps)) : (setLevel s).flag .record .capturePressure = .raised := by
  rw [setLevel_rises capture rises]
  exact (has.of_pif (by simp)).raises (by simp [noticesOf])

/-- A page is opened by setting the level in the store that has it. -/
theorem openPage_eq (c : CaptureContext) (n : Nat) (s : State) :
    ∃ v, openPage c n s = setLevel v ∧ v.tex = s.tex ∧ v.pif = s.pif ∧
      v.cps.capture = some { c with filling := some (openedPage c n), nextIndex := c.nextIndex + 1 } ∧
      freeCount v.cps = 127 - s.cps.full.length := by
  refine ⟨_, rfl, rfl, rfl, rfl, ?_⟩
  simp only [freeCount, fillingCount, updateCapture, Option.map_some, Option.isSome_some, if_true, Config.pageCount]
  omega

theorem openPage_test (c : CaptureContext) (n : Nat) (test : s.tex.test = some t) :
    (openPage c n s).tex.test = some (thinLogged t c.level (levelOf (127 - s.cps.full.length))) := by
  obtain ⟨v, opened, tex, -, capture, free⟩ := openPage_eq c n s
  rw [opened, setLevel_test capture (tex ▸ test), free]

theorem openPage_presses (n : Nat) (has : RecordNotices s) (rises : c.level < levelOf (127 - s.cps.full.length)) :
    (openPage c n s).flag .record .capturePressure = .raised := by
  obtain ⟨v, opened, -, pif, capture, free⟩ := openPage_eq c n s
  rw [opened]
  exact setLevel_presses capture (has.of_pif pif) (by rwa [free])

/-! ### A sample lost (R182) -/

/-- The test after a loss: CAPTURE_GAP set, and CAPTURE_LOSS entered at the first of the run. -/
def lossLogged (t : TestContext) (c : CaptureContext) : TestContext :=
  if c.lossRun then { t with flags := { t.flags with captureGap := true } }
  else TestContext.logEvent { t with flags := { t.flags with captureGap := true } }
    ⟨.captureLoss, sampleNumber t.arrivals, (c.lost + 1 : Nat)⟩

theorem loseSample_test (c : CaptureContext) (test : s.tex.test = some t) :
    (loseSample c s).tex.test = some (lossLogged t c) := by
  have flagged : (setTestFlags (fun f => { f with captureGap := true })
      (updateCapture (fun c => { c with lost := c.lost + 1, lossRun := true }) s)).tex.test =
        some { t with flags := { t.flags with captureGap := true } } := updateTest_test _ (by simpa using test)
  unfold loseSample lossLogged
  split
  · exact flagged
  · exact addEvent_test _ _ flagged

theorem lossLogged_gap (t : TestContext) (c : CaptureContext) : (lossLogged t c).flags.captureGap = true := by
  unfold lossLogged
  split
  · rfl
  · rw [(logEvent_kept _ _).2.2]

/-! ### The sample as a whole -/

section
variable (capture : s.cps.capture = some c) (taken : captureSample d raised x s = u)
include capture taken

theorem thinned_test (thinned : ¬ Kept d raised c x) : u.tex = s.tex := by
  rw [← taken, captureSample_thins capture thinned]
  rfl

theorem written_test (kept : Kept d raised c x) (filling : c.filling = some p) : u.tex = s.tex := by
  have counted := counted_capture capture
  rw [← taken, captureSample_keeps capture kept, keepSample_writes counted filling]
  simp

theorem completed_ready (kept : Kept d raised c x) (filling : c.filling = some p) (last : 256 ≤ p.entries.length + 1)
    (has : RecordNotices s) : u.flag .record .pageReady = .raised := by
  have counted := counted_capture capture
  rw [← taken, captureSample_keeps capture kept, keepSample_writes counted filling, (writeEntry_completes counted last).1]
  exact (has.of_pif (u := { s with cps := _ }) rfl).raises (by simp [noticesOf])

theorem opened_test (kept : Kept d raised c x) (closed : c.filling = none) (free : s.cps.full.length < 128)
    (test : s.tex.test = some t) :
    u.tex.test = some (thinLogged t c.level (levelOf (127 - s.cps.full.length))) := by
  have counted := counted_capture capture
  rw [← taken, captureSample_keeps capture kept, keepSample_opens counted closed free]
  simp only [updateCapture_frame, writeEntry_frame]
  exact openPage_test _ _ test

theorem opened_presses (kept : Kept d raised c x) (closed : c.filling = none) (free : s.cps.full.length < 128)
    (has : RecordNotices s) (rises : c.level < levelOf (127 - s.cps.full.length)) :
    u.flag .record .capturePressure = .raised := by
  have counted := counted_capture capture
  rw [← taken, captureSample_keeps capture kept, keepSample_opens counted closed free]
  refine (updateCapture_ports _ (writeEntry_ports _ _ .rfl)).raised _ _ ?_
  exact openPage_presses _ (has.of_pif rfl) rises

theorem lost_test (kept : Kept d raised c x) (closed : c.filling = none) (none_free : 128 ≤ s.cps.full.length)
    (test : s.tex.test = some t) : u.tex.test = some (lossLogged t c) := by
  have counted := counted_capture capture
  rw [← taken, captureSample_keeps capture kept, keepSample_loses counted closed none_free]
  exact loseSample_test { c with taken := c.taken + 1 } test

end

end Sys2Proof.Machine
end

section

/-! PROOF. The fates of a sample in the capture store: thinned, written, written into an opened page, or lost (R176 to R182). -/

namespace Sys2Proof.Machine

variable {s u v : State} {c c' : CaptureContext} {p : CapturePage} {t t' t'' : TestContext} {d : Int} {raised : Bool}
  {x e : CaptureEntry} {n : Nat} {full : List CapturePage} {kept event : Prop}

/-- What a store that is known says of the FULL pages and the context in it. -/
theorem store_left {cps : CaptureStore} (store : u.cps = cps) (capture : u.cps.capture = some c) :
    u.cps.full = cps.full ∧ cps.capture = some c :=
  ⟨congrArg CaptureStore.full store, store ▸ capture⟩

/-- The counters a sample leaves, whatever its fate (R176, R177). -/
theorem captureSample_counts (capture : s.cps.capture = some c)
    (capture' : (captureSample d raised x s).cps.capture = some c') :
    c'.serial = c.serial ∧ c'.taken = c.taken + 1 ∧ c'.pendingEvent = false ∧
      (Kept d raised c x → c'.thinned = c.thinned) := by
  by_cases kept : Kept d raised c x
  · cases filling : c.filling with
    | some p =>
      by_cases room : p.entries.length + 1 < 256
      · cases (store_left (captureSample_store_fills capture kept filling room) capture').2
        exact ⟨rfl, rfl, rfl, fun _ => rfl⟩
      · cases (store_left (captureSample_store_completes capture kept filling (Nat.not_lt.1 room)) capture').2
        exact ⟨rfl, rfl, rfl, fun _ => rfl⟩
    | none =>
      by_cases free : s.cps.full.length < 128
      · cases (store_left (captureSample_store_opens capture kept filling free) capture').2
        exact ⟨rfl, rfl, rfl, fun _ => rfl⟩
      · cases (store_left (captureSample_store_loses capture kept filling (Nat.not_lt.1 free)) capture').2
        exact ⟨rfl, rfl, rfl, fun _ => rfl⟩
  · cases (store_left (captureSample_store_thins capture kept) capture').2
    exact ⟨rfl, rfl, rfl, fun h => absurd h kept⟩

/-- What becomes of a sample of number `n`: with the context `c` and the FULL pages `full` before it, and `c'`, the state `u` and
its test `t'` after it; `kept` says that it is kept, and `e` is its entry. -/
structure SampleFates (c c' : CaptureContext) (full : List CapturePage) (n : Nat) (u : State) (t' : TestContext) (kept : Prop)
    (e : CaptureEntry) : Prop where
  thins : ¬ kept → c'.thinned = c.thinned + 1 ∧ c'.stored = c.stored ∧ c'.lost = c.lost ∧ c'.filling = c.filling ∧
    u.cps.full = full
  keeps : kept → c'.thinned = c.thinned
  writes : kept → ∀ p, c.filling = some p → c'.stored = c.stored + 1 ∧ c'.lost = c.lost ∧ c'.lossRun = false ∧
    (p.entries.length + 1 < 256 → c'.filling = some { p with entries := p.entries ++ [e] } ∧ u.cps.full = full) ∧
    (256 ≤ p.entries.length + 1 →
      c'.filling = none ∧ u.cps.full = full ++ [{ p with entries := p.entries ++ [e] }] ∧
        u.flag .record .pageReady = .raised)
  opens : kept → c.filling = none → full.length < 128 →
    c'.stored = c.stored + 1 ∧ c'.lost = c.lost ∧ c'.lossRun = false ∧ c'.nextIndex = c.nextIndex + 1 ∧
      c'.level = levelOf (127 - full.length) ∧ u.cps.full = full ∧
      c'.filling = some { openedPage c n with entries := [e] } ∧
      (c.level < c'.level →
        u.flag .record .capturePressure = .raised ∧ ⟨.captureThin, n, c'.level⟩ ∈ t'.events)
  loses : kept → c.filling = none → 128 ≤ full.length →
    c'.lost = c.lost + 1 ∧ c'.stored = c.stored ∧ c'.lossRun = true ∧ c'.filling = none ∧ u.cps.full = full ∧
      t'.flags.captureGap = true ∧ (c.lossRun = false → ⟨.captureLoss, n, c.lost + 1⟩ ∈ t'.events)

/-- The fates speak of the store, the notices, the events and the flags only. -/
theorem SampleFates.of_eq (h : SampleFates c c' full n u t' kept e) (store : v.cps = u.cps) (ports : v.pif = u.pif)
    (events : t''.events = t'.events) (flags : t''.flags = t'.flags) : SampleFates c c' full n v t'' kept e := by
  obtain ⟨thins, keeps, writes, opens, loses⟩ := h
  simp only [← store, ← flag_of_pif ports, ← events, ← flags] at thins writes opens loses
  exact ⟨thins, keeps, writes, opens, loses⟩

/-- The EVENT mark before the sample is no part of its fates. -/
theorem SampleFates.of_marked {b : Bool} (h : SampleFates { c with pendingEvent := b } c' full n u t' kept e) :
    SampleFates c c' full n u t' kept e := by
  obtain ⟨thins, keeps, writes, opens, loses⟩ := h
  exact ⟨thins, keeps, writes, opens, loses⟩

/-- A rise of the level enters one event, while there is room (R178). -/
theorem thinLogged_events {old level : Nat} (room : t.events.length < 24) :
    (thinLogged t old level).events ≠ t.events ↔ old < level := by
  unfold thinLogged
  split <;> simp [logEvent_room room, *]

section
variable (capture : s.cps.capture = some c) (taken : captureSample d raised x s = u)
  (test : s.tex.test = some t) (test' : u.tex.test = some t')
  (isEvent : event ↔ c.pendingEvent = true ∨ raised = true ∨ t'.events ≠ t.events)
include capture taken test test' isEvent

/-- The store enters an event only for a sample it keeps: so the rule for keeping may ask for the EVENT mark the sample has in
the end (R177, R179). -/
theorem kept_iff (isKept : kept ↔ (x.number : Int) % (d * 2 ^ c.level) = 0 ∨ event) : kept ↔ Kept d raised c x := by
  rw [isKept, isEvent]
  constructor
  · intro h
    by_contra thinned
    have same := thinned_test capture taken thinned
    rw [same, test] at test'
    cases test'
    refine thinned ?_
    unfold Kept
    tauto
  · unfold Kept
    tauto

/-- A written sample's entry carries EVENT as it did when the store took it. -/
theorem written_entry (kept : Kept d raised c x) (filling : c.filling = some p) (entry : e = { x with event := e.event })
    (mark : e.event = true ↔ event) : e = markedEntry raised c x := by
  have same := written_test capture taken kept filling
  rw [same, test] at test'
  cases test'
  have marked : e.event = (raised || c.pendingEvent) := by
    rw [Bool.eq_iff_iff, mark, isEvent]
    simp [or_comm]
  rw [entry, marked]
  rfl

/-- The entry of a sample that opens a page carries EVENT too when the opening raises the level (R177, R178). -/
theorem opened_entry (kept : Kept d raised c x) (closed : c.filling = none) (free : s.cps.full.length < 128)
    (room : t.events.length < 24) (entry : e = { x with event := e.event }) (mark : e.event = true ↔ event) :
    e = { x with event :=
      (raised || c.pendingEvent) || (c.pendingEvent || thinMarks c (127 - s.cps.full.length) s) } := by
  have logged := opened_test capture taken kept closed free test
  rw [test', Option.some_inj] at logged
  have marked : e.event = ((raised || c.pendingEvent) || (c.pendingEvent || thinMarks c (127 - s.cps.full.length) s)) := by
    rw [Bool.eq_iff_iff, mark, isEvent, logged, thinLogged_events room]
    simp [thinMarks, test]
    tauto
  rw [← marked]
  exact entry

theorem captureSample_fates (capture' : u.cps.capture = some c') (room : t.events.length < 24) (has : RecordNotices s)
    (number : x.number = sampleNumber t.arrivals)
    (isKept : kept ↔ (x.number : Int) % (d * 2 ^ c.level) = 0 ∨ event) (entry : e = { x with event := e.event })
    (mark : e.event = true ↔ event) : SampleFates c c' s.cps.full x.number u t' kept e := by
  rw [kept_iff capture taken test test' isEvent isKept]
  have left {cps : CaptureStore} (store : (captureSample d raised x s).cps = cps) :
      u.cps.full = cps.full ∧ cps.capture = some c' := store_left (taken ▸ store) capture'
  refine ⟨fun thinned => ?_, fun kept => ?_, fun kept p filling => ?_, fun kept closed free => ?_,
    fun kept closed none_free => ?_⟩
  · obtain ⟨pages, context⟩ := left (captureSample_store_thins capture thinned)
    cases context
    exact ⟨rfl, rfl, rfl, rfl, pages⟩
  · exact (captureSample_counts capture (taken ▸ capture')).2.2.2 kept
  · obtain rfl := written_entry capture taken test test' isEvent kept filling entry mark
    by_cases fits : p.entries.length + 1 < 256
    · obtain ⟨pages, context⟩ := left (captureSample_store_fills capture kept filling fits)
      cases context
      exact ⟨rfl, rfl, rfl, fun _ => ⟨rfl, pages⟩, fun last => absurd fits (Nat.not_lt.2 last)⟩
    · have last := Nat.not_lt.1 fits
      obtain ⟨pages, context⟩ := left (captureSample_store_completes capture kept filling last)
      cases context
      exact ⟨rfl, rfl, rfl, fun room => absurd room fits,
        fun _ => ⟨rfl, pages, completed_ready capture taken kept filling last has⟩⟩
  · obtain rfl := opened_entry capture taken test test' isEvent kept closed free room entry mark
    obtain ⟨pages, context⟩ := left (captureSample_store_opens capture kept closed free)
    have logged := opened_test capture taken kept closed free test
    rw [test', Option.some_inj] at logged
    cases context
    refine ⟨rfl, rfl, rfl, rfl, rfl, pages, rfl, fun rises => ⟨opened_presses capture taken kept closed free has rises, ?_⟩⟩
    rw [logged, thinLogged, if_pos rises, number]
    exact mem_logEvent room
  · obtain ⟨pages, context⟩ := left (captureSample_store_loses capture kept closed none_free)
    have logged := lost_test capture taken kept closed none_free test
    rw [test', Option.some_inj] at logged
    cases context
    refine ⟨rfl, rfl, rfl, closed, pages, logged ▸ lossLogged_gap t c, fun first => ?_⟩
    rw [logged, lossLogged, first, number]
    exact mem_logEvent room

end

end Sys2Proof.Machine
end

section

/-! PROOF. A test's arrival as the capture store takes it (R24, R176, R177), and READ PAGE (R185). -/

namespace Sys2Proof.Machine

variable {s s₀ : State} {a : Arrival} {t t' : TestContext} {m : MountedSpecimen} {b : StrainBasis} {range : LoadRange}
  {l : Latch} {code : Int} {c c' : CaptureContext} {n : Nat}

/-! ### The new test peak (R38) -/

theorem updatePeak_peakRaised (a : Arrival) : (updatePeak a).peakRaised = (raisesPeak a.s a.set || a.peakRaised) := by
  unfold updatePeak
  split <;> simp [*]

/-- The sample is marked as a new peak exactly when the arrival leaves another peak (R38, R177). -/
theorem ArrivalInTest.peakRaised_iff (code : Int) (h : ArrivalInTest s t m b range l) :
    (arrivalForExecutive code range l s).peakRaised = true ↔
      (closeOrCount (loopToCapture (executiveTakes (arrivalForExecutive code range l s)))).s.ldc.peak ≠ s.ldc.peak := by
  obtain ⟨-, x, u, published, -, latest, peak, -⟩ := h.published code
  obtain ⟨next, latest'⟩ := h.exec_executive code
  obtain rfl : (closeOrCount (loopToCapture (executiveTakes (arrivalForExecutive code range l s)))).s = u :=
    Host.Outcome.next.inj (next.symm.trans published)
  obtain rfl := Option.some_inj.1 (latest'.symm.trans latest)
  obtain ⟨-, before, t₁, test₁⟩ := h.stepped_kept code
  have raises := raisesPeak_iff (s := (formStrain (stepUp (overloadCheck (beginArrival code range l s)))).s)
    (x := (arrivalForExecutive code range l s).set) (by simpa using test₁)
  have marked : (arrivalForExecutive code range l s).peakRaised =
      raisesPeak (formStrain (stepUp (overloadCheck (beginArrival code range l s)))).s
        (arrivalForExecutive code range l s).set := by
    simp [arrivalForExecutive, updatePeak_peakRaised, beginArrival]
  rw [marked, raises, peak]
  simp only [formStrain_frame, before]
  split
  next higher =>
    refine iff_of_true higher fun same => ?_
    exact lt_irrefl _ (higher.2 _ same.symm)
  next lower => exact iff_of_false lower fun changed => changed rfl

/-! ### The sample that comes to the store (R24, R177) -/

/-- The arrival of a test with its word formed and its sample set published. -/
def publishedArrival (a : Arrival) : Arrival :=
  publish (wordTakes (loopTakes a))

theorem publishedArrival_kept (active : testIsActive a.s = true) :
    (publishedArrival a).s.tex = a.s.tex ∧ (publishedArrival a).s.cps = a.s.cps ∧ (publishedArrival a).s.pif = a.s.pif ∧
      (publishedArrival a).set = a.set ∧ (publishedArrival a).peakRaised = a.peakRaised := by
  obtain ⟨w, word, set, peak, -⟩ := wordTakes_test (loopTakes a) (by simpa [testIsActive] using active)
  simp [publishedArrival, word, set, peak]

theorem loopToCapture_captures (active : testIsActive a.s = true) (test : a.s.tex.test = some t) :
    (loopToCapture a).s =
      captureSample t.plan.divisor a.peakRaised (captureEntry (publishedArrival a)) (publishedArrival a).s := by
  obtain ⟨tex, -, -, -, peak⟩ := publishedArrival_kept active
  have plan : (publishedArrival a).s.plan = some t.plan := by simp [State.plan, tex, test]
  rw [loopToCapture, ← publishedArrival, captureTakes, plan]
  simp [peak]

/-- What the works of an arrival before the capture leave of store and event list (R129, R177). -/
theorem EntersAtMost.mark_iff (h : EntersAtMost n s₀ s) (test : s.tex.test = some t') (test₀ : s₀.tex.test = some t)
    (few : t.events.length < 24) (capture : s₀.cps.capture = some c) :
    s.cps.full = s₀.cps.full ∧ ∃ mark, s.cps.capture = some { c with pendingEvent := mark } ∧
      (mark = true ↔ c.pendingEvent = true ∨ t'.events.length ≠ t.events.length) := by
  obtain ⟨-, -, -, -, store⟩ := h
  rw [entries_of_test test, entries_of_test test₀] at store
  obtain ⟨cps, entries⟩ | ⟨cps, entered⟩ := store
  · exact ⟨by rw [cps], c.pendingEvent, by rw [cps, capture], by simp [entries]⟩
  · refine ⟨by rw [cps]; rfl, true, by simp [cps, eventMarked, capture], iff_of_true (Eq.refl _) (.inr ?_)⟩
    omega

theorem EntersAtMost.recordNotices (h : EntersAtMost n s₀ s) (ports : PortsSound s₀) : RecordNotices s := by
  have record : s.pif.record.flags.map (fun e => e.1) = s₀.pif.record.flags.map fun e => e.1 := by
    have notices := h.notices
    simp only [PortInterface.notices, List.map_cons, List.cons.injEq] at notices
    exact notices.2.2.1
  exact record.trans (ports.flags .record)

/-- The arrival's test, store and port as its sample comes to the capture store. -/
structure ComesToStore (s : State) (t : TestContext) (c : CaptureContext) (a : Arrival) (t₁ : TestContext) (mark : Bool) :
    Prop where
  active : testIsActive a.s = true
  test : a.s.tex.test = some t₁
  plan : t₁.plan = t.plan
  arrivals : t₁.arrivals = t.arrivals
  events : t.events <+: t₁.events
  room : t₁.events.length < 24
  full : a.s.cps.full = s.cps.full
  capture : a.s.cps.capture = some { c with pendingEvent := mark }
  marked : mark = true ↔ c.pendingEvent = true ∨ t₁.events ≠ t.events
  notices : RecordNotices a.s

theorem ArrivalInTest.comesToStore (code : Int) (h : ArrivalInTest s t m b range l) (capture : s.cps.capture = some c)
    (ports : PortsSound s) (room : HasRoom t) :
    ∃ t₁ mark, ComesToStore s t c (executiveTakes (arrivalForExecutive code range l s)) t₁ mark := by
  have entered := executiveTakes_enters (arrivalForExecutive_enters code range l s)
  have same := executiveTakes_identity code range l s
  have count := entered.arrivals
  have most := entered.most
  have active : Machine.testIsActive (executiveTakes (arrivalForExecutive code range l s)).s = true := by
    obtain ⟨-, -, mar, -⟩ := arrivalForExecutive_frame code range l s
    simpa [Machine.testIsActive, mar] using h.testIsActive
  cases test : (executiveTakes (arrivalForExecutive code range l s)).s.tex.test with
  | none =>
    rw [test, h.test] at count
    cases count
  | some t₁ =>
    rw [entries_of_test test, entries_of_test h.test] at most
    unfold HasRoom at room
    obtain ⟨full, mark, now, marked⟩ := entered.mark_iff test h.test (by omega) capture
    rw [test, h.test, Option.map_some, Option.map_some, Option.some_inj] at same count
    have events : t.events <+: t₁.events := by
      simpa [entries_of_test test, entries_of_test h.test] using entered.grows
    have longer : t₁.events.length ≠ t.events.length ↔ t₁.events ≠ t.events :=
      not_congr ⟨fun same => (events.eq_of_length same.symm).symm, fun same => by rw [same]⟩
    exact ⟨t₁, mark, active, test, congrArg (fun x => x.2.2.2) same, count, events, by omega, full, now, by rw [marked, longer],
      entered.recordNotices ports⟩

/-! ### The sample captured, and the test counted on -/

/-- A test that goes on is as the capture leaves it, but for its count of arrivals (R24, R176 to R182). -/
theorem ComesToStore.captured {t₁ : TestContext} {mark : Bool} (h : ComesToStore s t c a t₁ mark)
    (left : (closeOrCount (loopToCapture a)).s.tex.test = some t')
    (left' : (closeOrCount (loopToCapture a)).s.cps.capture = some c') (number : a.set.number.getD 0 = sampleNumber t.arrivals) :
    c'.serial = c.serial ∧ c'.taken = c.taken + 1 ∧ c'.pendingEvent = false ∧
      ∀ (event kept : Prop) (e : CaptureEntry),
        (event ↔ c.pendingEvent = true ∨ a.peakRaised = true ∨ t'.events ≠ t.events) →
        (kept ↔ ((a.set.number.getD 0 : Nat) : Int) % (t.plan.divisor * 2 ^ c.level) = 0 ∨ event) →
        e = { captureEntry (publishedArrival a) with event := e.event } → (e.event = true ↔ event) →
        SampleFates c c' s.cps.full (a.set.number.getD 0) (closeOrCount (loopToCapture a)).s t' kept e := by
  obtain ⟨active, test, plan, arrivals, events, room, full, capture, marked, notices⟩ := h
  obtain ⟨tex, cps, pif, set, -⟩ := publishedArrival_kept active
  obtain ⟨closing, -, -, t₂, test₂, rfl⟩ := closeOrCount_goesOn left
  have taken := (loopToCapture_captures active test).symm
  have counted := closeOrCount_counts (loopToCapture a) closing
  rw [plan] at taken
  rw [counted] at left' ⊢
  have capture : (publishedArrival a).s.cps.capture = some { c with pendingEvent := mark } := by rw [cps, capture]
  have sampled : (captureEntry (publishedArrival a)).number = a.set.number.getD 0 := by rw [captureEntry, set]
  obtain ⟨serial, count, used, -⟩ := captureSample_counts capture (c' := c') (by rw [taken]; exact left')
  refine ⟨serial, count, used, fun event kept e isEvent isKept entry now => ?_⟩
  have grown : t₁.events <+: t₂.events := by
    have grows : TestGrows (publishedArrival a).s (loopToCapture a).s := captureTakes_grows .rfl
    exact (grows.grown (by rw [tex, test]) test₂).events
  have changed : t₂.events ≠ t.events ↔ t₂.events ≠ t₁.events ∨ t₁.events ≠ t.events := by
    refine ⟨fun differs => ?_, fun differs same => ?_⟩
    · by_contra none_entered
      push Not at none_entered
      exact differs (none_entered.1.trans none_entered.2)
    · have back : t₁.events = t.events :=
        (events.eq_of_length (le_antisymm events.length_le (same ▸ grown.length_le))).symm
      exact differs.elim (fun entered => entered (same.trans back.symm)) fun entered => entered back
  have fates := captureSample_fates (event := event) (kept := kept) (e := e) capture taken (by rw [tex, test]) test₂
    (by rw [isEvent, changed, marked]; simp only [or_comm, or_left_comm]) left' room (notices.of_pif pif)
    (by rw [sampled, number, arrivals]) (by rw [sampled]; exact isKept) entry now
  rw [sampled, cps, full] at fates
  exact fates.of_marked.of_eq rfl rfl rfl rfl

/-- The entry as it is told from the state the arrival leaves (R177). -/
theorem ComesToStore.entry_left {t₁ : TestContext} {mark : Bool} (h : ComesToStore s t c a t₁ mark)
    (left : (closeOrCount (loopToCapture a)).s.tex.test = some t') :
    captureEntry (publishedArrival a) =
      { number := a.set.number.getD 0, force := a.set.force, stress := a.set.stress.getD 0, strain := a.set.strain,
        extCount := a.set.extCount, position := a.set.position, setPoint := (closeOrCount (loopToCapture a)).s.xhc.word,
        invalid := a.set.invalid, saturated := a.set.saturated, strainXh := a.set.source == .xh,
        held := (closeOrCount (loopToCapture a)).s.isHeld, event := false } := by
  obtain ⟨tex, -, -, set, -⟩ := publishedArrival_kept h.active
  obtain ⟨closing, -, -, t₂, test₂, -⟩ := closeOrCount_goesOn left
  have published : InTest 0 t₁ (publishedArrival a).s := inTest_of_test (by rw [tex, h.test])
  obtain ⟨t₃, test₃, grown⟩ := captureTakes_inTest published
  have held : (publishedArrival a).s.isHeld = (closeOrCount (loopToCapture a)).s.isHeld := by
    have same : (loopToCapture a).s.tex.test = some t₃ := test₃
    rw [closeOrCount_counts _ closing]
    simp [State.isHeld, State.phase, tex, h.test, same, grown.phase]
  have word : (publishedArrival a).s.xhc.word = (closeOrCount (loopToCapture a)).s.xhc.word := by
    rw [closeOrCount_counts _ closing, loopToCapture, ← publishedArrival]
    simp
  rw [captureEntry, set, held, word]

/-! ### READ PAGE (R185) -/

/-- The page read becomes FREE, and with more FREE pages the level falls or stays, silently (R178, R185). -/
theorem freePage_silent {p : CapturePage} {rest : List CapturePage} (head : s.cps.full = p :: rest) (hs : CaptureSound s) :
    freePage rest s =
      { s with cps :=
        { full := rest,
          capture := s.cps.capture.map fun c => { c with level := levelOf (128 - rest.length - fillingCount s.cps) } } } := by
  cases capture : s.cps.capture with
  | none => simp [freePage, setLevel, capture]
  | some c =>
    have before := hs.level c capture
    have freed : freeCount { s.cps with full := rest } = 128 - rest.length - fillingCount s.cps := rfl
    have more : freeCount s.cps ≤ freeCount { s.cps with full := rest } := by
      rw [freed, freeCount, head, List.length_cons, Config.pageCount]
      omega
    have silent := setLevel_silent (s := { s with cps := { s.cps with full := rest } }) capture
      (before ▸ levelOf_antitone more)
    rw [freePage, silent, ← freed]
    simp [updateCapture, capture]

end Sys2Proof.Machine

open Sys2Proof Sys2Proof.Machine

/-- Settles O31: the works before the capture leave the store but for its EVENT mark (`ArrivalInTest.comesToStore`), the store
thins, writes or loses the sample (`captureSample_fates`), and READ PAGE frees a page, which never raises the level
(`freePage_silent`). -/
theorem pageReadAndFreed : Obligations.PageReadAndFreed := by
  unfold Obligations.PageReadAndFreed
  refine ⟨fun s t m b range l code c h capture ports room => ?_, fun r s form port sound => ?_⟩
  · obtain ⟨next, latest⟩ := h.exec_executive code
    refine ⟨_, _, next, latest, fun t' c' left left' => ?_⟩
    have number : (executiveTakes (arrivalForExecutive code range l s)).set.number.getD 0 = sampleNumber t.arrivals := by
      simp [arrivalForExecutive, (h.loadSample code).1]
    have peak := h.peakRaised_iff code
    obtain ⟨t₁, mark, comes⟩ := h.comesToStore code capture ports room
    obtain ⟨serial, taken, used, fates⟩ := comes.captured left left' number
    have entry := comes.entry_left left
    simp only [executiveTakes_frame] at fates entry
    refine ⟨serial, taken, used, fun event kept e isEvent isKept isEntry now => ?_⟩
    obtain ⟨thins, keeps, writes, opens, loses⟩ :=
      fates event kept e (by rw [isEvent, peak]) isKept (by rw [entry]; exact isEntry) now
    exact ⟨thins, fun k => ⟨keeps k, writes k, opens k, loses k⟩⟩
  · have reads : permitted .readPage r.port = true := by rw [port]; rfl
    refine ⟨fun empty => ?_, fun p rest head => ?_⟩
    · exact request_answered reads form (by rw [readPageReply, empty]; rfl)
    · exact request_answered reads form (by simp only [readPageReply, head, freePage_silent head sound])

end
